-- ==== Sys2Proof/Word.lean ====
section
/-! DEFINITION. The names of the part's fixed sets of things (00_scope.md 0.9) and its byte.
Times, durations, counts and record numbers are natural numbers: the manual saturates and clamps them and never wraps
them (00_scope.md 0.7). Bit vectors are kept for what the manual treats as bits. -/

namespace Sys2Proof

/-- One byte on a port's bus. -/
abbrev Byte := BitVec 8

/-- Ports P0 to P5. -/
abbrev PortId := Fin 6

/-- Stations S0 to S11. -/
abbrev StationId := Fin 12

/-- Waves W0 to W31. -/
abbrev WaveId := Fin 32

/-- Diversion table indexes 0 to 7. -/
abbrev DiversionId := Fin 8

/-- Item codes 0 to 4095; diversions compare them bit by bit (R46). -/
abbrev ItemCode := BitVec 12

/-- The eight modifier flags M0 to M7 of a line, Mn in bit n (R46, 10.2). -/
abbrev Modifiers := BitVec 8

/-- A set of line indexes, line n in bit n (10.4). -/
abbrev LineSet := BitVec 16

end Sys2Proof
end

