-- ==== Sys2Proof/Config.lean ====
section
/-! DEFINITION. The sizes the manual fixes (00_scope.md 0.9) and the values it leaves open.
An open value is an `opaque` constant with no body: nothing can be proved of it. -/

namespace Sys2Proof.Config

/-- Live tickets the ticket table holds (R50). -/
def ticketCapacity : Nat := 512
/-- Lines the line store holds (R50). -/
def lineCapacity : Nat := 2048
/-- Slips the slip store holds (R78). -/
def slipCapacity : Nat := 1024
/-- Member lines a slip may have (R80). -/
def memberCapacity : Nat := 16
/-- Entries of the menu table (R33). -/
def menuCapacity : Nat := 256
/-- Places of a port's notice queue (R154). -/
def noticeCapacity : Nat := 24
/-- The error count at which a port is muted (R148). -/
def muteCount : Nat := 16
/-- Consecutive take timeouts that put a station DOWN (R112). -/
def missedLimit : Nat := 3
/-- The largest time and the largest record number (R1, R3). -/
def maxTime : Nat := 65535
/-- Parameter bytes a frame may carry (R138). -/
def maxParams : Nat := 60
/-- Bytes of a write transaction that a port acknowledges after its address byte (R136). -/
def maxFrame : Nat := 62
/-- Member entries in one QUERY SLIP reply (R97). -/
def memberPage : Nat := 10
/-- Line entries in one QUERY TICKET reply (R76). -/
def linePage : Nat := 6
/-- Entries in one LIST reply (R157). -/
def listPage : Nat := 14

/-- REFCLK cycles in a second: 4.000 MHz (0.5). -/
def cyclesPerSecond : Nat := 4000000
/-- REFCLK cycles in a tenth of a second (R160). -/
def cyclesPerTenth : Nat := 400000
/-- REFCLK cycles in the 25 ms stretch limit (R145). -/
def cyclesPerStretch : Nat := 100000

/-- FREE VALUE (assumption 4): the two bytes of QUERY WAVE's delay amount for a wave that is not FREE and has no delay in
flight, by the number of free values taken before. R31 gives the field "while the flag is set" alone. -/
opaque absentDelayAmount : Nat → BitVec 16

/-- FREE VALUE (assumption 4): QUERY WAVE's count of slips left on the delay list where no delay is in flight. -/
opaque absentDelayLeft : Nat → BitVec 16

end Sys2Proof.Config
end

