-- ==== Sys2Proof/Syntax.lean ====
section
/-! DEFINITION. What reaches the part from outside: the frames its masters write, the reads they make, the expiries of its
timers, the steps of its operations in flight and its two resets, one constructor per row of spec/opcode_table.json. -/

namespace Sys2Proof

/-- The commands of the command table (10.2), one per command code. -/
inductive Cmd where
  | openService
  | closeService
  | serviceReset
  | setLimits
  | status
  | defineWave
  | sealWave
  | holdWave
  | releaseWave
  | delayWave
  | fireWave
  | queryWave
  | setItem
  | clearItem
  | clearMenu
  | queryItem
  | setDiversion
  | queryDiversion
  | markOut
  | markIn
  | submitTicket
  | voidTicket
  | pickup
  | refire
  | queryTicket
  | querySlip
  | setStation
  | pauseStation
  | resumeStation
  | queryStation
  | stationDown
  | stationOpen
  | take
  | bump
  | forceBump
  | setPortMode
  | portRestart
  | list
  deriving DecidableEq, Repr

/-- A write transaction that carries a frame (R136): the port whose bus carries it, the 7-bit address the master sent, and the
bytes the master wrote AFTER the command code, which the constructor of `Instr` names. In the row UNKNOWN_COMMAND `body` holds
every byte after the address byte, the code first. -/
structure Written where
  port : PortId
  address : BitVec 7
  body : List Byte
  deriving DecidableEq, Repr

/-- The strap pins as they stand when a reset samples them (0.4, R135): bit n of `role1` and `role0` is pin PnROLE1 and
PnROLE0, and `addr` is ADDR2 to ADDR0. -/
structure Straps where
  role1 : BitVec 6
  role0 : BitVec 6
  addr : BitVec 3
  deriving DecidableEq, Repr

/-- One step of the part: a command frame written at a port, or an event. The rule is the row's. -/
inductive Instr where
  /-- OPEN_SERVICE (R5). -/
  | openService (w : Written)
  /-- CLOSE_SERVICE (R7). -/
  | closeService (w : Written)
  /-- SERVICE_RESET (R10). -/
  | serviceReset (w : Written)
  /-- SET_LIMITS (R12). -/
  | setLimits (w : Written)
  /-- STATUS (R13). -/
  | status (w : Written)
  /-- DEFINE_WAVE (R16). -/
  | defineWave (w : Written)
  /-- SEAL_WAVE (R21). -/
  | sealWave (w : Written)
  /-- HOLD_WAVE (R23). -/
  | holdWave (w : Written)
  /-- RELEASE_WAVE (R24). -/
  | releaseWave (w : Written)
  /-- DELAY_WAVE (R25). -/
  | delayWave (w : Written)
  /-- FIRE_WAVE (R30). -/
  | fireWave (w : Written)
  /-- QUERY_WAVE (R31). -/
  | queryWave (w : Written)
  /-- SET_ITEM (R34). -/
  | setItem (w : Written)
  /-- CLEAR_ITEM (R36). -/
  | clearItem (w : Written)
  /-- CLEAR_MENU (R37). -/
  | clearMenu (w : Written)
  /-- QUERY_ITEM (R38). -/
  | queryItem (w : Written)
  /-- SET_DIVERSION (R45). -/
  | setDiversion (w : Written)
  /-- QUERY_DIVERSION (R45). -/
  | queryDiversion (w : Written)
  /-- MARK_OUT (R39). -/
  | markOut (w : Written)
  /-- MARK_IN (R43). -/
  | markIn (w : Written)
  /-- SUBMIT_TICKET (R60). -/
  | submitTicket (w : Written)
  /-- VOID_TICKET (R67). -/
  | voidTicket (w : Written)
  /-- PICKUP (R71). -/
  | pickup (w : Written)
  /-- REFIRE (R74). -/
  | refire (w : Written)
  /-- QUERY_TICKET (R76). -/
  | queryTicket (w : Written)
  /-- QUERY_SLIP (R97). -/
  | querySlip (w : Written)
  /-- SET_STATION (R100). -/
  | setStation (w : Written)
  /-- PAUSE_STATION (R102). -/
  | pauseStation (w : Written)
  /-- RESUME_STATION (R103). -/
  | resumeStation (w : Written)
  /-- QUERY_STATION (R120). -/
  | queryStation (w : Written)
  /-- STATION_DOWN (R122). -/
  | stationDown (w : Written)
  /-- STATION_OPEN (R133). -/
  | stationOpen (w : Written)
  /-- TAKE (R109). -/
  | take (w : Written)
  /-- BUMP (R116). -/
  | bump (w : Written)
  /-- FORCE_BUMP (R118). -/
  | forceBump (w : Written)
  /-- SET_PORT_MODE (R150). -/
  | setPortMode (w : Written)
  /-- PORT_RESTART (R149). -/
  | portRestart (w : Written)
  /-- LIST (R157). -/
  | list (w : Written)
  /-- UNKNOWN_COMMAND (R138): a frame whose code is in no row of the command table, or a write of no byte (R136). -/
  | unknownCommand (w : Written)
  /-- POWER_ON_RESET (R14). -/
  | powerOnReset (straps : Straps)
  /-- RESET_PIN (R151). -/
  | resetPin (straps : Straps)
  /-- SECOND_TIMER_EXPIRY (R1). -/
  | secondTimerExpiry
  /-- STATION_SECOND_EVENT (R114). -/
  | stationSecondEvent (st : StationId)
  /-- TAKE_TIMEOUT (R111): the take timer of the slip of that number runs out. -/
  | takeTimeout (slip : Nat)
  /-- DELAY_REACH (R26): the delay in flight on the wave reaches the next slip of its list. -/
  | delayReach (w : WaveId)
  /-- EVACUATION_MOVE (R127): the evacuation in flight from the station moves a slip. -/
  | evacuationMove (st : StationId)
  /-- READ_TRANSACTION (R144): the start of a read, with the address sent. -/
  | readTransaction (p : PortId) (address : BitVec 7)
  /-- RECORD_DELIVERY (R146): the master acknowledges the last byte of the record being sent. -/
  | recordDelivery (p : PortId)
  /-- STRETCH_TIMER_EXPIRY (R145). -/
  | stretchTimerExpiry (p : PortId)
  /-- RELATIVE_TIMER_EXPIRY (R163). -/
  | relativeTimerExpiry (p : PortId)
  /-- ABSOLUTE_TIMER_EXPIRY (R163). -/
  | absoluteTimerExpiry (p : PortId)
  deriving DecidableEq, Repr

end Sys2Proof
end

