-- ==== Sys2Proof/Machine/Types.lean ====
section
/-! DEFINITION. The records each block of the part owns (0.3), the notices it queues and the replies it places. -/

namespace Sys2Proof.Machine

/-! ## The service controller (chapter 1) -/

/-- Service state (1.1): CLOSED, OPEN, DRAINING. -/
inductive ServiceState where
  | closed
  | opened
  | draining
  deriving DecidableEq, Repr

/-! ## The wave table (chapter 2) -/

/-- Wave state (2.1): FREE, OPEN, SEALED. -/
inductive WaveState where
  | free
  | opened
  | sealed
  deriving DecidableEq, Repr

/-- Sweep direction (2.1). -/
inductive Direction where
  | up
  | down
  deriving DecidableEq, Repr

/-- The sweep DEFINE WAVE gives a wave (R16): everything but the start time stays for the life of the definition. -/
structure Sweep where
  first : Nat
  count : Nat
  direction : Direction
  interlace : Bool
  start : Nat
  interval : Nat
  deriving DecidableEq, Repr

/-- A DELAY WAVE in flight (2.1, R25 to R29): the delay amount, the delay list in ascending slip number, each with its left-PENDING
mark, the issuing port that awaits the reply, whether the amount was clamped, and the counts of the reply. -/
structure Delay where
  amount : Int
  slips : List (Nat × Bool)
  port : PortId
  clamped : Bool
  shifted : Nat
  unchanged : Nat
  passed : Nat
  deriving DecidableEq, Repr

/-- A wave record (2.1). The delay-in-flight flag is set while `delay` is present; the ticket count and the slip count are
`State.ticketCount` and `State.slipCount` (R20). -/
structure Wave where
  state : WaveState
  sweep : Sweep
  hold : Bool
  delay : Option Delay
  deriving DecidableEq, Repr

/-! ## The menu store (chapter 3) -/

/-- A valid menu entry at its index (3.1). -/
structure MenuEntry where
  index : Nat
  item : ItemCode
  station : StationId
  cook : Nat
  batch : Nat
  deriving DecidableEq, Repr

/-- A diversion entry (3.3). -/
structure Diversion where
  enabled : Bool
  code : ItemCode
  mask : ItemCode
  modifiers : Modifiers
  target : StationId
  deriving DecidableEq, Repr

/-! ## The ticket board (chapter 4) -/

/-- Line state (4.1). The slip number is present in WAITING, CALLED and COOKING and the ready time in READY (R51). -/
inductive LineState where
  | waiting (slip : Nat)
  | called (slip : Nat)
  | cooking (slip : Nat)
  | ready (time : Nat)
  | void
  deriving DecidableEq, Repr

/-- A line of a ticket (4.1); its index is its place in the ticket. -/
structure Line where
  item : ItemCode
  qty : Nat
  modifiers : Modifiers
  station : Option StationId
  state : LineState
  late : Bool
  deriving DecidableEq, Repr

/-- Ticket state (4.3). -/
inductive TicketState where
  | planned
  | firing
  | up
  deriving DecidableEq, Repr

/-- A live ticket (4.1); the line count is the length of `lines`. -/
structure Ticket where
  number : Nat
  origin : PortId
  wave : WaveId
  table : Nat
  position : Nat
  rush : Bool
  state : TicketState
  late : Bool
  exceptional : Bool
  refires : Nat
  accepted : Nat
  lines : List Line
  deriving DecidableEq, Repr

/-! ## The fire planner (chapter 5) -/

/-- Slip class (5.1). -/
inductive SlipClass where
  | normal
  | priority
  deriving DecidableEq, Repr

/-- Slip state (5.1). The call time is present in CALLED and TAKEN; a CALLED slip's take timer (6.1) stands with it. -/
inductive SlipState where
  | pending
  | called (time : Nat) (timer : Nat)
  | taken (time : Nat)
  deriving DecidableEq, Repr

/-- A member entry of a slip (R80). -/
structure Member where
  ticket : Nat
  line : Nat
  qty : Nat
  deriving DecidableEq, Repr

/-- A slip (5.1). -/
structure Slip where
  number : Nat
  station : StationId
  item : ItemCode
  wave : WaveId
  cls : SlipClass
  state : SlipState
  previewed : Bool
  fire : Nat
  portions : Nat
  members : List Member
  deriving DecidableEq, Repr

/-! ## The station units (chapters 6 and 7) -/

/-- Station state (6.1). -/
inductive StationState where
  | unused
  | opened
  | paused
  | down
  deriving DecidableEq, Repr

/-- The first nine items of 6.1: a station's configuration. -/
structure StationConfig where
  port : Option PortId
  slots : Nat
  reserve : Nat
  plate : Nat
  timeout : Nat
  backup : Option StationId
  horizon : Nat
  window : Nat
  initialLag : Nat
  deriving DecidableEq, Repr

/-- A station unit (6.1). Its queue, busy set and busy count are `State.queue`, `State.busySet` and `State.busyCount`, and each
take timer stands in its CALLED slip. `due` counts the second events delivered to the station and not yet handled (R2, R114). -/
structure StationUnit where
  config : StationConfig
  state : StationState
  lag : Nat
  missed : Nat
  evacuating : Bool
  due : Nat
  deriving DecidableEq, Repr

/-! ## Notices (chapter 9) -/

/-- WITHDRAWN reasons (9.1). -/
inductive WithdrawReason where
  | timeout
  | down
  | moved
  | emptied
  | forced
  | discarded
  deriving DecidableEq, Repr

/-- STATION_STATE causes (chapters 6 and 7). -/
inductive StationCause where
  | paused
  | resumed
  | missedTakes
  | ordered
  | evacuated
  | backupLost
  | evacuationStopped
  | reopened
  deriving DecidableEq, Repr

/-- VOIDED causes (R67, R70). -/
inductive VoidCause where
  | command
  | allVoid
  deriving DecidableEq, Repr

/-- SERVICE causes (1.4). -/
inductive ServiceCause where
  | opened
  | draining
  | closed
  | reset
  deriving DecidableEq, Repr

/-- A notice's kind, subject and fields, as the table of 9.1 gives them. -/
inductive NoticeBody where
  | preview (slip : Nat) (station : StationId) (item : ItemCode) (cls : SlipClass) (fire portions members : Nat)
  | call (slip : Nat) (station : StationId) (item : ItemCode) (cls : SlipClass) (portions fire : Nat) (members : List (Nat × Nat))
  | changed (slip : Nat) (station : StationId) (item : ItemCode) (state : SlipState) (fire portions members : Nat)
  | withdrawn (slip : Nat) (station : StationId) (item : ItemCode) (reason : WithdrawReason) (backup : Option StationId)
  | up (ticket : Nat) (wave : WaveId) (table target : Nat) (late : Bool)
  | late (ticket : Nat) (wave : WaveId) (table target line : Nat)
  | short (ticket : Nat) (item : ItemCode) (lines : LineSet)
  | voided (ticket : Nat) (cause : VoidCause)
  | exception (ticket line refires : Nat)
  | stationState (station : StationId) (state : StationState) (cause : StationCause) (backup : Option StationId) (left : Nat)
  | waveFree (wave : WaveId)
  | service (state : ServiceState) (cause : ServiceCause)
  deriving DecidableEq, Repr

/-- A copy of a notice in a port's queue: the service clock at the event that queued it, and the rest (9.1). -/
structure Notice where
  clock : Nat
  body : NoticeBody
  deriving DecidableEq, Repr

/-! ## Replies (chapters 8 and 10) -/

/-- Reply statuses (10.4). -/
inductive Status where
  | ok
  | clamped
  | short
  | unknownCommand
  | malformed
  | muted
  | notPermitted
  | aborted
  | badState
  | notOpen
  | frozen
  | noStation
  | notStationPort
  | wrongStation
  | noWave
  | waveSealed
  | waveBusy
  | outsideSweep
  | duplicate
  | unknownItem
  | allOut
  | menuFull
  | ticketsFull
  | linesFull
  | slipsFull
  | unknownTicket
  | notUp
  | noLine
  | notReady
  | unknownSlip
  deriving DecidableEq, Repr

/-- The STATUS reply (R13). -/
structure StatusReport where
  service : ServiceState
  clock : Nat
  tickets : Nat
  lines : Nat
  slips : Nat
  refireLimit : Nat
  ticketsLeft : Nat
  slipsLeft : Nat
  collided : Bool
  overrun : Bool
  muted : Bool
  errors : Nat
  deriving DecidableEq, Repr

/-- The QUERY WAVE reply (R31) for an OPEN or SEALED wave. `delayAmount` and `delayLeft` are the bytes as sent. -/
structure WaveReport where
  state : WaveState
  sweep : Sweep
  hold : Bool
  delayed : Bool
  delayAmount : BitVec 16
  delayLeft : BitVec 16
  tickets : Nat
  slips : Nat
  pending : Nat
  deriving DecidableEq, Repr

/-- The PICKUP reply (R71). -/
structure PickupReport where
  ticket : Nat
  wave : WaveId
  table : Nat
  accepted : Nat
  target : Nat
  clock : Nat
  lastReady : Nat
  refires : Nat
  late : Bool
  exceptional : Bool
  deriving DecidableEq, Repr

/-- The header of the QUERY TICKET reply (R76, R170). -/
structure TicketHeader where
  number : Nat
  origin : PortId
  wave : WaveId
  table : Nat
  position : Nat
  rush : Bool
  late : Bool
  exceptional : Bool
  state : TicketState
  refires : Nat
  accepted : Nat
  target : Nat
  projected : Nat
  lineCount : Nat
  deriving DecidableEq, Repr

/-- The header of the QUERY SLIP reply (R97, R170). -/
structure SlipHeader where
  number : Nat
  station : StationId
  item : ItemCode
  wave : WaveId
  cls : SlipClass
  state : SlipState
  previewed : Bool
  delayListed : Bool
  fire : Nat
  portions : Nat
  memberCount : Nat
  deriving DecidableEq, Repr

/-- The running part of the QUERY STATION reply (R120). -/
structure StationReport where
  state : StationState
  lag : Nat
  busy : Nat
  called : Nat
  taken : Nat
  queued : Nat
  due : Nat
  missed : Nat
  evacuating : Bool
  deriving DecidableEq, Repr

/-- A LIST entry (R158): of a slip for a STATION port, of a ticket for every other role. -/
inductive ListEntry where
  | slip (number : Nat) (station : StationId) (state : SlipState)
  | ticket (number : Nat) (wave : WaveId) (state : TicketState) (late exceptional : Bool)
  deriving DecidableEq, Repr

/-- The data of a reply by its named fields, one constructor per row of the reply data table (10.4). -/
inductive ReplyData where
  | empty
  | lineIndex (index : Nat)
  | service (state : ServiceState)
  | limit (refires : Nat)
  | status (report : StatusReport)
  | sweep (sweep : Sweep)
  | waveState (state : WaveState)
  | hold (hold : Bool)
  | delay (wave : WaveId) (start : Nat) (amount : Int) (shifted unchanged passed : Nat)
  | fired (changed : Nat)
  | freeWave
  | wave (report : WaveReport)
  | itemSet (entry : MenuEntry) (replaced : Bool)
  | itemCleared (index : Nat)
  | menuCleared (entries : Nat)
  | item (item : ItemCode) (entry : Option MenuEntry) (out : Bool) (valid : Nat)
  | diversion (index : DiversionId) (entry : Diversion)
  | markedOut (item : ItemCode) (out : Bool) (lines tickets : Nat)
  | markedIn (item : ItemCode) (out : Bool)
  | submitted (ticket : Nat) (state : TicketState) (target projected : Nat) (late : Bool) (voids : LineSet)
  | voided (ticket removed detached freed : Nat)
  | pickup (report : PickupReport)
  | refired (ticket line slip : Nat) (station : StationId) (state : TicketState) (refires : Nat) (exceptional : Bool)
  | ticket (header : TicketHeader) (lines : List Line)
  | slip (header : SlipHeader) (members : List Member)
  | stationSet (station : StationId) (config : StationConfig) (state : StationState)
  | stationState (state : StationState)
  | station (station : StationId) (config : StationConfig) (report : StationReport)
  | taken (slip : Nat) (station : StationId) (state : SlipState) (portions members : Nat)
  | bumped (slip : Nat) (station : StationId) (time lag : Nat) (sample : Int) (lines : Nat)
  | forced (slip : Nat) (station : StationId) (state : SlipState) (lines : Nat)
  | stationDown (state : StationState) (backup : Option StationId) (left : Nat)
  | stationOpen (state : StationState) (queued : Nat)
  | portMode (stretch : Bool) (relative absolute : Nat)
  | restarted (errors : Nat) (muted : Bool)
  | list (more cleared : Bool) (clock : Nat) (entries : List ListEntry)
  deriving DecidableEq, Repr

/-- A reply record (R169): the command code of the frame it answers, the status and the data. -/
structure Reply where
  code : Byte
  status : Status
  data : ReplyData
  deriving DecidableEq, Repr

/-! ## The port units (chapters 8 and 9) -/

/-- Port roles (0.4, R135). -/
inductive Role where
  | order
  | station
  | pass
  | monitor
  deriving DecidableEq, Repr

/-- The reply slot (8.1): EMPTY, BUSY with the code of the command in flight, READY with its reply. -/
inductive ReplySlot where
  | empty
  | busy (code : Byte)
  | ready (reply : Reply)
  deriving DecidableEq, Repr

/-- Attention states (9.5). ATTN is low in ASSERTED and released in the others. -/
inductive Attention where
  | released
  | waiting
  | asserted
  deriving DecidableEq, Repr

/-- What follows the status byte of a read (R144). -/
inductive Record where
  | nothing
  | reply (r : Reply)
  | notice (n : Notice)
  deriving DecidableEq, Repr

/-- The read under way at a port: the status byte sent, the record that follows it, and whether acknowledging the record's last byte
will take it from its place: false where no record follows, once it has been taken (R146) and once its place has been emptied
meanwhile (R147). -/
structure Reading where
  status : Byte
  record : Record
  live : Bool
  deriving DecidableEq, Repr

/-- A port unit (8.1, 9.5). SCL is held low exactly while the stretch timer runs; a timer is idle where it is none. The stretch timer
counts REFCLK cycles up from its start, the attention timers count the tenth ticks left (R160). -/
structure PortUnit where
  role : Role
  address : BitVec 7
  stretchMode : Bool
  relDelay : Nat
  absDelay : Nat
  slot : ReplySlot
  collided : Bool
  errors : Nat
  muted : Bool
  stretch : Option Nat
  notices : List Notice
  overrun : Bool
  attention : Attention
  relTimer : Option Nat
  absTimer : Option Nat
  reading : Option Reading
  deriving DecidableEq, Repr

end Sys2Proof.Machine
end

