-- ==== Sys2Proof/Machine/Flags.lean ====
section
/-! DEFINITION. The status byte and the packed flag bytes of the records (10.3, 10.4). -/

namespace Sys2Proof.Machine

/-- A flag as a byte: 1 for set (10.4). -/
def flagByte (b : Bool) : Byte := if b then 1 else 0

/-- A byte made of eight flags, the flag of bit 0 first. -/
def packByte (b0 b1 b2 b3 b4 b5 b6 b7 : Bool) : Byte :=
  BitVec.ofNat 8 (b0.toNat + 2 * b1.toNat + 4 * b2.toNat + 8 * b3.toNat + 16 * b4.toNat + 32 * b5.toNat + 64 * b6.toNat
    + 128 * b7.toNat)

/-- Whether the reply slot is READY. -/
def ReplySlot.isReady : ReplySlot → Bool
  | .ready _ => true
  | _ => false

/-- Whether the reply slot is BUSY. -/
def ReplySlot.isBusy : ReplySlot → Bool
  | .busy _ => true
  | _ => false

/-- The status byte of a port, the service being open or not (8.5, 10.3, R168): bit 7 always 0. -/
def PortUnit.statusByte (serviceOpen : Bool) (u : PortUnit) : Byte :=
  packByte u.slot.isReady u.slot.isBusy u.collided u.overrun u.muted (!u.notices.isEmpty) serviceOpen false

/-- The port flags byte of the STATUS reply: bits 2, 3 and 4 of the status byte's layout (R168). -/
def portFlagsByte (r : StatusReport) : Byte :=
  packByte false false r.collided r.overrun r.muted false false false

/-- The sweep flags byte of a reply: direction in bit 0, interlace in bit 1; the spare bits 2 to 7 are 0 (DESIGN CHOICE, assumption 22). -/
def sweepFlagsByte (w : Sweep) : Byte :=
  packByte (w.direction == .down) w.interlace false false false false false false

/-- The ticket marks byte of PICKUP: late in bit 0, exception in bit 1 (10.4); the spare bits 2 to 7 are 0 (DESIGN CHOICE,
assumption 22). -/
def pickupMarksByte (r : PickupReport) : Byte :=
  packByte r.late r.exceptional false false false false false false

/-- The ticket marks byte of QUERY TICKET: rush, late, exception in bits 0 to 2 (R170); the spare bits 3 to 7 are 0 (DESIGN CHOICE,
assumption 22). -/
def ticketMarksByte (h : TicketHeader) : Byte :=
  packByte h.rush h.late h.exceptional false false false false false

/-- The slip marks byte of QUERY SLIP: previewed in bit 0, on a delay list in bit 1 (R170); the spare bits 2 to 7 are 0 (DESIGN CHOICE,
assumption 22). -/
def slipMarksByte (h : SlipHeader) : Byte :=
  packByte h.previewed h.delayListed false false false false false false

/-- The list flags byte of LIST: more in bit 0, overrun cleared in bit 1 (10.4); the spare bits 2 to 7 are 0 (DESIGN CHOICE,
assumption 22). -/
def listFlagsByte (more cleared : Bool) : Byte :=
  packByte more cleared false false false false false false

/-- The set of line indexes in `is`, line n in bit n (10.4). -/
def lineSet (is : List Nat) : LineSet := is.foldl (fun set i => set ||| BitVec.twoPow 16 i) 0

end Sys2Proof.Machine
end

