-- ==== Sys2Proof/Decode.lean ====
section
/-! DEFINITION. The command codes of the command table (10.2), and the decoding of table words. The rows of
spec/opcode_table.json give no bits, so no word spells a row. -/

namespace Sys2Proof

/-- The command code of each command (10.2). -/
def Cmd.code : Cmd → Byte
  | .openService => 0x01
  | .closeService => 0x02
  | .serviceReset => 0x03
  | .setLimits => 0x04
  | .status => 0x05
  | .defineWave => 0x10
  | .sealWave => 0x11
  | .holdWave => 0x12
  | .releaseWave => 0x13
  | .delayWave => 0x14
  | .fireWave => 0x15
  | .queryWave => 0x16
  | .setItem => 0x20
  | .clearItem => 0x21
  | .clearMenu => 0x22
  | .queryItem => 0x23
  | .setDiversion => 0x24
  | .queryDiversion => 0x25
  | .markOut => 0x26
  | .markIn => 0x27
  | .submitTicket => 0x30
  | .voidTicket => 0x31
  | .pickup => 0x32
  | .refire => 0x33
  | .queryTicket => 0x34
  | .querySlip => 0x38
  | .setStation => 0x40
  | .pauseStation => 0x41
  | .resumeStation => 0x42
  | .queryStation => 0x43
  | .stationDown => 0x44
  | .stationOpen => 0x45
  | .take => 0x48
  | .bump => 0x49
  | .forceBump => 0x4A
  | .setPortMode => 0x50
  | .portRestart => 0x51
  | .list => 0x52

/-- Every command of the table, in code order. -/
def Cmd.all : List Cmd :=
  [.openService, .closeService, .serviceReset, .setLimits, .status, .defineWave, .sealWave, .holdWave,
   .releaseWave, .delayWave, .fireWave, .queryWave, .setItem, .clearItem, .clearMenu, .queryItem,
   .setDiversion, .queryDiversion, .markOut, .markIn, .submitTicket, .voidTicket, .pickup, .refire,
   .queryTicket, .querySlip, .setStation, .pauseStation, .resumeStation, .queryStation, .stationDown, .stationOpen,
   .take, .bump, .forceBump, .setPortMode, .portRestart, .list]

/-- The command a code names; none for a code not in the table (R138, R167). -/
def Cmd.ofCode (b : Byte) : Option Cmd := Cmd.all.find? fun c => c.code == b

/-- The command of a row that is a written frame, and its transaction; none for UNKNOWN_COMMAND and the events. -/
def Instr.frame? : Instr → Option (Cmd × Written)
  | .openService w => some (.openService, w)
  | .closeService w => some (.closeService, w)
  | .serviceReset w => some (.serviceReset, w)
  | .setLimits w => some (.setLimits, w)
  | .status w => some (.status, w)
  | .defineWave w => some (.defineWave, w)
  | .sealWave w => some (.sealWave, w)
  | .holdWave w => some (.holdWave, w)
  | .releaseWave w => some (.releaseWave, w)
  | .delayWave w => some (.delayWave, w)
  | .fireWave w => some (.fireWave, w)
  | .queryWave w => some (.queryWave, w)
  | .setItem w => some (.setItem, w)
  | .clearItem w => some (.clearItem, w)
  | .clearMenu w => some (.clearMenu, w)
  | .queryItem w => some (.queryItem, w)
  | .setDiversion w => some (.setDiversion, w)
  | .queryDiversion w => some (.queryDiversion, w)
  | .markOut w => some (.markOut, w)
  | .markIn w => some (.markIn, w)
  | .submitTicket w => some (.submitTicket, w)
  | .voidTicket w => some (.voidTicket, w)
  | .pickup w => some (.pickup, w)
  | .refire w => some (.refire, w)
  | .queryTicket w => some (.queryTicket, w)
  | .querySlip w => some (.querySlip, w)
  | .setStation w => some (.setStation, w)
  | .pauseStation w => some (.pauseStation, w)
  | .resumeStation w => some (.resumeStation, w)
  | .queryStation w => some (.queryStation, w)
  | .stationDown w => some (.stationDown, w)
  | .stationOpen w => some (.stationOpen, w)
  | .take w => some (.take, w)
  | .bump w => some (.bump, w)
  | .forceBump w => some (.forceBump, w)
  | .setPortMode w => some (.setPortMode, w)
  | .portRestart w => some (.portRestart, w)
  | .list w => some (.list, w)
  | .unknownCommand _ => none
  | .powerOnReset _ => none
  | .resetPin _ => none
  | .secondTimerExpiry => none
  | .stationSecondEvent _ => none
  | .takeTimeout _ => none
  | .delayReach _ => none
  | .evacuationMove _ => none
  | .readTransaction _ _ => none
  | .recordDelivery _ => none
  | .stretchTimerExpiry _ => none
  | .relativeTimerExpiry _ => none
  | .absoluteTimerExpiry _ => none

/-- No row of the table gives bits: no word spells a command. -/
def decodeTableWord (_nbits _w : Nat) : Option Instr := none

end Sys2Proof
end

