-- ==== Sys2Proof/Machine/Operands.lean ====
section
/-! DEFINITION. The parameters of a frame: byte order, packed flag bytes, lengths, encodable values and clamping
(8.3, 10.1, 10.2). A parser answers none exactly where the second check refuses the frame with MALFORMED (R138). -/

namespace Sys2Proof.Machine

/-! ## Fields -/

/-- A two-byte number, most significant byte first (10.1). -/
def word16 (hi lo : Byte) : Nat := hi.toNat * 256 + lo.toNat

/-- A two-byte signed number in two's complement (10.1). -/
def signed16 (hi lo : Byte) : Int := (hi ++ lo : BitVec 16).toInt

/-- Bit 0 of a packed flag byte (R167). -/
def flag0 (b : Byte) : Bool := b.getLsbD 0

/-- Bit 1 of a packed flag byte (R167). -/
def flag1 (b : Byte) : Bool := b.getLsbD 1

/-- A field whose encodable values are 0 to n - 1 (the table after R138). -/
def below (n v : Nat) : Option (Fin n) := if h : v < n then some ⟨v, h⟩ else none

/-- A wave number (R15). -/
def waveField (b : Byte) : Option WaveId := below 32 b.toNat

/-- A station number (R99). -/
def stationField (b : Byte) : Option StationId := below 12 b.toNat

/-- An item code, or a diversion's code or code mask: two bytes, up to FFFh (R33, R45). -/
def itemField (hi lo : Byte) : Option ItemCode :=
  if word16 hi lo < 4096 then some (BitVec.ofNat 12 (word16 hi lo)) else none

/-- A field naming one of `n` things, or none with FFh (R100). -/
def optionalField (n : Nat) (b : Byte) : Option (Option (Fin n)) :=
  if b = 0xFF then some none else (below n b.toNat).map some

/-- "Saturated at 65535" (0.7). -/
def sat16 (n : Nat) : Nat := min n Config.maxTime

/-- "Clamped to a range" (0.7). -/
def clampTo (lo hi n : Nat) : Nat := max lo (min hi n)

/-- A signed amount clamped to a range (R25, R117). -/
def clampInt (lo hi z : Int) : Int := max lo (min hi z)

/-! ## The parameter bytes -/

/-- The parameter bytes of a frame whose bytes after the code are `body`: the port keeps the first 62 bytes of the write in all (R136),
the first of `body` is the length, not above 60, and exactly that many parameter bytes follow (R138). -/
def paramsOf (body : List Byte) : Option (List Byte) :=
  match body.take (Config.maxFrame - 1) with
  | [] => none
  | len :: params => if len.toNat ≤ Config.maxParams ∧ params.length = len.toNat then some params else none

/-- A command without parameters. -/
def parseNone : List Byte → Option Unit
  | [] => some ()
  | _ => none

/-- SET LIMITS: the refire limit. -/
def parseByte : List Byte → Option Nat
  | [v] => some v.toNat
  | _ => none

/-- SEAL, HOLD, RELEASE, FIRE and QUERY WAVE: the wave. -/
def parseWave : List Byte → Option WaveId
  | [w] => waveField w
  | _ => none

/-- PAUSE, RESUME and QUERY STATION, STATION DOWN and STATION OPEN: the station. -/
def parseStation : List Byte → Option StationId
  | [st] => stationField st
  | _ => none

/-- CLEAR ITEM, QUERY ITEM, MARK OUT and MARK IN: the item code. -/
def parseItem : List Byte → Option ItemCode
  | [hi, lo] => itemField hi lo
  | _ => none

/-- VOID TICKET, PICKUP, TAKE, BUMP, FORCE BUMP and LIST: a two-byte number. -/
def parseNumber : List Byte → Option Nat
  | [hi, lo] => some (word16 hi lo)
  | _ => none

/-- A number and an index below `n`: REFIRE, QUERY TICKET (R73, R76) and QUERY SLIP (R97). -/
def parseIndexed (n : Nat) : List Byte → Option (Nat × Nat)
  | [hi, lo, i] => if i.toNat < n then some (word16 hi lo, i.toNat) else none
  | _ => none

/-- QUERY DIVERSION: the index (R45). -/
def parseDiversionIndex : List Byte → Option DiversionId
  | [i] => below 8 i.toNat
  | _ => none

/-- DEFINE WAVE: the wave and its sweep as given, unclamped (R16, R167). -/
def parseDefine : List Byte → Option (WaveId × Sweep)
  | [w, f1, f0, n, flags, s1, s0, i1, i0] =>
    (waveField w).map fun wave =>
      (wave, ⟨word16 f1 f0, n.toNat, if flag0 flags then .down else .up, flag1 flags, word16 s1 s0, word16 i1 i0⟩)
  | _ => none

/-- DELAY WAVE: the wave and the signed amount as given (R25). -/
def parseDelay : List Byte → Option (WaveId × Int)
  | [w, d1, d0] => (waveField w).map fun wave => (wave, signed16 d1 d0)
  | _ => none

/-- The parameters of SET ITEM as given. -/
structure ItemParams where
  item : ItemCode
  station : StationId
  cook : Nat
  batch : Nat
  deriving DecidableEq, Repr

/-- SET ITEM (R34, R35). -/
def parseSetItem : List Byte → Option ItemParams
  | [i1, i0, st, c1, c0, batch] =>
    match itemField i1 i0, stationField st with
    | some item, some station => some ⟨item, station, word16 c1 c0, batch.toNat⟩
    | _, _ => none
  | _ => none

/-- SET DIVERSION: the index and the entry (R45, R167). -/
def parseSetDiversion : List Byte → Option (DiversionId × Diversion)
  | [i, flags, c1, c0, m1, m0, mods, st] =>
    match below 8 i.toNat, itemField c1 c0, itemField m1 m0, stationField st with
    | some index, some code, some mask, some target => some (index, ⟨flag0 flags, code, mask, mods, target⟩)
    | _, _, _, _ => none
  | _ => none

/-- A line entry of SUBMIT TICKET. -/
structure LineEntry where
  item : ItemCode
  qty : Nat
  modifiers : Modifiers
  deriving DecidableEq, Repr

/-- The line entries: item code, quantity, modifiers, four bytes each (10.2). -/
def parseLines : List Byte → Option (List LineEntry)
  | [] => some []
  | i1 :: i0 :: q :: mods :: rest =>
    match itemField i1 i0, parseLines rest with
    | some item, some entries => some (⟨item, q.toNat, mods⟩ :: entries)
    | _, _ => none
  | _ => none

/-- The parameters of SUBMIT TICKET; the line count is the number of entries, with which the length agrees (R167). -/
structure Submission where
  wave : WaveId
  table : Nat
  rush : Bool
  lines : List LineEntry
  deriving DecidableEq, Repr

/-- SUBMIT TICKET (R59, R167): the length agrees with the line count byte, and a table above 1023 is not encodable. -/
def parseSubmit : List Byte → Option Submission
  | w :: t1 :: t0 :: flags :: n :: rest =>
    match waveField w, parseLines rest with
    | some wave, some entries =>
      if word16 t1 t0 < 1024 ∧ entries.length = n.toNat then some ⟨wave, word16 t1 t0, flag0 flags, entries⟩ else none
    | _, _ => none
  | _ => none

/-- SET STATION: the station and its configuration as given, unclamped (R100). -/
def parseSetStation : List Byte → Option (StationId × StationConfig)
  | [st, port, k, r, p1, p0, timeout, backup, h1, h0, b1, b0, g1, g0] =>
    match stationField st, optionalField 6 port, optionalField 12 backup with
    | some station, some bound, some other =>
      some (station, ⟨bound, k.toNat, r.toNat, word16 p1 p0, timeout.toNat, other, word16 h1 h0, word16 b1 b0, word16 g1 g0⟩)
    | _, _, _ => none
  | _ => none

/-- SET PORT MODE: the stretch mode byte and the two delays as given (R150). -/
def parsePortMode : List Byte → Option (Nat × Nat × Nat)
  | [mode, rel, abs] => some (mode.toNat, rel.toNat, abs.toNat)
  | _ => none

/-! ## Clamping of configuration numbers -/

/-- The clamping of DEFINE WAVE, each limit on the values already clamped (R17). -/
def Sweep.clamp (w : Sweep) : Sweep :=
  let first := min w.first 1023
  let count := clampTo 1 64 w.count
  { w with first := first, count := min count (1024 - first), interval := min w.interval 600 }

/-- The clamping of SET STATION for station `st`, in the order of R101. -/
def StationConfig.clamp (st : StationId) (c : StationConfig) : StationConfig :=
  let slots := clampTo 1 32 c.slots
  { c with
    slots := slots
    reserve := min c.reserve (slots - 1)
    plate := min c.plate 300
    timeout := clampTo 5 120 c.timeout
    horizon := min c.horizon 900
    window := min c.window 300
    initialLag := min c.initialLag 600
    backup := if c.backup = some st then none else c.backup }

/-- CLAMPED where clamping changed a value, else OK (0.7). -/
def clampStatus (changed : Bool) : Status := if changed then .clamped else .ok

end Sys2Proof.Machine
end

