-- ==== Sys2Proof/Machine/PowerOn.lean ====
section
/-! DEFINITION. The values each block's records take at reset, record by record. -/

namespace Sys2Proof.Machine

/-- The role two strap pins give, PnROLE1 first (R135). -/
def roleOf : Bool → Bool → Role
  | false, false => .order
  | false, true => .station
  | true, false => .pass
  | true, true => .monitor

/-- The role sampled at port `p` (R135). -/
def roleSampled (straps : Straps) (p : PortId) : Role :=
  roleOf (straps.role1.getLsbD p.val) (straps.role0.getLsbD p.val)

/-- The target address: 48h plus the address straps (R135). -/
def addressSampled (straps : Straps) : BitVec 7 := 0x48 + straps.addr.setWidth 7

/-- A port unit after power-on reset and after the RESET pin (R151, R165). -/
def portAtReset (straps : Straps) (p : PortId) : PortUnit where
  role := roleSampled straps p
  address := addressSampled straps
  stretchMode := true
  relDelay := 5
  absDelay := 20
  slot := .empty
  collided := false
  errors := 0
  muted := false
  stretch := none
  notices := []
  overrun := false
  attention := .released
  relTimer := none
  absTimer := none
  reading := none

/-- A FREE wave: no definition, hold clear, no delay (R32). -/
def freeWave : Wave where
  state := .free
  sweep := ⟨0, 0, .up, false, 0, 0⟩
  hold := false
  delay := none

/-- A station's configuration at power-on (R121). -/
def stationConfigAtPowerOn : StationConfig where
  port := none
  slots := 4
  reserve := 1
  plate := 30
  timeout := 30
  backup := none
  horizon := 300
  window := 60
  initialLag := 0

/-- A station unit at the start of a service or after a reset (R6, R10, R100, R121): G at the initial lag, missed-take count 0, no
evacuation, no second event outstanding. -/
def stationAtStart (c : StationConfig) (st : StationState) : StationUnit where
  config := c
  state := st
  lag := c.initialLag
  missed := 0
  evacuating := false
  due := 0

/-- A diversion entry at power-on (R49). -/
def diversionAtPowerOn : Diversion := ⟨false, 0, 0, 0, 0⟩

/-- The refire limit at power-on (R12). -/
def refireLimitAtPowerOn : Nat := 2

/-- The straps of the part that `State.reset` is (assumption 2, DESIGN CHOICE): those of the worked service (11.1), P0, P1 and P5
ORDER, P2 PASS, P3 and P4 STATION; the address straps 000. POWER_ON_RESET and RESET_PIN sample any others. -/
def strapsAtReset : Straps where
  role1 := 0b000100
  role0 := 0b011000
  addr := 0

end Sys2Proof.Machine
end

