-- ==== Sys2Proof/Machine/State.lean ====
section
/-! DEFINITION. The state of the part, the reasons a step can stop, and the machine after reset. -/

namespace Sys2Proof.Machine

/-- Everything the manual gives the part, block by block, and the queue of commands waiting.
Views that the manual also names are computed from these fields: `State.queue`, `State.busySet`, `State.busyCount`,
`State.ticketCount`, `State.slipCount`, `State.linesInUse` (Ops.lean). -/
structure State where
  /-- Service state (1.1). -/
  service : ServiceState
  /-- Service clock (R1). -/
  clock : Nat
  /-- Second timer (R1): stopped where none, else the REFCLK cycles counted in the second under way. -/
  secondTimer : Option Nat
  /-- Next ticket number (R3). -/
  nextTicket : Nat
  /-- Ticket numbers exhausted (R3). -/
  ticketsExhausted : Bool
  /-- Next slip number (R4). -/
  nextSlip : Nat
  /-- Slip numbers exhausted (R4). -/
  slipsExhausted : Bool
  /-- Refire limit (R12). -/
  refireLimit : Nat
  /-- The wave table (2.1). -/
  waves : Vector Wave 32
  /-- The valid entries of the menu table in ascending index (3.1). -/
  menu : List MenuEntry
  /-- The item codes marked out, in ascending order (3.2). -/
  outBoard : List ItemCode
  /-- The diversion table (3.3). -/
  diversions : Vector Diversion 8
  /-- The live tickets with their lines, in ascending number (4.1). -/
  tickets : List Ticket
  /-- The slip store, in ascending number (5.1). -/
  slips : List Slip
  /-- The station units (6.1). -/
  stations : Vector StationUnit 12
  /-- The port units (8.1). -/
  ports : Vector PortUnit 6
  /-- The divider of REFCLK that makes the tenth ticks (R160): the cycles counted in the tenth under way. -/
  tenthDivider : Nat
  /-- The model's own: how many free values have been taken (Config). -/
  freeCount : Nat
  /-- The model's own: the commands waiting, first in, first out. -/
  pending : List Instr
  deriving DecidableEq, Repr

/-- Why a step faults: never. The manual describes no fault that stops the part; every wrong input has a reply or no effect. -/
inductive Fault
  deriving DecidableEq, Repr

/-- Why a step has no meaning. -/
inductive Refusal where
  /-- Raised by `exec` for a row that has no meaning yet; no row is left so. Safe. -/
  | notModelled (mnemonic : String)
  /-- Raised by `execUnknownCommand` for a term whose code IS in the command table: no frame of that row (R138). Safe. -/
  | codeInTable
  deriving DecidableEq, Repr

/-- What a step answers. -/
abbrev Result := Host.Outcome State Fault Refusal

/-- The part after power-on reset with the given straps (R14, R32, R49, R77, R98, R121, R151), its queue as given. -/
def State.powerOn (straps : Straps) (pending : List Instr) : State where
  service := .closed
  clock := 0
  secondTimer := none
  nextTicket := 1
  ticketsExhausted := false
  nextSlip := 1
  slipsExhausted := false
  refireLimit := refireLimitAtPowerOn
  waves := Vector.replicate 32 freeWave
  menu := []
  outBoard := []
  diversions := Vector.replicate 8 diversionAtPowerOn
  tickets := []
  slips := []
  stations := Vector.replicate 12 (stationAtStart stationConfigAtPowerOn .unused)
  ports := Vector.ofFn (portAtReset straps)
  tenthDivider := 0
  freeCount := 0
  pending := pending

/-- The machine right after power-on reset, straps as assumption 2 names them, nothing waiting. -/
def State.reset : State := State.powerOn strapsAtReset []

end Sys2Proof.Machine
end

