-- ==== Sys2Proof/Machine/Ops.lean ====
section
/-! DEFINITION. The named operations on the part's records: lookups and updates, the views of the queues and counts, notices and
attention at a port, and replies. Everything above them reads and writes the state through these. -/

namespace Sys2Proof.Machine

/-! ## Ports, stations, waves -/

/-- All ports, in order. -/
def allPorts : List PortId := List.finRange 6

/-- All stations, in order. -/
def allStations : List StationId := List.finRange 12

/-- All waves, in order. -/
def allWaves : List WaveId := List.finRange 32

/-- All diversion indexes, in order. -/
def allDiversions : List DiversionId := List.finRange 8

/-- Port unit `p`. -/
def State.port (s : State) (p : PortId) : PortUnit := s.ports[p]

/-- Every port unit changed by `f`. -/
def State.mapPorts (f : PortId → PortUnit → PortUnit) (s : State) : State :=
  { s with ports := Vector.ofFn fun p => f p (s.port p) }

/-- Port unit `p` changed by `f`. -/
def State.modPort (p : PortId) (f : PortUnit → PortUnit) (s : State) : State :=
  { s with ports := s.ports.set p (f (s.port p)) }

/-- Station unit `st`. -/
def State.station (s : State) (st : StationId) : StationUnit := s.stations[st]

/-- Every station unit changed by `f`. -/
def State.mapStations (f : StationUnit → StationUnit) (s : State) : State :=
  { s with stations := Vector.ofFn fun st => f (s.station st) }

/-- Station unit `st` changed by `f`. -/
def State.modStation (st : StationId) (f : StationUnit → StationUnit) (s : State) : State :=
  { s with stations := s.stations.set st (f (s.station st)) }

/-- Wave record `w`. -/
def State.wave (s : State) (w : WaveId) : Wave := s.waves[w]

/-- Wave record `w` changed by `f`. -/
def State.modWave (w : WaveId) (f : Wave → Wave) (s : State) : State :=
  { s with waves := s.waves.set w (f (s.wave w)) }

/-- Whether the service state is OPEN or DRAINING. -/
def State.inService (s : State) : Bool := s.service != .closed

/-! ## Tickets and slips -/

/-- The live ticket of a number (R50). -/
def State.ticket? (s : State) (n : Nat) : Option Ticket := s.tickets.find? fun t => t.number == n

/-- The ticket of number `n` changed by `f`. -/
def State.modTicket (n : Nat) (f : Ticket → Ticket) (s : State) : State :=
  { s with tickets := s.tickets.map fun t => if t.number = n then f t else t }

/-- Line `i` of ticket `n` changed by `f`. -/
def State.modLine (n i : Nat) (f : Line → Line) (s : State) : State :=
  s.modTicket n fun t => { t with lines := t.lines.modify i f }

/-- The slip of a number in the store (R78). -/
def State.slip? (s : State) (n : Nat) : Option Slip := s.slips.find? fun x => x.number == n

/-- The slip of number `n` changed by `f`. -/
def State.modSlip (n : Nat) (f : Slip → Slip) (s : State) : State :=
  { s with slips := s.slips.map fun x => if x.number = n then f x else x }

/-- Whether a slip is PENDING. -/
def Slip.isPending (x : Slip) : Bool := x.state == .pending

/-- Whether a slip is CALLED. -/
def Slip.isCalled (x : Slip) : Bool :=
  match x.state with
  | .called _ _ => true
  | _ => false

/-- Whether a slip is TAKEN. -/
def Slip.isTaken (x : Slip) : Bool :=
  match x.state with
  | .taken _ => true
  | _ => false

/-! ## Views the manual names -/

/-- PRIORITY before NORMAL (R104). -/
def SlipClass.rank : SlipClass → Nat
  | .priority => 0
  | .normal => 1

/-- Queue order: class, then fire time, then slip number (R104). -/
abbrev Slip.queueLe (a b : Slip) : Prop :=
  a.cls.rank < b.cls.rank ∨
    a.cls.rank = b.cls.rank ∧ (a.fire < b.fire ∨ a.fire = b.fire ∧ a.number ≤ b.number)

/-- A station's queue: its PENDING slips, each once, in queue order (R104). -/
def State.queue (s : State) (st : StationId) : List Slip :=
  (s.slips.filter fun x => x.station == st && x.isPending).insertionSort Slip.queueLe

/-- A station's busy set: its CALLED and TAKEN slips (R104), in ascending slip number. -/
def State.busySet (s : State) (st : StationId) : List Slip :=
  s.slips.filter fun x => x.station == st && !x.isPending

/-- A station's busy count (R104). -/
def State.busyCount (s : State) (st : StationId) : Nat := (s.busySet st).length

/-- A wave's ticket count (R20). -/
def State.ticketCount (s : State) (w : WaveId) : Nat := (s.tickets.filter fun t => t.wave == w).length

/-- A wave's slip count (R20). -/
def State.slipCount (s : State) (w : WaveId) : Nat := (s.slips.filter fun x => x.wave == w).length

/-- Lines in use, VOID lines included (R13, R50). -/
def State.linesInUse (s : State) : Nat := (s.tickets.map fun t => t.lines.length).sum

/-- Ticket numbers remaining (R13). -/
def State.ticketsLeft (s : State) : Nat := if s.ticketsExhausted then 0 else 65536 - s.nextTicket

/-- Slip numbers remaining (R4). -/
def State.slipsLeft (s : State) : Nat := if s.slipsExhausted then 0 else 65536 - s.nextSlip

/-- The pickup target of a sweep position (R19). -/
def Wave.target (w : Wave) (position : Nat) : Nat := sat16 (w.sweep.start + position * w.sweep.interval)

/-- The pickup target of a ticket as it stands (R19). -/
def State.target (s : State) (t : Ticket) : Nat := (s.wave t.wave).target t.position

/-- Whether a slip number is on the delay list of wave `w` (R85, R97). -/
def State.onDelayList (s : State) (w : WaveId) (n : Nat) : Bool :=
  match (s.wave w).delay with
  | some d => d.slips.any fun e => e.1 == n
  | none => false

/-! ## The attention line (9.5) -/

/-- The line asserted and both timers stopped (R161, R163). -/
def PortUnit.assertLine (u : PortUnit) : PortUnit :=
  { u with attention := .asserted, relTimer := none, absTimer := none }

/-- A timer started with a delay in tenths: idle where the delay is 0 (R160). -/
def startTimer (delay : Nat) : Option Nat := if delay = 0 then none else some delay

/-- A non-urgent notice acting on the attention state (R162). -/
def PortUnit.waitLine (u : PortUnit) : PortUnit :=
  match u.attention with
  | .released =>
    if u.relDelay = 0 ∧ u.absDelay = 0 then u.assertLine
    else { u with attention := .waiting, relTimer := startTimer u.relDelay, absTimer := startTimer u.absDelay }
  | .waiting => if u.relDelay = 0 then u else { u with relTimer := some u.relDelay }
  | .asserted => u

/-- The line released where the port holds no reply and no notice (R164). -/
def PortUnit.releaseIfDry (u : PortUnit) : PortUnit :=
  if u.slot.isReady || !u.notices.isEmpty then u
  else { u with attention := .released, relTimer := none, absTimer := none }

/-! ## Notices (9.2, 9.3) -/

/-- Whether a notice is urgent: its kind decides (R152). -/
def NoticeBody.urgent : NoticeBody → Bool
  | .call .. | .withdrawn .. | .exception .. | .stationState .. | .service .. => true
  | .preview .. | .changed .. | .up .. | .late .. | .short .. | .voided .. | .waveFree .. => false

/-- A copy of a notice handed to a port (R154, R161, R162). -/
def PortUnit.append (n : Notice) (u : PortUnit) : PortUnit :=
  if u.overrun then u
  else if u.notices.length < Config.noticeCapacity then
    let u' := { u with notices := u.notices ++ [n] }
    if n.body.urgent then u'.assertLine else u'.waitLine
  else { u with overrun := true }.assertLine

/-- A notice queued at every port that `recipient` names, with the clock at the event (R153, R154). -/
def State.post (recipient : PortId → Bool) (b : NoticeBody) (s : State) : State :=
  s.mapPorts fun p u => if recipient p then u.append ⟨s.clock, b⟩ else u

/-- The pass ports and the monitor ports (R153). -/
def State.watchers (s : State) (p : PortId) : Bool :=
  (s.port p).role == .pass || (s.port p).role == .monitor

/-- Pass ports, monitor ports and the origin port, one copy per port (R153). -/
def State.watchersAnd (s : State) (origin p : PortId) : Bool := s.watchers p || p == origin

/-- Whether `p` is a station's bound port: the port its configuration names, while that port's role is STATION (R5, R153). -/
def State.isBound (s : State) (st : StationId) (p : PortId) : Bool :=
  (s.station st).config.port == some p && (s.port p).role == .station

/-- Pass ports, monitor ports and the bound port of a station (R102, R124). -/
def State.watchersOf (s : State) (st : StationId) (p : PortId) : Bool := s.watchers p || s.isBound st p

/-- Every port. -/
def everyPort (_ : PortId) : Bool := true

/-- Whether a station is bound for the service (R5). -/
def State.stationBound (s : State) (u : StationUnit) : Bool :=
  match u.config.port with
  | some p => (s.port p).role == .station
  | none => false

/-! ## Reads and replies (8.5 to 8.7) -/

/-- What follows the status byte (R144). -/
def PortUnit.chooseRecord (u : PortUnit) : Record :=
  match u.slot, u.notices with
  | .ready r, _ => .reply r
  | .busy _, _ => .nothing
  | .empty, n :: _ => .notice n
  | .empty, [] => .nothing

/-- The status byte made up and sent: the flags as they stand, what follows decided, SCL released, the collided flag cleared
(R142, R143, R145). -/
def PortUnit.makeUp (serviceOpen : Bool) (u : PortUnit) : PortUnit :=
  { u with
    reading := some ⟨u.statusByte serviceOpen, u.chooseRecord, u.chooseRecord != .nothing⟩
    collided := false
    stretch := none }

/-- A reply placed in the slot: READY, the line asserted, a held read answered (R141, R145, R161). -/
def PortUnit.placeReply (serviceOpen : Bool) (r : Reply) (u : PortUnit) : PortUnit :=
  let u' := { u with slot := .ready r }.assertLine
  if u'.stretch.isSome then u'.makeUp serviceOpen else u'

/-- A reply placed at port `p` (R141). -/
def State.reply (p : PortId) (r : Reply) (s : State) : State :=
  s.modPort p (PortUnit.placeReply s.inService r)

/-- The reply of command `c` at port `p`. -/
def State.answer (p : PortId) (c : Cmd) (status : Status) (data : ReplyData) (s : State) : State :=
  s.reply p ⟨c.code, status, data⟩

/-- A refusal by the owner of command `c`: the status and no data (R169). -/
def State.refuse (p : PortId) (c : Cmd) (status : Status) (s : State) : State := s.answer p c status .empty

end Sys2Proof.Machine
end

