-- ==== Sys2Proof/Machine/Board.lean ====
section
/-! DEFINITION. The operations the ticket board, the fire planner, the wave table and the service controller share: working a ticket
out, placing lines in slips, members leaving slips, records leaving their tables, and the end of draining. -/

namespace Sys2Proof.Machine

/-! ## Working a ticket out (4.3) -/

/-- A line that is WAITING. -/
def LineState.isWaiting : LineState → Bool
  | .waiting _ => true
  | _ => false

/-- A line that is READY. -/
def LineState.isReady : LineState → Bool
  | .ready _ => true
  | _ => false

/-- A line that is VOID. -/
def LineState.isVoid : LineState → Bool
  | .void => true
  | _ => false

/-- A ticket's state from its lines (R56). -/
def Ticket.workedState (t : Ticket) : TicketState :=
  if (t.lines.all fun l => l.state.isReady || l.state.isVoid) && t.lines.any fun l => l.state.isReady then .up
  else if t.lines.all fun l => l.state.isWaiting || l.state.isVoid then .planned
  else .firing

/-- Whether every line of a ticket is VOID (R70). -/
def Ticket.allVoid (t : Ticket) : Bool := t.lines.all fun l => l.state.isVoid

/-- Ticket `n` worked out again, with its UP notice where it becomes UP (R56, R57). -/
def State.workOut (n : Nat) (s : State) : State :=
  match s.ticket? n with
  | none => s
  | some t =>
    let s' := s.modTicket n fun t => { t with state := t.workedState }
    if t.workedState = .up ∧ t.state ≠ .up then
      s'.post (s.watchersAnd t.origin) (.up n t.wave t.table (s.target t) t.late)
    else s'

/-- The tickets of a slip's members worked out, in member order. Working a ticket out a second time changes nothing (R52). -/
def State.workOutAll (ms : List Member) (s : State) : State := ms.foldl (fun s m => s.workOut m.ticket) s

/-- Every member line set to one line state (R52 to R54). -/
def State.setMembers (ms : List Member) (ls : LineState) (s : State) : State :=
  ms.foldl (fun s m => s.modLine m.ticket m.line fun l => { l with state := ls }) s

/-! ## Delays and the freeing of waves (2.6, 2.7, 2.9) -/

/-- The left-PENDING mark of slip `n` set, where it is on the delay list of wave `w` (R26, R27). -/
def State.markLeft (w : WaveId) (n : Nat) (s : State) : State :=
  s.modWave w fun v =>
    { v with delay := v.delay.map fun d => { d with slips := d.slips.map fun e => if e.1 = n then (e.1, true) else e } }

/-- Slip `n` taken off the delay list of wave `w` (R27). -/
def State.unlist (w : WaveId) (n : Nat) (s : State) : State :=
  s.modWave w fun v => { v with delay := v.delay.map fun d => { d with slips := d.slips.filter fun e => e.1 != n } }

/-- The end of a delay (R29): the flag, the amount and the list gone, the reply placed; the slips left on the list count as passed
over. -/
def State.endDelay (w : WaveId) (d : Delay) (s : State) : State :=
  (s.modWave w fun v => { v with delay := none }).answer d.port .delayWave (clampStatus d.clamped)
    (.delay w (s.wave w).sweep.start d.amount d.shifted d.unchanged (d.passed + d.slips.length))

/-- A delay in flight on wave `w`, if any, ended (R28). -/
def State.endDelayOf (w : WaveId) (s : State) : State :=
  match (s.wave w).delay with
  | some d => s.endDelay w d
  | none => s

/-- The freeing of a SEALED wave with no ticket and no slip, with WAVE_FREE (R22). -/
def State.freeIfDone (w : WaveId) (s : State) : State :=
  if (s.wave w).state = .sealed ∧ s.ticketCount w = 0 ∧ s.slipCount w = 0 then
    ((s.endDelayOf w).modWave w fun _ => freeWave).post s.watchers (.waveFree w)
  else s

/-! ## The end of an evacuation (7.4) -/

/-- An evacuation from `st` ended with a cause and the count of slips left (R130). -/
def State.endEvacuation (st : StationId) (cause : StationCause) (left : Nat) (s : State) : State :=
  (s.modStation st fun u => { u with evacuating := false }).post (s.watchersOf st)
    (.stationState st .down cause (s.station st).config.backup left)

/-- The end of an evacuation at the event that empties its queue (R128). -/
def State.finishEvacuation (st : StationId) (s : State) : State :=
  if (s.station st).evacuating && (s.queue st).isEmpty then s.endEvacuation st .evacuated 0 else s

/-! ## Slips leaving the store (5.1, 5.6) -/

/-- A slip freed: off the store, marked on its wave's delay list, its wave freed where it was the last (R78, R22), and the evacuation
ended whose queue it emptied (R128). -/
def State.dropSlip (x : Slip) (s : State) : State :=
  let s' := (s.markLeft x.wave x.number)
  let s' := ({ s' with slips := s'.slips.filter fun y => y.number != x.number }).freeIfDone x.wave
  if x.isPending then s'.finishEvacuation x.station else s'

/-- Whether the station has been told of a PENDING or CALLED slip (R90, R93). -/
def Slip.told (x : Slip) : Bool := x.previewed || x.isCalled

/-- The members of a slip without line `i` of ticket `n`; the others keep their order (R89). -/
def Slip.without (x : Slip) (n i : Nat) : List Member := x.members.filter fun m => !(m.ticket == n && m.line == i)

/-- The portions of line `i` of ticket `n` in a slip. -/
def Slip.portionsOf (x : Slip) (n i : Nat) : Nat :=
  ((x.members.filter fun m => m.ticket == n && m.line == i).map Member.qty).sum

/-- A CHANGED notice for a slip as it now stands (R93). -/
def State.postChanged (x : Slip) (s : State) : State :=
  s.post (s.isBound x.station) (.changed x.number x.station x.item x.state x.fire x.portions x.members.length)

/-- A WITHDRAWN notice for a slip (9.1). -/
def State.postWithdrawn (x : Slip) (reason : WithdrawReason) (s : State) : State :=
  s.post (s.isBound x.station) (.withdrawn x.number x.station x.item reason none)

/-- A PENDING or CALLED slip left with no member: WITHDRAWN (EMPTIED) where its station was told of it, then freed (R90). -/
def State.emptySlip (x : Slip) (s : State) : State :=
  (if x.told then s.postWithdrawn x .emptied else s).dropSlip x

/-- Line `i` of ticket `n` removed from the PENDING or CALLED slip `x` (R89, R90). -/
def State.removeMember (x : Slip) (n i : Nat) (s : State) : State :=
  if (x.without n i).isEmpty then s.emptySlip x
  else
    let x' := { x with members := x.without n i, portions := x.portions - x.portionsOf n i }
    let s' := s.modSlip x.number fun _ => x'
    if x.told then s'.postChanged x' else s'

/-- Line `i` of ticket `n` detached from the TAKEN slip `x`: the portions stay (R91). -/
def State.detachMember (x : Slip) (n i : Nat) (s : State) : State :=
  s.modSlip x.number fun y => { y with members := x.without n i }

/-! ## The end of draining (1.7) -/

/-- A slip discarded at the end of draining (R9). -/
def State.discard (s : State) (x : Slip) : State := (s.postWithdrawn x .discarded).dropSlip x

/-- The service CLOSED: second timer stopped, clock held, no second event left (R1, R2, R8). -/
def State.toClosed (s : State) : State :=
  { s with service := .closed, secondTimer := none }.mapStations fun u => { u with due := 0 }

/-- The end of draining (R8): the slips that remain discarded in slip-number order, the service CLOSED, SERVICE (CLOSED). -/
def State.endDraining (s : State) : State :=
  (s.slips.foldl State.discard s).toClosed.post everyPort (.service .closed .closed)

/-- The end of draining where no live ticket remains while DRAINING (R8, R68). -/
def State.endIfDrained (s : State) : State :=
  if s.service = .draining ∧ s.tickets = [] then s.endDraining else s

/-- A ticket leaves the table (R68): its entry and lines returned, its wave freed where it was the last, then the end of draining. -/
def State.leaveTable (t : Ticket) (s : State) : State :=
  ({ s with tickets := s.tickets.filter fun u => u.number != t.number }.freeIfDone t.wave).endIfDrained

/-! ## The menu store (chapter 3) -/

/-- The valid entry of an item (R33). -/
def State.entry? (s : State) (c : ItemCode) : Option MenuEntry := s.menu.find? fun e => e.item == c

/-- Whether an item is marked out (3.2). -/
def State.isOut (s : State) (c : ItemCode) : Bool := s.outBoard.contains c

/-- The cook time of an item. A slip or line on the board has a menu entry; where there is none the model takes 0 (assumption 15). -/
def State.cookTime (s : State) (c : ItemCode) : Nat :=
  match s.entry? c with
  | some e => e.cook
  | none => 0

/-- Whether a diversion entry matches a line (R46). -/
def Diversion.isMatch (d : Diversion) (c : ItemCode) (mods : Modifiers) : Bool :=
  d.enabled && (c &&& d.mask) == (d.code &&& d.mask) && (d.modifiers == 0 || (d.modifiers &&& mods) != 0)

/-- Routing step 3: the target of the first matching diversion, else the menu station (R46, R47). -/
def State.chosenStation (s : State) (c : ItemCode) (mods : Modifiers) : Option StationId :=
  match allDiversions.find? fun i => (s.diversions[i]).isMatch c mods with
  | some i => some (s.diversions[i]).target
  | none => (s.entry? c).map MenuEntry.station

/-- A station that is OPEN or PAUSED. -/
def State.isRunning (s : State) (st : StationId) : Bool :=
  (s.station st).state == .opened || (s.station st).state == .paused

/-- The backup of a station, where it is OPEN or PAUSED (R48, R126). -/
def State.usableBackup (s : State) (st : StationId) : Option StationId :=
  match (s.station st).config.backup with
  | some b => if s.isRunning b then some b else none
  | none => none

/-- Routing step 5: a DOWN station's line goes to its backup where that is usable, else stays (R48). -/
def State.redirect (s : State) (st : StationId) : StationId :=
  if (s.station st).state = .down then (s.usableBackup st).getD st else st

/-- Routing steps 3 to 5 (R47): none where the station found is UNUSED. -/
def State.route (s : State) (c : ItemCode) (mods : Modifiers) : Option StationId :=
  match s.chosenStation c mods with
  | some st => if (s.station st).state = .unused then none else some (s.redirect st)
  | none => none

/-! ## Planning and placing a line (5.2 to 5.4) -/

/-- Lead time: C + P + G (R81). -/
def State.leadTime (s : State) (c : ItemCode) (st : StationId) : Nat :=
  s.cookTime c + (s.station st).config.plate + (s.station st).lag

/-- A NORMAL line's fire time against a target, and whether it is late (R82). -/
def planFire (target lead clock : Nat) : Nat × Bool :=
  if lead ≤ target ∧ clock ≤ target - lead then (target - lead, false) else (clock, true)

/-- Whether a NORMAL line with fire time `fire` qualifies to join slip `x` of station `st`'s queue (R85). The wave is the line's own, as
condition 4 of R85 and R79 say, though R27 has a line submitted during a delay join "a slip of any other wave" (DEDUCED, assumption 24). -/
def State.qualifies (s : State) (st : StationId) (c : ItemCode) (w : WaveId) (fire qty : Nat) (x : Slip) : Bool :=
  (s.station st).state != .down && x.station == st && x.isPending && x.cls == .normal && x.item == c && x.wave == w
    && decide (x.members.length < Config.memberCapacity)
    && (match s.entry? c with | some e => decide (x.portions + qty ≤ e.batch) | none => false)
    && decide (fire - x.fire ≤ (s.station st).config.window) && decide (x.fire - fire ≤ (s.station st).config.window)
    && !s.onDelayList w x.number

/-- The next slip number given (R4). -/
def State.giveSlipNumber (s : State) : State :=
  if s.nextSlip < 65535 then { s with nextSlip := s.nextSlip + 1 } else { s with slipsExhausted := true }

/-- The next ticket number given (R3). -/
def State.giveTicketNumber (s : State) : State :=
  if s.nextTicket < 65535 then { s with nextTicket := s.nextTicket + 1 } else { s with ticketsExhausted := true }

/-- A slip created for one line (R78, R79, R84, R87); the line becomes WAITING in it. -/
def State.createSlip (st : StationId) (c : ItemCode) (w : WaveId) (cls : SlipClass) (fire : Nat) (m : Member) (s : State) : State :=
  let x : Slip := ⟨s.nextSlip, st, c, w, cls, .pending, false, fire, m.qty, [m]⟩
  ({ s with slips := s.slips ++ [x] }.giveSlipNumber).modLine m.ticket m.line fun l => { l with state := .waiting x.number }

/-- A line joins slip `x` (R86), with CHANGED where the slip is previewed (R93). -/
def State.joinSlip (x : Slip) (fire : Nat) (m : Member) (s : State) : State :=
  let x' := { x with members := x.members ++ [m], portions := x.portions + m.qty, fire := min x.fire fire }
  let s' := (s.modSlip x.number fun _ => x').modLine m.ticket m.line fun l => { l with state := .waiting x.number }
  if x.previewed then s'.postChanged x' else s'

/-- The late flag of a line set, and the ticket's with its LATE notice where it was clear (R58). -/
def State.setLate (n i : Nat) (s : State) : State :=
  let s' := s.modLine n i fun l => { l with late := true }
  match s.ticket? n with
  | some t =>
    if t.late then s'
    else (s'.modTicket n fun t => { t with late := true }).post s.watchers (.late n t.wave t.table (s.target t) i)
  | none => s'

/-- One non-void line placed (R63 step 4, R83, R86 to R88). Answers the station, too, whose queue holds the line's slip: an acceptance that
placed a line in a station's queue lets it consider (R107; a join that leaves the fire time is DEDUCED, assumption 8). -/
def State.placeLine (t : Ticket) (i : Nat) (l : Line) (s : State) : State × Option StationId :=
  match s.route l.item l.modifiers with
  | none => (s, none)
  | some st =>
    let m : Member := ⟨t.number, i, l.qty⟩
    let s := s.modLine t.number i fun l => { l with station := some st }
    if t.rush then (s.createSlip st l.item t.wave .priority s.clock m, some st)
    else
      let plan := planFire (s.target t) (s.leadTime l.item st) s.clock
      let s := if plan.2 then s.setLate t.number i else s
      match (s.queue st).find? (s.qualifies st l.item t.wave plan.1 l.qty) with
      | some x => (s.joinSlip x plan.1 m, some st)
      | none => (s.createSlip st l.item t.wave .normal plan.1 m, some st)

/-- The lines of a ticket from index `i` on placed in ascending index, lines of items marked out passed over (R63, R88). -/
def State.placeLines (t : Ticket) : Nat → List Line → State → State × List StationId
  | _, [], s => (s, [])
  | i, l :: ls, s =>
    if s.isOut l.item then s.placeLines t (i + 1) ls
    else
      let placed := s.placeLine t i l
      let rest := placed.1.placeLines t (i + 1) ls
      (rest.1, placed.2.toList ++ rest.2)

/-! ## Projections (5.8) -/

/-- A line's projected ready time (R95); none for a VOID line. -/
def State.projectedReady (s : State) (l : Line) : Option Nat :=
  match l.state with
  | .waiting n =>
    match s.slip? n with
    | some x => some (sat16 (x.fire + s.leadTime l.item x.station))
    | none => none
  | .called n | .cooking n =>
    match s.slip? n with
    | some x =>
      match x.state with
      | .called t _ | .taken t => some (sat16 (t + s.leadTime l.item x.station))
      | .pending => none
    | none => none
  | .ready t => some t
  | .void => none

/-- A ticket's projected up time (R96): the latest of its lines' projections. -/
def State.projectedUp (s : State) (t : Ticket) : Nat := (t.lines.filterMap s.projectedReady).foldl max 0

end Sys2Proof.Machine
end

