-- ==== Sys2Proof/Machine/Floor.lean ====
section
/-! DEFINITION. The operations the station units share: preview, calling, take timeouts, going down, the start and the loss of an
evacuation (chapters 6 and 7). -/

namespace Sys2Proof.Machine

/-! ## Preview and calling (6.5, 6.6) -/

/-- Whether R105 makes a queued slip of station `st` previewable. -/
def State.previewable (s : State) (st : StationId) (x : Slip) : Bool :=
  !x.previewed && s.isRunning st && decide (0 < (s.station st).config.horizon)
    && decide (x.fire ≤ s.clock + (s.station st).config.horizon)

/-- A preview (R105). -/
def State.preview (st : StationId) (x : Slip) (s : State) : State :=
  (s.modSlip x.number fun y => { y with previewed := true }).post (s.isBound st)
    (.preview x.number st x.item x.cls x.fire x.portions x.members.length)

/-- The preview pass: every previewable slip of the queue, in queue order (R107). -/
def State.previewPass (st : StationId) (s : State) : State :=
  (s.queue st).foldl (fun s x => if s.previewable st x then s.preview st x else s) s

/-- Whether a slip fits station `st`'s slots (R106). -/
def State.fits (s : State) (st : StationId) (x : Slip) : Bool :=
  match x.cls with
  | .priority => decide (s.busyCount st < (s.station st).config.slots)
  | .normal => decide (s.busyCount st < (s.station st).config.slots - (s.station st).config.reserve)

/-- Whether a queued slip of station `st` is eligible for a call (R106). -/
def State.eligible (s : State) (st : StationId) (x : Slip) : Bool :=
  decide (x.fire ≤ s.clock) && !(s.wave x.wave).hold && s.fits st x

/-- A call of the queued slip `x` at station `st` (R108, R52). -/
def State.callSlip (st : StationId) (x : Slip) (s : State) : State :=
  let s' := (s.markLeft x.wave x.number).modSlip x.number fun y =>
    { y with state := .called s.clock (s.station st).config.timeout }
  ((s'.setMembers x.members (.called x.number)).workOutAll x.members).post (s.isBound st)
    (.call x.number st x.item x.cls x.portions x.fire (x.members.map fun m => (m.ticket, m.qty)))

/-- The calling pass: the first eligible slip in queue order called, again and again until none is eligible (R107). Each call takes a
slip out of the queue, so as many rounds as the queue has slips are enough. -/
def State.callPass (st : StationId) : Nat → State → State
  | 0, s => s
  | k + 1, s =>
    match (s.queue st).find? (s.eligible st) with
    | some x => (s.callSlip st x).callPass st k
    | none => s

/-- A station considers preview and calling (R107). -/
def State.consider (st : StationId) (s : State) : State :=
  match (s.station st).state with
  | .opened => (s.previewPass st).callPass st (s.queue st).length
  | .paused => s.previewPass st
  | .down | .unused => s

/-- The stations that `sel` names consider, one at a time in ascending number (R107). -/
def State.considerAll (sel : StationId → Bool) (s : State) : State :=
  allStations.foldl (fun s st => if sel st then s.consider st else s) s

/-! ## Losing a station (7.2, 7.4) -/

/-- A CALLED slip returns to PENDING: its lines WAITING, their tickets worked out, WITHDRAWN (R53, R111, R123). -/
def State.returnSlip (x : Slip) (reason : WithdrawReason) (s : State) : State :=
  (((s.modSlip x.number fun y => { y with state := .pending }).setMembers x.members (.waiting x.number)).workOutAll
    x.members).postWithdrawn x reason

/-- The evacuation in flight from `d`, if it goes to the lost backup `b`, stopped (R129). -/
def State.loseBackup (b : StationId) (s : State) (d : StationId) : State :=
  if (s.station d).evacuating && (s.station d).config.backup == some b then
    s.endEvacuation d .backupLost (s.queue d).length
  else s

/-- A station goes DOWN (R123, R124, R126, R129). -/
def State.goDown (st : StationId) (cause : StationCause) (s : State) : State :=
  let s1 := s.modStation st fun u => { u with state := .down }
  let s2 := ((s1.busySet st).filter Slip.isCalled).foldl (fun s x => s.returnSlip x .down) s1
  let backup := if (s2.queue st).isEmpty then none else s2.usableBackup st
  let left := if backup.isSome then (s2.queue st).length else 0
  let s3 := s2.post (s2.watchersOf st) (.stationState st .down cause backup left)
  let s4 := allStations.foldl (State.loseBackup st) s3
  if backup.isSome then s4.modStation st fun u => { u with evacuating := true } else s4

/-- The take timeout of a CALLED slip (R111), and the going down of its station where it is the third in a row (R112). -/
def State.timeoutSlip (x : Slip) (s : State) : State :=
  let s' := (s.returnSlip x .timeout).modStation x.station fun u => { u with missed := u.missed + 1 }
  if (s'.station x.station).missed = Config.missedLimit then s'.goDown x.station .missedTakes else s'

/-! ## The second event at a station (6.8) -/

/-- Every take timer of station `st` lowered by one (R110, R114). -/
def State.lowerTimers (st : StationId) (s : State) : State :=
  { s with slips := s.slips.map fun x =>
      match x.state with
      | .called t timer => if x.station = st then { x with state := .called t (timer - 1) } else x
      | .pending | .taken _ => x }

/-- Whether a slip's take timer has reached 0. -/
def Slip.timedOut (x : Slip) : Bool :=
  match x.state with
  | .called _ timer => timer == 0
  | .pending | .taken _ => false

/-- The timed-out slips of a station one at a time, stopping where the station goes DOWN (R114 step 1). -/
def State.timeoutAll (st : StationId) : List Slip → State → State
  | [], s => s
  | x :: xs, s =>
    let s' := s.timeoutSlip x
    if (s'.station st).state = .down then s' else s'.timeoutAll st xs

/-- A second event handled by station `st` (R114). -/
def State.secondAt (st : StationId) (s : State) : State :=
  if s.isRunning st then
    let s1 := s.lowerTimers st
    (s1.timeoutAll st ((s1.busySet st).filter Slip.timedOut)).consider st
  else s

/-! ## Bumping (6.9) -/

/-- The lag sample Z of a bump (R117 step 1). -/
def lagSample (clock called cook plate : Nat) : Int :=
  clampInt (-120) 600 ((clock : Int) - ((called : Int) + cook + plate))

/-- The lag estimate after a sample (R117 steps 2 and 3). -/
def lagAfter (lag : Nat) (z : Int) : Nat := (clampInt 0 600 ((lag : Int) + (z - lag).tdiv 4)).toNat

/-- The member lines of a slip READY, their tickets worked out, the slip freed (R54, R92). -/
def State.finishSlip (x : Slip) (s : State) : State :=
  ((s.setMembers x.members (.ready s.clock)).workOutAll x.members).dropSlip x

end Sys2Proof.Machine
end

