-- ==== Sys2Proof/Machine/Frame.lean ====
section
/-! DEFINITION. A written frame at its port: the four checks in their order, and the handing over to the owner (8.3, 8.4, 8.8). -/

namespace Sys2Proof.Machine

/-- The roles to which the port permits each command (R140, the table of 8.4). -/
def permits : Cmd → Role → Bool
  | .openService, r | .closeService, r | .serviceReset, r | .setLimits, r => r == .pass
  | .status, _ => true
  | .defineWave, r | .sealWave, r | .holdWave, r | .releaseWave, r | .delayWave, r | .fireWave, r => r == .pass
  | .queryWave, _ => true
  | .setItem, r | .clearItem, r | .clearMenu, r | .setDiversion, r => r == .pass
  | .queryItem, _ | .queryDiversion, _ => true
  | .markOut, r | .markIn, r => r == .pass || r == .station
  | .submitTicket, r | .voidTicket, r => r == .pass || r == .order
  | .pickup, r | .refire, r => r == .pass
  | .queryTicket, _ | .querySlip, _ => true
  | .setStation, r => r == .pass
  | .pauseStation, r | .resumeStation, r => r == .pass || r == .station
  | .queryStation, _ => true
  | .take, r | .bump, r => r == .station
  | .forceBump, r | .stationDown, r => r == .pass
  | .stationOpen, r => r == .pass || r == .station
  | .setPortMode, _ | .portRestart, _ | .list, _ => true

/-- The commands a muted port takes (R139). -/
def passesMute : Cmd → Bool
  | .status | .portRestart => true
  | _ => false

/-- The error counter grown by one, unless it is 16 already, and the mute at 16 (R138, R148). -/
def PortUnit.countError (u : PortUnit) : PortUnit :=
  let errors := min (u.errors + 1) Config.muteCount
  { u with errors := errors, muted := u.muted || errors == Config.muteCount }

/-- A frame handed to its owner: BUSY, and at a port that is not muted the error counter down by one if above 0 (R141). -/
def PortUnit.handOver (code : Byte) (u : PortUnit) : PortUnit :=
  { u with slot := .busy code, errors := if u.muted then u.errors else u.errors - 1 }

/-- The write transaction ends a read under way: a bus carries one transaction at a time (R146, assumption 9). -/
def PortUnit.endRead (u : PortUnit) : PortUnit := { u with reading := none }

/-- A frame discarded by the first check (R137). -/
def PortUnit.collide (u : PortUnit) : PortUnit := { u with collided := true }

/-- What the port makes of a frame (R137 to R141). -/
inductive Verdict (α : Type) where
  | ignored
  | collision
  | malformed
  | muted
  | notPermitted
  | accepted (params : α)
  deriving DecidableEq, Repr

/-- The checks of the port unit in their order (R135, R137 to R140), for command `c` whose layout `parse` reads. -/
def PortUnit.check {α : Type} (c : Cmd) (parse : List Byte → Option α) (w : Written) (u : PortUnit) : Verdict α :=
  if w.address ≠ u.address then .ignored
  else if u.slot ≠ .empty then .collision
  else
    match (paramsOf w.body).bind parse with
    | none => .malformed
    | some a =>
      if u.muted && !passesMute c then .muted
      else if permits c u.role then .accepted a
      else .notPermitted

/-- A written frame of command `c`: refused at the port, discarded, ignored, or handed to `owner` (R135 to R141). -/
def State.frame {α : Type} (c : Cmd) (parse : List Byte → Option α) (owner : PortId → α → State → State) (w : Written)
    (s : State) : State :=
  match (s.port w.port).check c parse w with
  | .ignored => s
  | .collision => s.modPort w.port fun u => u.endRead.collide
  | .malformed => (s.modPort w.port fun u => u.endRead.countError).refuse w.port c .malformed
  | .muted => (s.modPort w.port PortUnit.endRead).refuse w.port c .muted
  | .notPermitted => (s.modPort w.port fun u => u.endRead.countError).refuse w.port c .notPermitted
  | .accepted a => owner w.port a (s.modPort w.port fun u => u.endRead.handOver c.code)

/-- A written frame whose code is not in the command table, refused at the port with the code as received (R138). -/
def State.unknownFrame (code : Byte) (w : Written) (s : State) : State :=
  if w.address ≠ (s.port w.port).address then s
  else if (s.port w.port).slot ≠ .empty then s.modPort w.port fun u => u.endRead.collide
  else (s.modPort w.port fun u => u.endRead.countError).reply w.port ⟨code, .unknownCommand, .empty⟩

end Sys2Proof.Machine
end

