-- ==== Sys2Proof/Machine/Ports.lean ====
section
/-! DEFINITION. The commands the port units own, the reads they answer and the timers they run (chapters 8 and 9). -/

namespace Sys2Proof.Machine

/-! ## SET PORT MODE and PORT RESTART -/

/-- SET PORT MODE at the port unit (R150, R165). -/
def ownSetPortMode (p : PortId) (a : Nat × Nat × Nat) (s : State) : State :=
  (s.modPort p fun u => { u with stretchMode := a.1 != 0, relDelay := a.2.1, absDelay := a.2.2 }).answer p .setPortMode
    (clampStatus (1 < a.1)) (.portMode (a.1 != 0) a.2.1 a.2.2)

/-- SET_PORT_MODE (R150). -/
def execSetPortMode (w : Written) (s : State) : Result := .next (s.frame .setPortMode parsePortMode ownSetPortMode w)

/-- PORT RESTART at the port unit (R149). -/
def ownPortRestart (p : PortId) (_ : Unit) (s : State) : State :=
  (s.modPort p fun u => { u with errors := 0, muted := false }).answer p .portRestart .ok
    (.restarted (s.port p).errors (s.port p).muted)

/-- PORT_RESTART (R149). -/
def execPortRestart (w : Written) (s : State) : Result := .next (s.frame .portRestart parseNone ownPortRestart w)

/-! ## LIST -/

/-- Whether a STATION port's list shows slip `x` (R158). -/
def State.listsSlip (s : State) (p : PortId) (x : Slip) : Bool :=
  s.isBound x.station p && (!x.isPending || x.previewed)

/-- The records port `p` lists above a cursor, in ascending number (R157, R158). -/
def State.listed (s : State) (p : PortId) (cursor : Nat) : List ListEntry :=
  match (s.port p).role with
  | .station =>
    (s.slips.filter fun x => s.listsSlip p x && decide (cursor < x.number)).map fun x => .slip x.number x.station x.state
  | .order =>
    (s.tickets.filter fun t => t.origin == p && decide (cursor < t.number)).map fun t =>
      .ticket t.number t.wave t.state t.late t.exceptional
  | .pass | .monitor =>
    (s.tickets.filter fun t => decide (cursor < t.number)).map fun t => .ticket t.number t.wave t.state t.late t.exceptional

/-- LIST at the port unit (R157 to R159). -/
def ownList (p : PortId) (cursor : Nat) (s : State) : State :=
  let cleared := cursor == 0 && (s.port p).overrun
  (s.modPort p fun u => { u with overrun := u.overrun && cursor != 0 }).answer p .list .ok
    (.list (decide (Config.listPage < (s.listed p cursor).length)) cleared s.clock ((s.listed p cursor).take Config.listPage))

/-- LIST (R157). -/
def execList (w : Written) (s : State) : Result := .next (s.frame .list parseNumber ownList w)

/-! ## A frame with no command -/

/-- UNKNOWN_COMMAND (R138): no effect for a write that carries no byte (R136). A code of the table is no frame of this row. -/
def execUnknownCommand (w : Written) (s : State) : Result :=
  match w.body with
  | [] => .next s
  | code :: _ => if (Cmd.ofCode code).isSome then .refused .codeInTable else .next (s.unknownFrame code w)

/-! ## Reads -/

/-- The start of a read at the port (R142, R144, R145): SCL held where the slot is BUSY and the stretch mode on, else the status byte made
up at once. While SCL is held no read can start. -/
def PortUnit.startRead (serviceOpen : Bool) (u : PortUnit) : PortUnit :=
  if u.stretch.isSome then u
  else if u.slot.isBusy && u.stretchMode then { u with stretch := some 0, reading := none }
  else u.makeUp serviceOpen

/-- READ_TRANSACTION (R144): no part taken where the address is another's (R135). -/
def execReadTransaction (p : PortId) (address : BitVec 7) (s : State) : Result :=
  .next (if address ≠ (s.port p).address then s else s.modPort p (PortUnit.startRead s.inService))

/-- The master's acknowledgement of the last byte of the record being sent (R146, R147, R155, R164). -/
def PortUnit.deliver (u : PortUnit) : PortUnit :=
  match u.reading with
  | some ⟨status, .reply r, true⟩ =>
    { u with slot := .empty, reading := some ⟨status, .reply r, false⟩ }.releaseIfDry
  | some ⟨status, .notice n, true⟩ =>
    { u with notices := u.notices.tail, reading := some ⟨status, .notice n, false⟩ }.releaseIfDry
  | some ⟨_, .nothing, _⟩ | some ⟨_, .reply _, false⟩ | some ⟨_, .notice _, false⟩ | none => u

/-- RECORD_DELIVERY (R146). -/
def execRecordDelivery (p : PortId) (s : State) : Result := .next (s.modPort p PortUnit.deliver)

/-! ## The port's timers -/

/-- The stretch timer runs out (R145): the status byte with busy set and no record. -/
def PortUnit.stretchExpires (serviceOpen : Bool) (u : PortUnit) : PortUnit :=
  if u.stretch.isSome then u.makeUp serviceOpen else u

/-- STRETCH_TIMER_EXPIRY (R145). -/
def execStretchTimerExpiry (p : PortId) (s : State) : Result :=
  .next (s.modPort p (PortUnit.stretchExpires s.inService))

/-- The relative timer runs out (R163). -/
def PortUnit.relativeExpires (u : PortUnit) : PortUnit :=
  if u.attention == .waiting && u.relTimer.isSome then u.assertLine else u

/-- RELATIVE_TIMER_EXPIRY (R163): the row says that the timer has run out (assumption 5). An expiry that a notice pre-empted (R166) is one
whose row is not sent; a cycle of REFCLK finds the restarted count and makes none. -/
def execRelativeTimerExpiry (p : PortId) (s : State) : Result := .next (s.modPort p PortUnit.relativeExpires)

/-- The absolute timer runs out (R163). -/
def PortUnit.absoluteExpires (u : PortUnit) : PortUnit :=
  if u.attention == .waiting && u.absTimer.isSome then u.assertLine else u

/-- ABSOLUTE_TIMER_EXPIRY (R163). -/
def execAbsoluteTimerExpiry (p : PortId) (s : State) : Result := .next (s.modPort p PortUnit.absoluteExpires)

end Sys2Proof.Machine
end

