-- ==== Sys2Proof/Machine/Events.lean ====
section
/-! DEFINITION. The two resets, the second events, the steps of operations in flight, and the part's clock (chapters 1, 6 to 9). -/

namespace Sys2Proof.Machine

/-! ## Resets -/

/-- POWER_ON_RESET (R14, R32, R49, R77, R98, R121, R151): every block at its power-on values, the straps sampled. -/
def execPowerOnReset (straps : Straps) (s : State) : Result :=
  .next { State.powerOn straps s.pending with freeCount := s.freeCount }

/-- A station after the RESET pin (R121): its configuration kept, OPEN where the port it names is now a STATION port, else UNUSED. -/
def stationAtPin (straps : Straps) (u : StationUnit) : StationUnit :=
  stationAtStart u.config
    (match u.config.port with
      | some p => if roleSampled straps p = .station then .opened else .unused
      | none => .unused)

/-- RESET_PIN (R151): as power-on reset, but the refire limit, the menu, the diversions and the station configurations kept (R14, R49,
R121). -/
def execResetPin (straps : Straps) (s : State) : Result :=
  .next { State.powerOn straps s.pending with
    refireLimit := s.refireLimit
    menu := s.menu
    diversions := s.diversions
    stations := Vector.ofFn fun st => stationAtPin straps (s.station st)
    freeCount := s.freeCount }

/-! ## The service clock -/

/-- The second timer completes a second (R1, R2): the clock grows, saturating, and a second event is delivered to every station. -/
def State.secondExpires (s : State) : State :=
  if s.secondTimer.isSome then
    { s with clock := sat16 (s.clock + 1), secondTimer := some 0 }.mapStations fun u => { u with due := u.due + 1 }
  else s

/-- SECOND_TIMER_EXPIRY (R1): no expiry occurs while the timer is stopped. -/
def execSecondTimerExpiry (s : State) : Result := .next s.secondExpires

/-- STATION_SECOND_EVENT (R114): the station handles one delivered second event; with none delivered nothing occurs. -/
def execStationSecondEvent (st : StationId) (s : State) : Result :=
  .next
    (if (s.station st).due = 0 then s
     else (s.modStation st fun u => { u with due := u.due - 1 }).secondAt st)

/-- TAKE_TIMEOUT (R111): the take timer of a CALLED slip runs out. A slip that is not CALLED has no take timer (R110). -/
def execTakeTimeout (slip : Nat) (s : State) : Result :=
  .next
    (match s.slip? slip with
      | some x => if x.isCalled then s.timeoutSlip x else s
      | none => s)

/-! ## A move of an evacuation -/

/-- The earliest pickup target among a slip's members (R127); none where no member's ticket is live. -/
def State.earliestTarget (s : State) (x : Slip) : Option Nat :=
  (x.members.filterMap fun m => (s.ticket? m.ticket).map s.target).min?

/-- The fire time of a slip moved to backup `b` (R127 step 1). -/
def State.movedFire (s : State) (b : StationId) (x : Slip) : Nat :=
  match s.earliestTarget x with
  | some t => if t < s.leadTime x.item b then s.clock else max (t - s.leadTime x.item b) s.clock
  | none => s.clock

/-- Slip `x` moved from station `st` to backup `b` (R127). -/
def State.moveSlip (st b : StationId) (x : Slip) (s : State) : State :=
  let s1 :=
    if x.previewed then s.post (s.isBound st) (.withdrawn x.number st x.item .moved (some b)) else s
  let s2 := (s1.modSlip x.number fun y => { y with station := b, previewed := false, fire := s.movedFire b x }).unlist x.wave
    x.number
  let s3 := x.members.foldl (fun s m => s.modLine m.ticket m.line fun l => { l with station := some b }) s2
  (s3.consider b).finishEvacuation st

/-- EVACUATION_MOVE (R127, R128): with no evacuation in flight from the station nothing occurs. -/
def execEvacuationMove (st : StationId) (s : State) : Result :=
  .next
    (match (s.station st).evacuating, (s.station st).config.backup, s.queue st with
      | true, some b, x :: _ => s.moveSlip st b x
      | _, _, _ => s)

/-! ## A cycle of REFCLK -/

/-- The stretch timer of a port over one cycle: 25 ms after its start it runs out (R145). -/
def PortUnit.stretchCycle (serviceOpen : Bool) (u : PortUnit) : PortUnit :=
  match u.stretch with
  | some n =>
    if n + 1 < Config.cyclesPerStretch then { u with stretch := some (n + 1) } else u.stretchExpires serviceOpen
  | none => u

/-- A tenth tick at a port (R160, R163): each running attention timer counts one, and the first to run out asserts the line. -/
def PortUnit.tenthTick (u : PortUnit) : PortUnit :=
  let r := u.relTimer.map fun n => n - 1
  let a := u.absTimer.map fun n => n - 1
  if u.attention == .waiting && (r == some 0 || a == some 0) then u.assertLine
  else { u with relTimer := r, absTimer := a }

/-- The second timer over one cycle (R1). -/
def State.secondCycle (s : State) : State :=
  match s.secondTimer with
  | some n => if n + 1 < Config.cyclesPerSecond then { s with secondTimer := some (n + 1) } else s.secondExpires
  | none => s

/-- The divider of the tenth ticks over one cycle (R160). -/
def State.tenthCycle (s : State) : State :=
  if s.tenthDivider + 1 < Config.cyclesPerTenth then { s with tenthDivider := s.tenthDivider + 1 }
  else { s with tenthDivider := 0 }.mapPorts fun _ u => u.tenthTick

/-- One cycle of REFCLK (0.5, assumption 3): every timer of the part counts it. -/
def State.refclkCycle (s : State) : State :=
  ((s.mapPorts fun _ u => u.stretchCycle s.inService).secondCycle).tenthCycle

end Sys2Proof.Machine
end

