-- ==== Sys2Proof/Machine/Menu.lean ====
section
/-! DEFINITION. The commands of the menu store (chapter 3). -/

namespace Sys2Proof.Machine

/-! ## The menu table -/

/-- The menu table rewritten. -/
def State.setMenu (menu : List MenuEntry) (s : State) : State := { s with menu := menu }

/-- The out board rewritten. -/
def State.setOutBoard (out : List ItemCode) (s : State) : State := { s with outBoard := out }

/-- The lowest-numbered invalid entry (R34). -/
def State.freeEntry? (s : State) : Option Nat :=
  (List.range Config.menuCapacity).find? fun i => !s.menu.any fun e => e.index == i

/-- An entry put at its place in ascending index. -/
def insertEntry (e : MenuEntry) : List MenuEntry → List MenuEntry
  | [] => [e]
  | f :: fs => if e.index < f.index then e :: f :: fs else f :: insertEntry e fs

/-- The entry SET ITEM stores at an index (R35). -/
def storedEntry (i : Nat) (a : ItemParams) : MenuEntry := ⟨i, a.item, a.station, min a.cook 5400, clampTo 1 64 a.batch⟩

/-- Whether R35 changes a value. -/
def itemClamped (a : ItemParams) : Bool := min a.cook 5400 != a.cook || clampTo 1 64 a.batch != a.batch

/-- SET ITEM at the menu store (R34, R35). -/
def ownSetItem (p : PortId) (a : ItemParams) (s : State) : State :=
  if s.service ≠ .closed then s.refuse p .setItem .frozen
  else
    match s.entry? a.item with
    | some e =>
      (s.setMenu (s.menu.map fun f => if f.index = e.index then storedEntry e.index a else f)).answer p .setItem
        (clampStatus (itemClamped a)) (.itemSet (storedEntry e.index a) true)
    | none =>
      match s.freeEntry? with
      | some i =>
        (s.setMenu (insertEntry (storedEntry i a) s.menu)).answer p .setItem (clampStatus (itemClamped a))
          (.itemSet (storedEntry i a) false)
      | none => s.refuse p .setItem .menuFull

/-- SET_ITEM (R34). -/
def execSetItem (w : Written) (s : State) : Result := .next (s.frame .setItem parseSetItem ownSetItem w)

/-- CLEAR ITEM at the menu store (R36). -/
def ownClearItem (p : PortId) (c : ItemCode) (s : State) : State :=
  if s.service ≠ .closed then s.refuse p .clearItem .frozen
  else
    match s.entry? c with
    | some e =>
      (s.setMenu (s.menu.filter fun f => f.index != e.index)).answer p .clearItem .ok (.itemCleared e.index)
    | none => s.refuse p .clearItem .unknownItem

/-- CLEAR_ITEM (R36). -/
def execClearItem (w : Written) (s : State) : Result := .next (s.frame .clearItem parseItem ownClearItem w)

/-- CLEAR MENU at the menu store (R37). -/
def ownClearMenu (p : PortId) (_ : Unit) (s : State) : State :=
  if s.service ≠ .closed then s.refuse p .clearMenu .frozen
  else (s.setMenu []).answer p .clearMenu .ok (.menuCleared s.menu.length)

/-- CLEAR_MENU (R37). -/
def execClearMenu (w : Written) (s : State) : Result := .next (s.frame .clearMenu parseNone ownClearMenu w)

/-- QUERY ITEM at the menu store (R38). -/
def ownQueryItem (p : PortId) (c : ItemCode) (s : State) : State :=
  s.answer p .queryItem .ok (.item c (s.entry? c) (s.isOut c) s.menu.length)

/-- QUERY_ITEM (R38). -/
def execQueryItem (w : Written) (s : State) : Result := .next (s.frame .queryItem parseItem ownQueryItem w)

/-! ## The diversion table -/

/-- SET DIVERSION at the menu store (R45). -/
def ownSetDiversion (p : PortId) (a : DiversionId × Diversion) (s : State) : State :=
  if s.service ≠ .closed then s.refuse p .setDiversion .frozen
  else { s with diversions := s.diversions.set a.1 a.2 }.answer p .setDiversion .ok (.diversion a.1 a.2)

/-- SET_DIVERSION (R45). -/
def execSetDiversion (w : Written) (s : State) : Result := .next (s.frame .setDiversion parseSetDiversion ownSetDiversion w)

/-- QUERY DIVERSION at the menu store (R45). -/
def ownQueryDiversion (p : PortId) (i : DiversionId) (s : State) : State :=
  s.answer p .queryDiversion .ok (.diversion i s.diversions[i])

/-- QUERY_DIVERSION (R45). -/
def execQueryDiversion (w : Written) (s : State) : Result :=
  .next (s.frame .queryDiversion parseDiversionIndex ownQueryDiversion w)

/-! ## The out board -/

/-- An item code put at its place in ascending order. -/
def insertCode (c : ItemCode) : List ItemCode → List ItemCode
  | [] => [c]
  | d :: ds => if c.toNat < d.toNat then c :: d :: ds else d :: insertCode c ds

/-- Whether a line is WAITING with item `c` (R40). -/
def Line.waitsFor (c : ItemCode) (l : Line) : Bool := l.item == c && l.state.isWaiting

/-- The indexes of a ticket's lines that a mark of item `c` voids (R40). -/
def Ticket.linesHit (c : ItemCode) (t : Ticket) : List Nat :=
  (t.lines.zipIdx.filter fun e => e.1.waitsFor c).map Prod.snd

/-- A WAITING line set VOID and removed from its PENDING slip (R40, R41 step 1). -/
def State.voidWaiting (n : Nat) (s : State) (i : Nat) : State :=
  match (s.ticket? n).bind fun t => t.lines[i]? with
  | some l =>
    match l.state with
    | .waiting k =>
      let s' := s.modLine n i fun l => { l with state := .void }
      match s'.slip? k with
      | some x => s'.removeMember x n i
      | none => s'
    | .called _ | .cooking _ | .ready _ | .void => s
  | none => s

/-- The automatic retirement of a ticket whose every line is VOID (R70, R68). -/
def State.retire (t : Ticket) (s : State) : State :=
  (s.post (s.watchersAnd t.origin) (.voided t.number .allVoid)).leaveTable t

/-- One ticket of a MARK OUT event (R41): its lines voided, SHORT, its state worked out or the ticket retired. -/
def State.shortTicket (c : ItemCode) (s : State) (t : Ticket) : State :=
  let s1 := (t.linesHit c).foldl (State.voidWaiting t.number) s
  let s2 := s1.post (s1.watchersAnd t.origin) (.short t.number c (lineSet (t.linesHit c)))
  match s2.ticket? t.number with
  | some t' => if t'.allVoid then s2.retire t' else s2.workOut t.number
  | none => s2

/-- The tickets a MARK OUT of item `c` affects, in ascending number (R41). -/
def State.ticketsHit (s : State) (c : ItemCode) : List Ticket := s.tickets.filter fun t => !(t.linesHit c).isEmpty

/-- MARK OUT at the menu store (R39 to R41). In CLOSED no ticket exists and the tickets hit are none. -/
def ownMarkOut (p : PortId) (c : ItemCode) (s : State) : State :=
  if s.isOut c then s.answer p .markOut .ok (.markedOut c true 0 0)
  else
    let hit := if s.inService then s.ticketsHit c else []
    (hit.foldl (State.shortTicket c) (s.setOutBoard (insertCode c s.outBoard))).answer p .markOut .ok
      (.markedOut c true ((hit.map fun t => (t.linesHit c).length).sum) hit.length)

/-- MARK_OUT (R39). -/
def execMarkOut (w : Written) (s : State) : Result := .next (s.frame .markOut parseItem ownMarkOut w)

/-- MARK IN at the menu store (R43). -/
def ownMarkIn (p : PortId) (c : ItemCode) (s : State) : State :=
  (s.setOutBoard (s.outBoard.filter fun d => d != c)).answer p .markIn .ok (.markedIn c false)

/-- MARK_IN (R43). -/
def execMarkIn (w : Written) (s : State) : Result := .next (s.frame .markIn parseItem ownMarkIn w)

end Sys2Proof.Machine
end

