-- ==== Sys2Proof/Machine/Slips.lean ====
section
/-! DEFINITION. The commands that name slips (chapters 5 and 6). -/

namespace Sys2Proof.Machine

/-- The header of QUERY SLIP (R97). -/
def State.slipHeader (s : State) (x : Slip) : SlipHeader where
  number := x.number
  station := x.station
  item := x.item
  wave := x.wave
  cls := x.cls
  state := x.state
  previewed := x.previewed
  delayListed := s.onDelayList x.wave x.number
  fire := x.fire
  portions := x.portions
  memberCount := x.members.length

/-- QUERY SLIP at the fire planner (R97). -/
def ownQuerySlip (p : PortId) (a : Nat × Nat) (s : State) : State :=
  match s.slip? a.1 with
  | none => s.refuse p .querySlip .unknownSlip
  | some x => s.answer p .querySlip .ok (.slip (s.slipHeader x) ((x.members.drop a.2).take Config.memberPage))

/-- QUERY_SLIP (R97). -/
def execQuerySlip (w : Written) (s : State) : Result := .next (s.frame .querySlip (parseIndexed 16) ownQuerySlip w)

/-- The missed-take count of a station set to 0 (R112). -/
def State.clearMissed (st : StationId) (s : State) : State := s.modStation st fun u => { u with missed := 0 }

/-- An accepted TAKE of the CALLED slip `x`, called at `t`, without its reply (R109, R52). -/
def State.takeSlip (x : Slip) (t : Nat) (s : State) : State :=
  ((((s.modSlip x.number fun y => { y with state := .taken t }).setMembers x.members (.cooking x.number)).workOutAll
    x.members).clearMissed x.station)

/-- TAKE at the station unit (R109). -/
def ownTake (p : PortId) (n : Nat) (s : State) : State :=
  match s.slip? n with
  | none => s.refuse p .take .unknownSlip
  | some x =>
    if !s.isBound x.station p then s.refuse p .take .wrongStation
    else
      match x.state with
      | .called t _ =>
        (s.takeSlip x t).answer p .take .ok (.taken n x.station (.taken t) x.portions x.members.length)
      | .pending | .taken _ => s.refuse p .take .badState

/-- TAKE (R109). -/
def execTake (w : Written) (s : State) : Result := .next (s.frame .take parseNumber ownTake w)

/-- The sample of a bump of slip `x`, called at `t` (R117). -/
def State.sampleOf (s : State) (x : Slip) (t : Nat) : Int :=
  lagSample s.clock t (s.cookTime x.item) (s.station x.station).config.plate

/-- The lag estimate of a station updated by a sample (R117). -/
def State.learn (st : StationId) (z : Int) (s : State) : State :=
  s.modStation st fun u => { u with lag := lagAfter u.lag z }

/-- An accepted BUMP of slip `x`, called at `t`, without its reply (R116). A PAUSED station runs the preview pass here, as R107 says of a
slot freed, though step 4 of R116 names OPEN alone (DEDUCED, assumption 21). -/
def State.bumpSlip (x : Slip) (t : Nat) (s : State) : State :=
  (((s.clearMissed x.station).learn x.station (s.sampleOf x t)).finishSlip x).consider x.station

/-- BUMP at the station unit (R115, R116). -/
def ownBump (p : PortId) (n : Nat) (s : State) : State :=
  match s.slip? n with
  | none => s.refuse p .bump .unknownSlip
  | some x =>
    if !s.isBound x.station p then s.refuse p .bump .wrongStation
    else
      match x.state with
      | .called t _ | .taken t =>
        (s.bumpSlip x t).answer p .bump .ok
          (.bumped n x.station s.clock (lagAfter (s.station x.station).lag (s.sampleOf x t)) (s.sampleOf x t) x.members.length)
      | .pending => s.refuse p .bump .badState

/-- BUMP (R116). -/
def execBump (w : Written) (s : State) : Result := .next (s.frame .bump parseNumber ownBump w)

/-- An accepted FORCE BUMP of slip `x` without its reply (R118). Where it frees a slot a PAUSED station runs the preview pass, as R107 says,
though step 5 of R118 names OPEN alone (DEDUCED, assumption 21). -/
def State.forceSlip (x : Slip) (s : State) : State :=
  let s1 := s.clearMissed x.station
  let s2 := if x.previewed || !x.isPending then s1.postWithdrawn x .forced else s1
  let s3 := s2.finishSlip x
  if x.isPending then s3 else s3.consider x.station

/-- FORCE BUMP at the station unit (R118). -/
def ownForceBump (p : PortId) (n : Nat) (s : State) : State :=
  match s.slip? n with
  | none => s.refuse p .forceBump .unknownSlip
  | some x => (s.forceSlip x).answer p .forceBump .ok (.forced n x.station x.state x.members.length)

/-- FORCE_BUMP (R118). -/
def execForceBump (w : Written) (s : State) : Result := .next (s.frame .forceBump parseNumber ownForceBump w)

end Sys2Proof.Machine
end

