-- ==== Sys2Proof/Machine/Stations.lean ====
section
/-! DEFINITION. The commands of the station units (chapters 6 and 7). -/

namespace Sys2Proof.Machine

/-- Whether a configuration names a port whose role is not STATION (R100). -/
def State.namesOtherPort (s : State) (c : StationConfig) : Bool :=
  match c.port with
  | some p => (s.port p).role != .station
  | none => false

/-- The state SET STATION gives: OPEN with a port, UNUSED without (R100). -/
def stateFor (c : StationConfig) : StationState := if c.port.isSome then .opened else .unused

/-- SET STATION at the station unit (R100, R101). -/
def ownSetStation (p : PortId) (a : StationId × StationConfig) (s : State) : State :=
  let c := a.2.clamp a.1
  if s.service ≠ .closed then s.refuse p .setStation .frozen
  else if s.namesOtherPort a.2 then s.refuse p .setStation .notStationPort
  else
    (s.modStation a.1 fun _ => stationAtStart c (stateFor c)).answer p .setStation (clampStatus (c != a.2))
      (.stationSet a.1 c (stateFor c))

/-- SET_STATION (R100). -/
def execSetStation (w : Written) (s : State) : Result := .next (s.frame .setStation parseSetStation ownSetStation w)

/-- The checks shared by the commands that change a running station's state, in their order (R102, R103, R122, R132): the service runs, the
station is in use, and a STATION-role port acts on its own station. -/
def State.checkStation (s : State) (p : PortId) (st : StationId) : Option Status :=
  if s.service = .closed then some .badState
  else if (s.station st).state = .unused then some .noStation
  else if (s.port p).role = .station ∧ ¬s.isBound st p then some .wrongStation
  else none

/-- A station's state changed, with its STATION_STATE notice, backup none and count 0 (R102, R103, R133). -/
def State.announceStation (st : StationId) (state : StationState) (cause : StationCause) (s : State) : State :=
  (s.modStation st fun u => { u with state := state }).post (s.watchersOf st) (.stationState st state cause none 0)

/-- PAUSE STATION at the station unit (R102). -/
def ownPauseStation (p : PortId) (st : StationId) (s : State) : State :=
  match s.checkStation p st with
  | some refusal => s.refuse p .pauseStation refusal
  | none =>
    match (s.station st).state with
    | .down => s.refuse p .pauseStation .badState
    | .paused => s.answer p .pauseStation .ok (.stationState .paused)
    | .opened | .unused => (s.announceStation st .paused .paused).answer p .pauseStation .ok (.stationState .paused)

/-- PAUSE_STATION (R102). -/
def execPauseStation (w : Written) (s : State) : Result :=
  .next (s.frame .pauseStation parseStation ownPauseStation w)

/-- RESUME STATION at the station unit (R103). -/
def ownResumeStation (p : PortId) (st : StationId) (s : State) : State :=
  match s.checkStation p st with
  | some refusal => s.refuse p .resumeStation refusal
  | none =>
    match (s.station st).state with
    | .down => s.refuse p .resumeStation .badState
    | .opened => s.answer p .resumeStation .ok (.stationState .opened)
    | .paused | .unused =>
      ((s.announceStation st .opened .resumed).consider st).answer p .resumeStation .ok (.stationState .opened)

/-- RESUME_STATION (R103). -/
def execResumeStation (w : Written) (s : State) : Result :=
  .next (s.frame .resumeStation parseStation ownResumeStation w)

/-- The running part of QUERY STATION (R120). -/
def State.stationReport (s : State) (st : StationId) : StationReport where
  state := (s.station st).state
  lag := (s.station st).lag
  busy := s.busyCount st
  called := ((s.busySet st).filter Slip.isCalled).length
  taken := ((s.busySet st).filter Slip.isTaken).length
  queued := (s.queue st).length
  due := ((s.queue st).filter fun x => decide (x.fire ≤ s.clock)).length
  missed := (s.station st).missed
  evacuating := (s.station st).evacuating

/-- QUERY STATION at the station unit (R120). -/
def ownQueryStation (p : PortId) (st : StationId) (s : State) : State :=
  s.answer p .queryStation .ok (.station st (s.station st).config (s.stationReport st))

/-- QUERY_STATION (R120). -/
def execQueryStation (w : Written) (s : State) : Result :=
  .next (s.frame .queryStation parseStation ownQueryStation w)

/-- The backup receiving a station's evacuation, or none (R122). -/
def State.receiving (s : State) (st : StationId) : Option StationId :=
  if (s.station st).evacuating then (s.station st).config.backup else none

/-- The slips an evacuation has left to move, 0 where none is in flight (R122). -/
def State.leftToMove (s : State) (st : StationId) : Nat :=
  if (s.station st).evacuating then (s.queue st).length else 0

/-- STATION DOWN at the station unit (R122). Its port is a PASS port, so the third check of `checkStation` passes. -/
def ownStationDown (p : PortId) (st : StationId) (s : State) : State :=
  match s.checkStation p st with
  | some refusal => s.refuse p .stationDown refusal
  | none =>
    let s' := if (s.station st).state = .down then s else s.goDown st .ordered
    s'.answer p .stationDown .ok (.stationDown .down (s'.receiving st) (s'.leftToMove st))

/-- STATION_DOWN (R122). -/
def execStationDown (w : Written) (s : State) : Result := .next (s.frame .stationDown parseStation ownStationDown w)

/-- The reopening of a DOWN station (R133). -/
def State.reopen (st : StationId) (s : State) : State :=
  let s1 := if (s.station st).evacuating then s.endEvacuation st .evacuationStopped (s.queue st).length else s
  let s2 := s1.modStation st fun u => { u with missed := 0 }
  (s2.announceStation st .opened .reopened).consider st

/-- STATION OPEN at the station unit (R132, R133). -/
def ownStationOpen (p : PortId) (st : StationId) (s : State) : State :=
  match s.checkStation p st with
  | some refusal => s.refuse p .stationOpen refusal
  | none =>
    match (s.station st).state with
    | .paused => s.refuse p .stationOpen .badState
    | .opened => s.answer p .stationOpen .ok (.stationOpen .opened (s.queue st).length)
    | .down | .unused => (s.reopen st).answer p .stationOpen .ok (.stationOpen .opened ((s.reopen st).queue st).length)

/-- STATION_OPEN (R133). -/
def execStationOpen (w : Written) (s : State) : Result := .next (s.frame .stationOpen parseStation ownStationOpen w)

end Sys2Proof.Machine
end

