-- ==== Sys2Proof/Machine/Tickets.lean ====
section
/-! DEFINITION. The commands of the ticket board (chapter 4). -/

namespace Sys2Proof.Machine

/-! ## SUBMIT TICKET -/

/-- A table's sweep position (R18). -/
def Sweep.position (w : Sweep) (table : Nat) : Nat :=
  let o := table - w.first
  let o := if w.direction = .down then w.count - 1 - o else o
  if w.interlace then if o % 2 = 0 then o / 2 else (w.count + 1) / 2 + (o - 1) / 2 else o

/-- The checks on the ticket as a whole, 1 to 4 (R60): the status of the first that fails. -/
def State.checkTicket (s : State) (a : Submission) : Option Status :=
  let w := s.wave a.wave
  if s.service ≠ .opened then some .notOpen
  else if w.state = .free then some .noWave
  else if w.state = .sealed then some .waveSealed
  else if ¬(w.sweep.first ≤ a.table ∧ a.table ≤ w.sweep.first + w.sweep.count - 1) then some .outsideSweep
  else if s.tickets.any fun t => t.wave == a.wave && t.table == a.table then some .duplicate
  else none

/-- Whether a quantity is out of range (R61 check 5). -/
def LineEntry.badQty (e : LineEntry) : Bool := !(decide (1 ≤ e.qty) && decide (e.qty ≤ 24))

/-- The checks on the lines, 5 to 8 (R61): the status of the first that fails and the reply data. -/
def State.checkLines (s : State) (a : Submission) : Option (Status × ReplyData) :=
  if ¬(1 ≤ a.lines.length ∧ a.lines.length ≤ 12) then some (.malformed, .lineIndex 255)
  else
    match a.lines.findIdx? LineEntry.badQty with
    | some i => some (.malformed, .lineIndex i)
    | none =>
      match a.lines.findIdx? fun e => (s.entry? e.item).isNone with
      | some i => some (.unknownItem, .lineIndex i)
      | none =>
        match a.lines.findIdx? fun e => !s.isOut e.item && (s.route e.item e.modifiers).isNone with
        | some i => some (.noStation, .lineIndex i)
        | none => if a.lines.all fun e => s.isOut e.item then some (.allOut, .empty) else none

/-- The lines of a submission that are not void at acceptance (R62). -/
def State.liveLines (s : State) (a : Submission) : Nat := (a.lines.filter fun e => !s.isOut e.item).length

/-- The checks on capacity, 9 to 11 (R62): the status of the first that fails. -/
def State.checkRoom (s : State) (a : Submission) : Option Status :=
  if ¬(s.tickets.length < Config.ticketCapacity) ∨ s.ticketsExhausted then some .ticketsFull
  else if Config.lineCapacity < s.linesInUse + a.lines.length then some .linesFull
  else if Config.slipCapacity < s.slips.length + s.liveLines a ∨ s.slipsLeft < s.liveLines a then some .slipsFull
  else none

/-- All eleven checks of SUBMIT TICKET in their order (R60 to R62). -/
def State.checkSubmission (s : State) (a : Submission) : Option (Status × ReplyData) :=
  match s.checkTicket a with
  | some st => some (st, .empty)
  | none =>
    match s.checkLines a with
    | some refusal => some refusal
    | none => (s.checkRoom a).map fun st => (st, .empty)

/-- A line as the ticket is entered: no station and no slip. A line of an item marked out stays as it stands here, VOID; every other is
placed within the event (R63). -/
def LineEntry.entered (e : LineEntry) : Line := ⟨e.item, e.qty, e.modifiers, none, .void, false⟩

/-- The ticket as it is entered (R63 step 1). -/
def State.newTicket (s : State) (p : PortId) (a : Submission) : Ticket where
  number := s.nextTicket
  origin := p
  wave := a.wave
  table := a.table
  position := (s.wave a.wave).sweep.position a.table
  rush := a.rush
  state := .planned
  late := false
  exceptional := false
  refires := 0
  accepted := s.clock
  lines := a.lines.map LineEntry.entered

/-- The acceptance of a submission (R63, R64) without its reply. -/
def State.acceptTicket (p : PortId) (a : Submission) (s : State) : State :=
  let t := s.newTicket p a
  let placed := ({ s with tickets := s.tickets ++ [t] }.giveTicketNumber).placeLines t 0 t.lines
  (placed.1.considerAll fun st => placed.2.contains st).workOut t.number

/-- The indexes of the lines void at acceptance (R64). -/
def State.voidIndexes (s : State) (a : Submission) : List Nat :=
  (a.lines.zipIdx.filter fun e => s.isOut e.1.item).map Prod.snd

/-- The reply to an accepted submission, from the state `s'` after it (R64). -/
def State.submitReply (s s' : State) (p : PortId) (a : Submission) : State :=
  match s'.ticket? s.nextTicket with
  | some t =>
    s'.answer p .submitTicket (if (s.voidIndexes a).isEmpty then .ok else .short)
      (.submitted t.number t.state (s'.target t) (s'.projectedUp t) t.late (lineSet (s.voidIndexes a)))
  | none => s'

/-- SUBMIT TICKET at the ticket board (R60 to R64). -/
def ownSubmitTicket (p : PortId) (a : Submission) (s : State) : State :=
  match s.checkSubmission a with
  | some refusal => s.answer p .submitTicket refusal.1 refusal.2
  | none => s.submitReply (s.acceptTicket p a) p a

/-- SUBMIT_TICKET (R60). -/
def execSubmitTicket (w : Written) (s : State) : Result := .next (s.frame .submitTicket parseSubmit ownSubmitTicket w)

/-! ## VOID TICKET -/

/-- A void under way: the state, the counts of its reply, and the stations whose slots it freed (R67). -/
structure Voiding where
  state : State
  removed : Nat
  detached : Nat
  freed : Nat
  stations : List StationId

/-- One line of a voided ticket (R67): removed from its PENDING or CALLED slip, or detached from its TAKEN slip. -/
def Voiding.line (n : Nat) (v : Voiding) (i : Nat) : Voiding :=
  match (v.state.ticket? n).bind fun t => t.lines[i]? with
  | some l =>
    let s := v.state.modLine n i fun l => { l with state := .void }
    match l.state with
    | .waiting k | .called k =>
      match s.slip? k with
      | some x =>
        let emptied := (x.without n i).isEmpty
        { state := s.removeMember x n i
          removed := v.removed + 1
          detached := v.detached
          freed := if emptied then v.freed + 1 else v.freed
          stations := if emptied && x.isCalled then x.station :: v.stations else v.stations }
      | none => v
    | .cooking k =>
      match s.slip? k with
      | some x => { v with state := s.detachMember x n i, detached := v.detached + 1 }
      | none => v
    | .ready _ | .void => v
  | none => v

/-- Every line of ticket `t` handled in ascending index (R67). -/
def State.voidLines (t : Ticket) (s : State) : Voiding :=
  (List.range t.lines.length).foldl (Voiding.line t.number) ⟨s, 0, 0, 0, []⟩

/-- An accepted VOID TICKET without its reply (R67, R68): the lines, the stations whose slots were freed, VOIDED, the leaving. -/
def State.voidTicket (t : Ticket) (s : State) : State :=
  let v := s.voidLines t
  let s' := v.state.considerAll fun st => v.stations.contains st
  (s'.post (s'.watchersAnd t.origin) (.voided t.number .command)).leaveTable t

/-- VOID TICKET at the ticket board (R66, R67). -/
def ownVoidTicket (p : PortId) (n : Nat) (s : State) : State :=
  match s.ticket? n with
  | none => s.refuse p .voidTicket .unknownTicket
  | some t =>
    if (s.port p).role = .order ∧ t.origin ≠ p then s.refuse p .voidTicket .notPermitted
    else if (s.port p).role = .order ∧ t.state ≠ .planned then s.refuse p .voidTicket .badState
    else
      (s.voidTicket t).answer p .voidTicket .ok
        (.voided n (s.voidLines t).removed (s.voidLines t).detached (s.voidLines t).freed)

/-- VOID_TICKET (R67). -/
def execVoidTicket (w : Written) (s : State) : Result := .next (s.frame .voidTicket parseNumber ownVoidTicket w)

/-! ## PICKUP -/

/-- A READY line's ready time. -/
def LineState.readyTime : LineState → Option Nat
  | .ready t => some t
  | .waiting _ | .called _ | .cooking _ | .void => none

/-- The latest ready time among a ticket's lines (R71). -/
def Ticket.lastReady (t : Ticket) : Nat := (t.lines.filterMap fun l => l.state.readyTime).foldl max 0

/-- The figures of PICKUP (R71). -/
def State.pickupReport (s : State) (t : Ticket) : PickupReport :=
  ⟨t.number, t.wave, t.table, t.accepted, s.target t, s.clock, t.lastReady, t.refires, t.late, t.exceptional⟩

/-- PICKUP at the ticket board (R71). -/
def ownPickup (p : PortId) (n : Nat) (s : State) : State :=
  match s.ticket? n with
  | none => s.refuse p .pickup .unknownTicket
  | some t =>
    if t.state ≠ .up then s.refuse p .pickup .notUp
    else (s.leaveTable t).answer p .pickup .ok (.pickup (s.pickupReport t))

/-- PICKUP (R71). -/
def execPickup (w : Written) (s : State) : Result := .next (s.frame .pickup parseNumber ownPickup w)

/-! ## REFIRE -/

/-- The refire count grown, with the exception where it first exceeds the limit (R75). -/
def State.countRefire (n i : Nat) (s : State) : State :=
  match s.ticket? n with
  | none => s
  | some t =>
    let count := min (t.refires + 1) 15
    if s.refireLimit < count ∧ ¬t.exceptional then
      (s.modTicket n fun t => { t with refires := count, exceptional := true }).post s.watchers (.exception n i count)
    else s.modTicket n fun t => { t with refires := count }

/-- An accepted REFIRE of line `i` (the line `l`) of ticket `t` at station `st`, without its reply (R74, R75, R84). -/
def State.refireLine (t : Ticket) (i : Nat) (l : Line) (st : StationId) (s : State) : State :=
  let s1 := (s.modLine t.number i fun l => { l with station := some st }).createSlip st l.item t.wave .priority s.clock
    ⟨t.number, i, l.qty⟩
  ((s1.workOut t.number).countRefire t.number i).consider st

/-- The reply to an accepted REFIRE, from the state `s'` after it (R75). -/
def State.refireReply (s s' : State) (p : PortId) (n i : Nat) (st : StationId) : State :=
  match s'.ticket? n with
  | some t => s'.answer p .refire .ok (.refired n i s.nextSlip st t.state t.refires t.exceptional)
  | none => s'

/-- REFIRE at the ticket board (R73 to R75). Routing that finds an UNUSED station refuses with NO_STATION (assumption 15). -/
def ownRefire (p : PortId) (a : Nat × Nat) (s : State) : State :=
  match s.ticket? a.1 with
  | none => s.refuse p .refire .unknownTicket
  | some t =>
    match t.lines[a.2]? with
    | none => s.refuse p .refire .noLine
    | some l =>
      if ¬l.state.isReady then s.refuse p .refire .notReady
      else if ¬(s.slips.length < Config.slipCapacity) ∨ s.slipsLeft = 0 then s.refuse p .refire .slipsFull
      else
        match s.route l.item l.modifiers with
        | none => s.refuse p .refire .noStation
        | some st => s.refireReply (s.refireLine t a.2 l st) p a.1 a.2 st

/-- REFIRE (R74). -/
def execRefire (w : Written) (s : State) : Result := .next (s.frame .refire (parseIndexed 12) ownRefire w)

/-! ## QUERY TICKET -/

/-- The header of QUERY TICKET (R76). -/
def State.ticketHeader (s : State) (t : Ticket) : TicketHeader where
  number := t.number
  origin := t.origin
  wave := t.wave
  table := t.table
  position := t.position
  rush := t.rush
  late := t.late
  exceptional := t.exceptional
  state := t.state
  refires := t.refires
  accepted := t.accepted
  target := s.target t
  projected := s.projectedUp t
  lineCount := t.lines.length

/-- QUERY TICKET at the ticket board (R76). -/
def ownQueryTicket (p : PortId) (a : Nat × Nat) (s : State) : State :=
  match s.ticket? a.1 with
  | none => s.refuse p .queryTicket .unknownTicket
  | some t => s.answer p .queryTicket .ok (.ticket (s.ticketHeader t) ((t.lines.drop a.2).take Config.linePage))

/-- QUERY_TICKET (R76). -/
def execQueryTicket (w : Written) (s : State) : Result := .next (s.frame .queryTicket (parseIndexed 12) ownQueryTicket w)

end Sys2Proof.Machine
end

