-- ==== Sys2Proof/Machine/Service.lean ====
section
/-! DEFINITION. The commands of the service controller (chapter 1). -/

namespace Sys2Proof.Machine

/-! ## OPEN SERVICE -/

/-- Every station readied: OPEN where bound, UNUSED otherwise (R6, R10, R121). -/
def State.readyStations (s : State) : State :=
  s.mapStations fun u => stationAtStart u.config (if s.stationBound u then .opened else .unused)

/-- The numbering counters at their starting values (R3, R4). -/
def State.restartNumbers (s : State) : State :=
  { s with nextTicket := 1, ticketsExhausted := false, nextSlip := 1, slipsExhausted := false }

/-- The acceptance of OPEN SERVICE (R1, R5, R6). -/
def State.openService (s : State) : State :=
  let s' := { s.restartNumbers with service := .opened, clock := 0, secondTimer := some 0 }
  s'.readyStations.post everyPort (.service .opened .opened)

/-- OPEN SERVICE at the service controller (R5). -/
def ownOpenService (p : PortId) (_ : Unit) (s : State) : State :=
  if s.service ≠ .closed then s.refuse p .openService .badState
  else if allStations.any fun st => s.stationBound (s.station st) then
    s.openService.answer p .openService .ok (.service .opened)
  else s.refuse p .openService .noStation

/-- OPEN_SERVICE (R5). -/
def execOpenService (w : Written) (s : State) : Result := .next (s.frame .openService parseNone ownOpenService w)

/-! ## CLOSE SERVICE -/

/-- An OPEN wave sealed, and freed where it has no work (R21, R22). -/
def State.sealWave (w : WaveId) (s : State) : State :=
  if (s.wave w).state = .opened then (s.modWave w fun v => { v with state := .sealed }).freeIfDone w else s

/-- CLOSE SERVICE taken in OPEN (R7). -/
def State.closeService (s : State) : State :=
  let s' := allWaves.foldl (fun s w => s.sealWave w) s
  ({ s' with service := .draining }.post everyPort (.service .draining .draining)).endIfDrained

/-- CLOSE SERVICE at the service controller (R7). -/
def ownCloseService (p : PortId) (_ : Unit) (s : State) : State :=
  match s.service with
  | .closed => s.refuse p .closeService .badState
  | .draining => s.answer p .closeService .ok (.service .draining)
  | .opened => s.closeService.answer p .closeService .ok (.service s.closeService.service)

/-- CLOSE_SERVICE (R7). -/
def execCloseService (w : Written) (s : State) : Result := .next (s.frame .closeService parseNone ownCloseService w)

/-! ## SERVICE RESET -/

/-- The service, the board and the kitchen discarded by SERVICE RESET, the configuration kept (R10). -/
def State.discardService (s : State) : State :=
  { s.restartNumbers.readyStations with
    service := .closed
    clock := 0
    secondTimer := none
    waves := Vector.replicate 32 freeWave
    outBoard := []
    tickets := []
    slips := [] }

/-- A command in flight completed with ABORTED (R11). -/
def PortUnit.abort (u : PortUnit) : PortUnit :=
  match u.slot with
  | .busy code => u.placeReply false ⟨code, .aborted, .empty⟩
  | .empty | .ready _ => u

/-- A read under way when the queue is emptied: a notice being sent is no longer at its head (R147). -/
def Reading.noticeGone (r : Reading) : Reading :=
  match r.record with
  | .notice _ => { r with live := false }
  | .reply _ | .nothing => r

/-- A notice queue emptied with its overrun flag cleared (R11, R147, R164). -/
def PortUnit.emptyQueue (u : PortUnit) : PortUnit :=
  let u' := { u with notices := [], overrun := false, reading := u.reading.map Reading.noticeGone }
  u'.releaseIfDry

/-- SERVICE RESET taken from port `p` (R10, R11). -/
def State.resetService (p : PortId) (s : State) : State :=
  (s.discardService.mapPorts fun q u => (if q = p then u else u.abort).emptyQueue).post everyPort (.service .closed .reset)

/-- SERVICE RESET at the service controller (R10). -/
def ownServiceReset (p : PortId) (_ : Unit) (s : State) : State :=
  (s.resetService p).answer p .serviceReset .ok (.service .closed)

/-- SERVICE_RESET (R10). -/
def execServiceReset (w : Written) (s : State) : Result := .next (s.frame .serviceReset parseNone ownServiceReset w)

/-! ## SET LIMITS and STATUS -/

/-- SET LIMITS at the service controller (R12). -/
def ownSetLimits (p : PortId) (n : Nat) (s : State) : State :=
  if s.service ≠ .closed then s.refuse p .setLimits .frozen
  else { s with refireLimit := min n 7 }.answer p .setLimits (clampStatus (7 < n)) (.limit (min n 7))

/-- SET_LIMITS (R12). -/
def execSetLimits (w : Written) (s : State) : Result := .next (s.frame .setLimits parseByte ownSetLimits w)

/-- The snapshot of STATUS for port `p` (R13). -/
def State.statusReport (s : State) (p : PortId) : StatusReport where
  service := s.service
  clock := s.clock
  tickets := s.tickets.length
  lines := s.linesInUse
  slips := s.slips.length
  refireLimit := s.refireLimit
  ticketsLeft := s.ticketsLeft
  slipsLeft := s.slipsLeft
  collided := (s.port p).collided
  overrun := (s.port p).overrun
  muted := (s.port p).muted
  errors := (s.port p).errors

/-- STATUS at the service controller (R13). -/
def ownStatus (p : PortId) (_ : Unit) (s : State) : State := s.answer p .status .ok (.status (s.statusReport p))

/-- STATUS (R13). -/
def execStatus (w : Written) (s : State) : Result := .next (s.frame .status parseNone ownStatus w)

end Sys2Proof.Machine
end

