-- ==== Sys2Proof/Machine/Waves.lean ====
section
/-! DEFINITION. The commands of the wave table (chapter 2). -/

namespace Sys2Proof.Machine

/-! ## DEFINE WAVE -/

/-- DEFINE WAVE at the wave table (R16, R17). -/
def ownDefineWave (p : PortId) (a : WaveId × Sweep) (s : State) : State :=
  if s.service = .draining then s.refuse p .defineWave .notOpen
  else if (s.wave a.1).state ≠ .free then s.refuse p .defineWave .badState
  else
    (s.modWave a.1 fun _ => ⟨.opened, a.2.clamp, false, none⟩).answer p .defineWave (clampStatus (a.2.clamp != a.2))
      (.sweep a.2.clamp)

/-- DEFINE_WAVE (R16). -/
def execDefineWave (w : Written) (s : State) : Result := .next (s.frame .defineWave parseDefine ownDefineWave w)

/-! ## SEAL, HOLD and RELEASE WAVE -/

/-- SEAL WAVE at the wave table (R21). -/
def ownSealWave (p : PortId) (w : WaveId) (s : State) : State :=
  if (s.wave w).state = .free then s.refuse p .sealWave .noWave
  else (s.sealWave w).answer p .sealWave .ok (.waveState ((s.sealWave w).wave w).state)

/-- SEAL_WAVE (R21). -/
def execSealWave (w : Written) (s : State) : Result := .next (s.frame .sealWave parseWave ownSealWave w)

/-- HOLD WAVE at the wave table (R23). -/
def ownHoldWave (p : PortId) (w : WaveId) (s : State) : State :=
  if (s.wave w).state = .free then s.refuse p .holdWave .noWave
  else (s.modWave w fun v => { v with hold := true }).answer p .holdWave .ok (.hold true)

/-- HOLD_WAVE (R23). -/
def execHoldWave (w : Written) (s : State) : Result := .next (s.frame .holdWave parseWave ownHoldWave w)

/-- Whether station `st`'s queue holds a PENDING slip of wave `w` (R24, R30). -/
def State.queueHasWave (s : State) (w : WaveId) (st : StationId) : Bool := (s.queue st).any fun x => x.wave == w

/-- RELEASE WAVE at the wave table (R24). -/
def ownReleaseWave (p : PortId) (w : WaveId) (s : State) : State :=
  if (s.wave w).state = .free then s.refuse p .releaseWave .noWave
  else if (s.wave w).hold then
    ((s.modWave w fun v => { v with hold := false }).considerAll (s.queueHasWave w)).answer p .releaseWave .ok (.hold false)
  else s.answer p .releaseWave .ok (.hold false)

/-- RELEASE_WAVE (R24). -/
def execReleaseWave (w : Written) (s : State) : Result := .next (s.frame .releaseWave parseWave ownReleaseWave w)

/-! ## DELAY WAVE -/

/-- A time moved by a signed amount, stored as the nearer of 0 and 65535 where it falls outside (R25, R94). -/
def moveTime (t : Nat) (delta : Int) : Nat := (clampInt 0 65535 ((t : Int) + delta)).toNat

/-- The delay list at the start of a delay: the PENDING slips of the wave in ascending number, marks clear (R25). -/
def State.delayList (s : State) (w : WaveId) : List (Nat × Bool) :=
  (s.slips.filter fun x => x.wave == w && x.isPending).map fun x => (x.number, false)

/-- The start event of a delay by a non-zero amount (R25); it ends at once where its list is empty (R29). -/
def State.startDelay (p : PortId) (w : WaveId) (amount : Int) (clamped : Bool) (s : State) : State :=
  let d : Delay := ⟨amount, s.delayList w, p, clamped, 0, 0, 0⟩
  let s' := s.modWave w fun v =>
    { v with sweep := { v.sweep with start := moveTime v.sweep.start amount }, delay := some d }
  if d.slips.isEmpty then s'.endDelay w d else s'

/-- DELAY WAVE at the wave table (R25). An amount of 0 forms no list, and the reply's unchanged count, which R25 does not give, is 0
(DEDUCED, assumption 23). -/
def ownDelayWave (p : PortId) (a : WaveId × Int) (s : State) : State :=
  let amount := clampInt (-600) 3600 a.2
  if (s.wave a.1).state = .free then s.refuse p .delayWave .noWave
  else if (s.wave a.1).delay.isSome then s.refuse p .delayWave .waveBusy
  else if amount = 0 then s.answer p .delayWave .ok (.delay a.1 (s.wave a.1).sweep.start 0 0 0 0)
  else s.startDelay p a.1 amount (amount != a.2)

/-- DELAY_WAVE (R25). -/
def execDelayWave (w : Written) (s : State) : Result := .next (s.frame .delayWave parseDelay ownDelayWave w)

/-! ## FIRE WAVE -/

/-- The PENDING slips of wave `w` whose fire time is not the clock, in ascending number (R30). -/
def State.toFire (s : State) (w : WaveId) : List Slip :=
  s.slips.filter fun x => x.wave == w && x.isPending && x.fire != s.clock

/-- A queued slip given a new fire time, with CHANGED where it is previewed (R26, R30, R93, R94). -/
def State.refireTime (x : Slip) (fire : Nat) (s : State) : State :=
  let s' := s.modSlip x.number fun y => { y with fire := fire }
  if x.previewed then s'.postChanged { x with fire := fire } else s'

/-- FIRE WAVE at the wave table (R30). -/
def ownFireWave (p : PortId) (w : WaveId) (s : State) : State :=
  if (s.wave w).state = .free then s.refuse p .fireWave .noWave
  else if (s.wave w).delay.isSome then s.refuse p .fireWave .waveBusy
  else
    (((s.toFire w).foldl (fun s' x => s'.refireTime x s.clock) s).considerAll (s.queueHasWave w)).answer p .fireWave .ok
      (.fired (s.toFire w).length)

/-- FIRE_WAVE (R30). -/
def execFireWave (w : Written) (s : State) : Result := .next (s.frame .fireWave parseWave ownFireWave w)

/-! ## QUERY WAVE -/

/-- The QUERY WAVE reply for a wave that is not FREE (R31). Where no delay is in flight the two fields R31 gives "while the flag is set"
are free values (assumption 4). -/
def State.waveReport (s : State) (w : WaveId) : WaveReport where
  state := (s.wave w).state
  sweep := (s.wave w).sweep
  hold := (s.wave w).hold
  delayed := (s.wave w).delay.isSome
  delayAmount := match (s.wave w).delay with
    | some d => BitVec.ofInt 16 d.amount
    | none => Config.absentDelayAmount s.freeCount
  delayLeft := match (s.wave w).delay with
    | some d => BitVec.ofNat 16 d.slips.length
    | none => Config.absentDelayLeft s.freeCount
  tickets := s.ticketCount w
  slips := s.slipCount w
  pending := (s.slips.filter fun x => x.wave == w && x.isPending).length

/-- QUERY WAVE at the wave table (R31). Only the model's own count of free values moves, and only where one was taken. -/
def ownQueryWave (p : PortId) (w : WaveId) (s : State) : State :=
  if (s.wave w).state = .free then s.answer p .queryWave .ok .freeWave
  else
    (if (s.wave w).delay.isSome then s else { s with freeCount := s.freeCount + 1 }).answer p .queryWave .ok
      (.wave (s.waveReport w))

/-- QUERY_WAVE (R31). -/
def execQueryWave (w : Written) (s : State) : Result := .next (s.frame .queryWave parseWave ownQueryWave w)

/-! ## A delay reaches a slip (R26) -/

/-- The next slip of a delay reached: passed over, or moved and counted as shifted or unchanged, its station then considering (R26; the
consideration at a slip counted as unchanged is DEDUCED, assumption 7). -/
def State.reachSlip (w : WaveId) (d : Delay) (n : Nat) (left : Bool) (rest : List (Nat × Bool)) (s : State) : State :=
  match if left then none else s.slip? n with
  | none => s.modWave w fun v => { v with delay := some { d with slips := rest, passed := d.passed + 1 } }
  | some x =>
    let fire := max (moveTime x.fire d.amount) s.clock
    (if fire = x.fire then
        s.modWave w fun v => { v with delay := some { d with slips := rest, unchanged := d.unchanged + 1 } }
      else
        (s.modWave w fun v => { v with delay := some { d with slips := rest, shifted := d.shifted + 1 } }).refireTime x
          fire).consider x.station

/-- DELAY_REACH (R26, R29): the lowest number of the list reached, and the delay ended where the list is then empty. -/
def execDelayReach (w : WaveId) (s : State) : Result :=
  match (s.wave w).delay with
  | none => .next s
  | some d =>
    let s' := match d.slips with
      | [] => s
      | e :: rest => s.reachSlip w d e.1 e.2 rest
    match (s'.wave w).delay with
    | some d' => .next (if d'.slips.isEmpty then s'.endDelay w d' else s')
    | none => .next s'

end Sys2Proof.Machine
end

