-- ==== Sys2Proof/Machine/Dispatch.lean ====
section
/-! DEFINITION. The meaning of every command: one arm per row of spec/opcode_table.json. -/

namespace Sys2Proof.Machine

def exec (i : Instr) (s : State) : Host.Outcome State Fault Refusal :=
  match i with
  | .openService w => Sys2Proof.Machine.execOpenService w s
  | .closeService w => Sys2Proof.Machine.execCloseService w s
  | .serviceReset w => Sys2Proof.Machine.execServiceReset w s
  | .setLimits w => Sys2Proof.Machine.execSetLimits w s
  | .status w => Sys2Proof.Machine.execStatus w s
  | .defineWave w => Sys2Proof.Machine.execDefineWave w s
  | .sealWave w => Sys2Proof.Machine.execSealWave w s
  | .holdWave w => Sys2Proof.Machine.execHoldWave w s
  | .releaseWave w => Sys2Proof.Machine.execReleaseWave w s
  | .delayWave w => Sys2Proof.Machine.execDelayWave w s
  | .fireWave w => Sys2Proof.Machine.execFireWave w s
  | .queryWave w => Sys2Proof.Machine.execQueryWave w s
  | .setItem w => Sys2Proof.Machine.execSetItem w s
  | .clearItem w => Sys2Proof.Machine.execClearItem w s
  | .clearMenu w => Sys2Proof.Machine.execClearMenu w s
  | .queryItem w => Sys2Proof.Machine.execQueryItem w s
  | .setDiversion w => Sys2Proof.Machine.execSetDiversion w s
  | .queryDiversion w => Sys2Proof.Machine.execQueryDiversion w s
  | .markOut w => Sys2Proof.Machine.execMarkOut w s
  | .markIn w => Sys2Proof.Machine.execMarkIn w s
  | .submitTicket w => Sys2Proof.Machine.execSubmitTicket w s
  | .voidTicket w => Sys2Proof.Machine.execVoidTicket w s
  | .pickup w => Sys2Proof.Machine.execPickup w s
  | .refire w => Sys2Proof.Machine.execRefire w s
  | .queryTicket w => Sys2Proof.Machine.execQueryTicket w s
  | .querySlip w => Sys2Proof.Machine.execQuerySlip w s
  | .setStation w => Sys2Proof.Machine.execSetStation w s
  | .pauseStation w => Sys2Proof.Machine.execPauseStation w s
  | .resumeStation w => Sys2Proof.Machine.execResumeStation w s
  | .queryStation w => Sys2Proof.Machine.execQueryStation w s
  | .stationDown w => Sys2Proof.Machine.execStationDown w s
  | .stationOpen w => Sys2Proof.Machine.execStationOpen w s
  | .take w => Sys2Proof.Machine.execTake w s
  | .bump w => Sys2Proof.Machine.execBump w s
  | .forceBump w => Sys2Proof.Machine.execForceBump w s
  | .setPortMode w => Sys2Proof.Machine.execSetPortMode w s
  | .portRestart w => Sys2Proof.Machine.execPortRestart w s
  | .list w => Sys2Proof.Machine.execList w s
  | .unknownCommand w => Sys2Proof.Machine.execUnknownCommand w s
  | .powerOnReset straps => Sys2Proof.Machine.execPowerOnReset straps s
  | .resetPin straps => Sys2Proof.Machine.execResetPin straps s
  | .secondTimerExpiry => Sys2Proof.Machine.execSecondTimerExpiry s
  | .stationSecondEvent st => Sys2Proof.Machine.execStationSecondEvent st s
  | .takeTimeout slip => Sys2Proof.Machine.execTakeTimeout slip s
  | .delayReach w => Sys2Proof.Machine.execDelayReach w s
  | .evacuationMove st => Sys2Proof.Machine.execEvacuationMove st s
  | .readTransaction p address => Sys2Proof.Machine.execReadTransaction p address s
  | .recordDelivery p => Sys2Proof.Machine.execRecordDelivery p s
  | .stretchTimerExpiry p => Sys2Proof.Machine.execStretchTimerExpiry p s
  | .relativeTimerExpiry p => Sys2Proof.Machine.execRelativeTimerExpiry p s
  | .absoluteTimerExpiry p => Sys2Proof.Machine.execAbsoluteTimerExpiry p s

end Sys2Proof.Machine
end

