-- ==== Sys2Proof/Machine/Records.lean ====
section
/-! DEFINITION. Replies and notices as the bytes that cross a port (10.4, 10.5). -/

namespace Sys2Proof.Machine

/-! ## Codes of names (10.1) -/

/-- One byte. -/
def byte (n : Nat) : Byte := BitVec.ofNat 8 n

/-- Two bytes, most significant first (10.1). -/
def twoBytes (n : Nat) : List Byte := [byte (n / 256), byte n]

/-- Two bytes of a signed number in two's complement (10.1). -/
def signedBytes (z : Int) : List Byte := twoBytes (BitVec.ofInt 16 z).toNat

/-- A number that may be absent: FFh for none (10.1). -/
def optionalByte {n : Nat} : Option (Fin n) → Byte
  | some i => byte i.val
  | none => 0xFF

/-- Service state codes. -/
def ServiceState.code : ServiceState → Byte
  | .closed => 0
  | .opened => 1
  | .draining => 2

/-- Wave state codes. -/
def WaveState.code : WaveState → Byte
  | .free => 0
  | .opened => 1
  | .sealed => 2

/-- Station state codes. -/
def StationState.code : StationState → Byte
  | .unused => 0
  | .opened => 1
  | .paused => 2
  | .down => 3

/-- Ticket state codes. -/
def TicketState.code : TicketState → Byte
  | .planned => 0
  | .firing => 1
  | .up => 2

/-- Line state codes. -/
def LineState.code : LineState → Byte
  | .waiting _ => 0
  | .called _ => 1
  | .cooking _ => 2
  | .ready _ => 3
  | .void => 4

/-- Slip state codes. -/
def SlipState.code : SlipState → Byte
  | .pending => 0
  | .called _ _ => 1
  | .taken _ => 2

/-- Slip class codes. -/
def SlipClass.code : SlipClass → Byte
  | .normal => 0
  | .priority => 1

/-- WITHDRAWN reason codes. -/
def WithdrawReason.code : WithdrawReason → Byte
  | .timeout => 1
  | .down => 2
  | .moved => 3
  | .emptied => 4
  | .forced => 5
  | .discarded => 6

/-- STATION_STATE cause codes. -/
def StationCause.code : StationCause → Byte
  | .paused => 1
  | .resumed => 2
  | .missedTakes => 3
  | .ordered => 4
  | .evacuated => 5
  | .backupLost => 6
  | .evacuationStopped => 7
  | .reopened => 8

/-- VOIDED cause codes. -/
def VoidCause.code : VoidCause → Byte
  | .command => 1
  | .allVoid => 2

/-- SERVICE cause codes. -/
def ServiceCause.code : ServiceCause → Byte
  | .opened => 1
  | .draining => 2
  | .closed => 3
  | .reset => 4

/-- Status codes (10.4). -/
def Status.code : Status → Byte
  | .ok => 0x00
  | .clamped => 0x01
  | .short => 0x02
  | .unknownCommand => 0x10
  | .malformed => 0x11
  | .muted => 0x12
  | .notPermitted => 0x13
  | .aborted => 0x14
  | .badState => 0x20
  | .notOpen => 0x21
  | .frozen => 0x22
  | .noStation => 0x23
  | .notStationPort => 0x24
  | .wrongStation => 0x25
  | .noWave => 0x30
  | .waveSealed => 0x31
  | .waveBusy => 0x32
  | .outsideSweep => 0x33
  | .duplicate => 0x34
  | .unknownItem => 0x35
  | .allOut => 0x36
  | .menuFull => 0x37
  | .ticketsFull => 0x38
  | .linesFull => 0x39
  | .slipsFull => 0x3A
  | .unknownTicket => 0x40
  | .notUp => 0x41
  | .noLine => 0x42
  | .notReady => 0x43
  | .unknownSlip => 0x44

/-! ## Parts of records -/

/-- First table, count, sweep flags, start time, interval. -/
def sweepBytes (w : Sweep) : List Byte :=
  twoBytes w.first ++ [byte w.count, sweepFlagsByte w] ++ twoBytes w.start ++ twoBytes w.interval

/-- A station's configuration from the bound port on (10.4). -/
def configBytes (c : StationConfig) : List Byte :=
  [optionalByte c.port, byte c.slots, byte c.reserve] ++ twoBytes c.plate ++ [byte c.timeout, optionalByte c.backup]
    ++ twoBytes c.horizon ++ twoBytes c.window ++ twoBytes c.initialLag

/-- The time-or-slip field of a line (R170). -/
def LineState.field : LineState → Nat
  | .waiting n | .called n | .cooking n => n
  | .ready t => t
  | .void => 0

/-- A line entry of QUERY TICKET (R170). -/
def lineBytes (l : Line) : List Byte :=
  twoBytes l.item.toNat
    ++ [byte (l.qty % 32 + 32 * l.state.code.toNat),
        byte ((match l.station with | some st => st.val | none => 15) + 128 * l.late.toNat),
        l.modifiers]
    ++ twoBytes l.state.field

/-- A member entry of QUERY SLIP (R170). -/
def memberBytes (m : Member) : List Byte := twoBytes m.ticket ++ [byte m.line, byte m.qty]

/-- The call time as QUERY SLIP reports it: 0 in PENDING (R97). -/
def SlipState.callTime : SlipState → Nat
  | .pending => 0
  | .called t _ => t
  | .taken t => t

/-- A LIST entry (R170). In the last byte of a ticket's entry the spare bits 2 to 7 are 0 (DESIGN CHOICE, assumption 22). -/
def ListEntry.bytes : ListEntry → List Byte
  | .slip n st state => twoBytes n ++ [byte st.val, state.code]
  | .ticket n w state late exceptional =>
    twoBytes n ++ [byte (w.val + 32 * state.code.toNat), packByte late exceptional false false false false false false]

/-! ## The reply record -/

/-- The reply data (the table of 10.4, R170). -/
def ReplyData.bytes : ReplyData → List Byte
  | .empty => []
  | .lineIndex i => [byte i]
  | .service st => [st.code]
  | .limit n => [byte n]
  | .status r =>
    [r.service.code] ++ twoBytes r.clock ++ twoBytes r.tickets ++ twoBytes r.lines ++ twoBytes r.slips ++ [byte r.refireLimit]
      ++ twoBytes r.ticketsLeft ++ twoBytes r.slipsLeft ++ [portFlagsByte r, byte r.errors]
  | .sweep w => sweepBytes w
  | .waveState st => [st.code]
  | .hold h => [flagByte h]
  | .delay w start amount shifted unchanged passed =>
    [byte w.val] ++ twoBytes start ++ signedBytes amount ++ twoBytes shifted ++ twoBytes unchanged ++ twoBytes passed
  | .fired n => twoBytes n
  | .freeWave => List.replicate 21 0
  | .wave r =>
    [r.state.code] ++ sweepBytes r.sweep ++ [flagByte r.hold, flagByte r.delayed] ++ twoBytes r.delayAmount.toNat
      ++ twoBytes r.delayLeft.toNat ++ twoBytes r.tickets ++ twoBytes r.slips ++ twoBytes r.pending
  | .itemSet e replaced => [byte e.index, byte e.station.val] ++ twoBytes e.cook ++ [byte e.batch, flagByte replaced]
  | .itemCleared i => [byte i]
  | .menuCleared n => twoBytes n
  | .item c none out valid => twoBytes c.toNat ++ [0, 0, 0, 0, 0, 0, flagByte out] ++ twoBytes valid
  | .item c (some e) out valid =>
    twoBytes c.toNat ++ [1, byte e.index, byte e.station.val] ++ twoBytes e.cook ++ [byte e.batch, flagByte out] ++ twoBytes valid
  | .diversion i d =>
    [byte i.val, flagByte d.enabled] ++ twoBytes d.code.toNat ++ twoBytes d.mask.toNat ++ [d.modifiers, byte d.target.val]
  | .markedOut c out lines tickets => twoBytes c.toNat ++ [flagByte out] ++ twoBytes lines ++ twoBytes tickets
  | .markedIn c out => twoBytes c.toNat ++ [flagByte out]
  | .submitted n st target projected late voids =>
    twoBytes n ++ [st.code] ++ twoBytes target ++ twoBytes projected ++ [flagByte late] ++ twoBytes voids.toNat
  | .voided n removed detached freed => twoBytes n ++ [byte removed, byte detached, byte freed]
  | .pickup r =>
    twoBytes r.ticket ++ [byte r.wave.val] ++ twoBytes r.table ++ twoBytes r.accepted ++ twoBytes r.target ++ twoBytes r.clock
      ++ twoBytes r.lastReady ++ [byte r.refires, pickupMarksByte r]
  | .refired n i made st state refires exceptional =>
    twoBytes n ++ [byte i] ++ twoBytes made ++ [byte st.val, state.code, byte refires, flagByte exceptional]
  | .ticket h lines =>
    twoBytes h.number ++ [byte h.origin.val, byte h.wave.val] ++ twoBytes h.table
      ++ [byte h.position, ticketMarksByte h, h.state.code, byte h.refires] ++ twoBytes h.accepted ++ twoBytes h.target
      ++ twoBytes h.projected ++ [byte h.lineCount] ++ (lines.map lineBytes).flatten
  | .slip h members =>
    twoBytes h.number ++ [byte h.station.val] ++ twoBytes h.item.toNat
      ++ [byte h.wave.val, h.cls.code, h.state.code, slipMarksByte h] ++ twoBytes h.fire ++ twoBytes h.state.callTime
      ++ [byte h.portions, byte h.memberCount] ++ (members.map memberBytes).flatten
  | .stationSet st c state => [byte st.val] ++ configBytes c ++ [state.code]
  | .stationState st => [st.code]
  | .station st c r =>
    [byte st.val, r.state.code] ++ configBytes c ++ twoBytes r.lag ++ [byte r.busy, byte r.called, byte r.taken]
      ++ twoBytes r.queued ++ twoBytes r.due ++ [byte r.missed, flagByte r.evacuating]
  | .taken n st state portions members => twoBytes n ++ [byte st.val, state.code, byte portions, byte members]
  | .bumped n st time lag sample lines =>
    twoBytes n ++ [byte st.val] ++ twoBytes time ++ twoBytes lag ++ signedBytes sample ++ [byte lines]
  | .forced n st state lines => twoBytes n ++ [byte st.val, state.code, byte lines]
  | .stationDown st backup left => [st.code, optionalByte backup] ++ twoBytes left
  | .stationOpen st queued => [st.code] ++ twoBytes queued
  | .portMode stretch rel abs => [flagByte stretch, byte rel, byte abs]
  | .restarted errors muted => [byte errors, flagByte muted]
  | .list more cleared clock entries =>
    [byte entries.length, listFlagsByte more cleared] ++ twoBytes clock ++ (entries.map ListEntry.bytes).flatten

/-- A reply record on the wire (R169): its length, the command code, the status code, the data. -/
def Reply.bytes (r : Reply) : List Byte :=
  byte (r.data.bytes.length + 2) :: r.code :: r.status.code :: r.data.bytes

/-! ## The notice record -/

/-- Notice kind codes (10.5). -/
def NoticeBody.code : NoticeBody → Byte
  | .preview .. => 0x01
  | .call .. => 0x02
  | .changed .. => 0x03
  | .withdrawn .. => 0x04
  | .up .. => 0x05
  | .late .. => 0x06
  | .short .. => 0x07
  | .voided .. => 0x08
  | .exception .. => 0x09
  | .stationState .. => 0x0A
  | .waveFree .. => 0x0B
  | .service .. => 0x0C

/-- A notice's subject (R171). -/
def NoticeBody.subject : NoticeBody → Nat
  | .preview n .. | .call n .. | .changed n .. | .withdrawn n .. => n
  | .up n .. | .late n .. | .short n .. | .voided n .. | .exception n .. => n
  | .stationState st .. => st.val
  | .waveFree w => w.val
  | .service st _ => st.code.toNat

/-- A notice's fields after the subject (the table of 10.5). -/
def NoticeBody.fields : NoticeBody → List Byte
  | .preview _ st item cls fire portions members =>
    [byte st.val] ++ twoBytes item.toNat ++ [cls.code] ++ twoBytes fire ++ [byte portions, byte members]
  | .call _ st item cls portions fire members =>
    [byte st.val] ++ twoBytes item.toNat ++ [cls.code, byte portions] ++ twoBytes fire ++ [byte members.length]
      ++ (members.map fun m => twoBytes m.1 ++ [byte m.2]).flatten
  | .changed _ st item state fire portions members =>
    [byte st.val] ++ twoBytes item.toNat ++ [state.code] ++ twoBytes fire ++ [byte portions, byte members]
  | .withdrawn _ st item reason backup => [byte st.val] ++ twoBytes item.toNat ++ [reason.code, optionalByte backup]
  | .up _ w table target isLate => [byte w.val] ++ twoBytes table ++ twoBytes target ++ [flagByte isLate]
  | .late _ w table target line => [byte w.val] ++ twoBytes table ++ twoBytes target ++ [byte line]
  | .short _ item lines => twoBytes item.toNat ++ twoBytes lines.toNat
  | .voided _ cause => [cause.code]
  | .exception _ line refires => [byte line, byte refires]
  | .stationState _ state cause backup left => [state.code, cause.code, optionalByte backup] ++ twoBytes left
  | .waveFree _ => []
  | .service _ cause => [cause.code]

/-- A notice record on the wire (R171): its length, the kind, the clock, the subject, the fields. -/
def Notice.bytes (n : Notice) : List Byte :=
  byte (n.body.fields.length + 5) :: n.body.code :: (twoBytes n.clock ++ twoBytes n.body.subject ++ n.body.fields)

/-! ## The bytes of a read -/

/-- The bytes of the record that follows the status byte (R144). -/
def Record.bytes : Record → List Byte
  | .nothing => []
  | .reply r => r.bytes
  | .notice n => n.bytes

/-- Byte `i` of a read, the status byte being byte 0: after the record's last byte every byte is FFh (R144, R168). -/
def Reading.byteAt (r : Reading) (i : Nat) : Byte := ((r.status :: r.record.bytes)[i]?).getD 0xFF

end Sys2Proof.Machine
end

