-- ==== Sys2Proof/Safety.lean ====
section
/-! DEFINITION. The terms claims are stated in: when a port takes a frame, the port unit after its reply, and the invariants of the
ports, the records, the menu, the stations, the waves and the slips' members. -/

namespace Sys2Proof.Machine

/-! ## A frame at its port -/

/-- The port takes a frame of command `c` addressed to it: its reply slot is EMPTY and no read is held (R137, R145), it is not muted or the
command passes the mute (R139), and its role may issue the command (R140). What the parameters must be is said beside it. -/
structure Takes (c : Cmd) (w : Written) (s : State) : Prop where
  addressed : w.address = (s.port w.port).address
  free : (s.port w.port).slot = .empty
  still : (s.port w.port).stretch = none
  heard : (s.port w.port).muted = false ∨ c = .status ∨ c = .portRestart
  permitted : permits c (s.port w.port).role = true

/-- Whether the parameter bytes of a frame are those of command `c` (R138 steps 2 and 3). -/
def formed (c : Cmd) (body : List Byte) : Bool :=
  match paramsOf body with
  | none => false
  | some ps =>
    match c with
    | .openService | .closeService | .serviceReset | .status | .clearMenu | .portRestart => (parseNone ps).isSome
    | .setLimits => (parseByte ps).isSome
    | .defineWave => (parseDefine ps).isSome
    | .sealWave | .holdWave | .releaseWave | .fireWave | .queryWave => (parseWave ps).isSome
    | .delayWave => (parseDelay ps).isSome
    | .setItem => (parseSetItem ps).isSome
    | .clearItem | .queryItem | .markOut | .markIn => (parseItem ps).isSome
    | .setDiversion => (parseSetDiversion ps).isSome
    | .queryDiversion => (parseDiversionIndex ps).isSome
    | .submitTicket => (parseSubmit ps).isSome
    | .voidTicket | .pickup | .take | .bump | .forceBump | .list => (parseNumber ps).isSome
    | .refire | .queryTicket => (parseIndexed 12 ps).isSome
    | .querySlip => (parseIndexed 16 ps).isSome
    | .setStation => (parseSetStation ps).isSome
    | .pauseStation | .resumeStation | .queryStation | .stationDown | .stationOpen => (parseStation ps).isSome
    | .setPortMode => (parsePortMode ps).isSome

/-- The error counter after a frame is handed over (R141, R148). -/
def PortUnit.errorsAfter (u : PortUnit) : Nat := if u.muted then u.errors else u.errors - 1

/-- A port unit that handed a frame over and took its reply, where no read was held (R141, R161). A write ends a read under way
(assumption 9). -/
def PortUnit.answered (r : Reply) (u : PortUnit) : PortUnit :=
  { u with
    slot := .ready r
    errors := u.errorsAfter
    attention := .asserted
    relTimer := none
    absTimer := none
    reading := none }

/-- `s` with port unit `p` so answered, and nothing else changed. -/
def State.answered (p : PortId) (r : Reply) (s : State) : State :=
  { s with ports := s.ports.set p ((s.port p).answered r) }

/-- A port unit that handed a frame over to an operation in flight (R141). -/
def PortUnit.inFlight (c : Cmd) (u : PortUnit) : PortUnit :=
  { u with slot := .busy c.code, errors := u.errorsAfter, reading := none }

/-- A port unit that refused a frame itself: the reply placed, a read under way ended (R138 to R140, R161, assumption 9). -/
def PortUnit.refusing (r : Reply) (u : PortUnit) : PortUnit :=
  { u with slot := .ready r, attention := .asserted, relTimer := none, absTimer := none, reading := none }

/-- The port has been handed a copy of notice `n`: the copy stands in its queue, or the overrun flag says that copies were dropped (R154). -/
def PortUnit.Told (n : Notice) (u : PortUnit) : Prop := u.overrun = true ∨ n ∈ u.notices

/-- The port's last copy was that of notice `n`, or the overrun flag says that copies were dropped (R154). -/
def PortUnit.ToldLast (n : Notice) (u : PortUnit) : Prop := u.overrun = true ∨ ∃ before, u.notices = before ++ [n]

/-- A station bound for the service: its configuration names a port whose role is STATION (R5). -/
def State.Bound (s : State) (st : StationId) : Prop :=
  ∃ q, (s.station st).config.port = some q ∧ (s.port q).role = .station

/-! ## Ports (R137, R142 to R148, R154, R160 to R164) -/

/-- What holds of a port unit at every moment: the error counter within 0 to 16 and the mute exactly at 16 (R148), at most 24 notices
(R154), SCL held only while a command is in flight and within the stretch limit (R145), and the attention state released exactly where
there is nothing to read and its timers running exactly in WAITING (9.5, R164). -/
structure PortUnit.Sound (u : PortUnit) : Prop where
  errors_le : u.errors ≤ 16
  muted_iff : u.muted = true ↔ u.errors = 16
  notices_le : u.notices.length ≤ 24
  held_busy : ∀ n, u.stretch = some n → u.slot.isBusy = true ∧ u.reading = none ∧ n < Config.cyclesPerStretch
  released_iff : u.attention = .released ↔ u.slot.isReady = false ∧ u.notices = []
  waiting_iff : u.attention = .waiting ↔ u.relTimer.isSome = true ∨ u.absTimer.isSome = true

/-- Every port unit sound. -/
def State.PortsSound (s : State) : Prop := ∀ p, (s.port p).Sound

/-! ## The menu and the out board (R33, R39) -/

/-- The menu holds at most one valid entry per item, entries at distinct indexes 0 to 255; the out board holds each code once. -/
structure State.MenuSound (s : State) : Prop where
  indexes : s.menu.Pairwise fun e f => e.index < f.index
  inTable : ∀ e ∈ s.menu, e.index < 256
  items : s.menu.Pairwise fun e f => e.item ≠ f.item
  marks : s.outBoard.Pairwise fun c d => c.toNat < d.toNat

/-! ## Records and numbers (R1, R3, R4, R50, R77, R78, R98) -/

/-- The number `n` has been given by a counter that stands at `next`. -/
def Given (n next : Nat) (exhausted : Bool) : Prop := 1 ≤ n ∧ (n < next ∨ exhausted = true ∧ n = 65535)

/-- The clock and its timer agree with the service state, no record exists in CLOSED, numbers are given once, in ascending order, and
slips name tickets whose numbers have been given. -/
structure State.RecordsSound (s : State) : Prop where
  clock_le : s.clock ≤ 65535
  timer_iff : s.secondTimer = none ↔ s.service = .closed
  closed_empty : s.service = .closed → s.tickets = [] ∧ s.slips = []
  nextTicket_range : 1 ≤ s.nextTicket ∧ s.nextTicket ≤ 65535
  nextSlip_range : 1 ≤ s.nextSlip ∧ s.nextSlip ≤ 65535
  ticketsLast : s.ticketsExhausted = true → s.nextTicket = 65535
  slipsLast : s.slipsExhausted = true → s.nextSlip = 65535
  tickets_rise : s.tickets.Pairwise fun t u => t.number < u.number
  slips_rise : s.slips.Pairwise fun x y => x.number < y.number
  tickets_given : ∀ t ∈ s.tickets, Given t.number s.nextTicket s.ticketsExhausted
  slips_given : ∀ x ∈ s.slips, Given x.number s.nextSlip s.slipsExhausted
  members_given : ∀ x ∈ s.slips, ∀ m ∈ x.members, Given m.ticket s.nextTicket s.ticketsExhausted

/-! ## Stations (R100, R101, R106, R112, R117, R126 to R130) -/

/-- A station configuration within its ranges (R101), its backup another station. -/
structure StationConfig.InRange (st : StationId) (c : StationConfig) : Prop where
  slots : 1 ≤ c.slots ∧ c.slots ≤ 32
  reserve : c.reserve < c.slots
  plate : c.plate ≤ 300
  timeout : 5 ≤ c.timeout ∧ c.timeout ≤ 120
  horizon : c.horizon ≤ 900
  window : c.window ≤ 300
  initialLag : c.initialLag ≤ 600
  backup : c.backup ≠ some st

/-- What holds of the stations: configurations in range, the lag estimate within 0 to 600 (R117), never more CALLED and TAKEN slips than
slots (R106), CALLED slips at OPEN and PAUSED stations only (R123), a running station short of three missed takes (R112), and an
evacuation in flight only from a DOWN station whose queue still holds a slip and whose backup is running (R126, R128, R129). -/
structure State.StationsSound (s : State) : Prop where
  inRange : ∀ st, (s.station st).config.InRange st
  lag_le : ∀ st, (s.station st).lag ≤ 600
  busy_le : ∀ st, s.busyCount st ≤ (s.station st).config.slots
  called_running : ∀ x ∈ s.slips, x.isCalled = true → s.isRunning x.station = true
  missed_le : ∀ st, (s.station st).missed ≤ 3
  missed_running : ∀ st, s.isRunning st = true → (s.station st).missed < 3
  evacuating : ∀ st, (s.station st).evacuating = true →
    (s.station st).state = .down ∧ s.queue st ≠ [] ∧ ∃ b, (s.station st).config.backup = some b ∧ s.isRunning b = true

/-! ## Waves (R16, R20, R22, R25 to R29) -/

/-- What holds of the waves: a FREE wave has no ticket, no slip and no delay, a SEALED wave has a ticket or a slip (R22), no wave is OPEN in
DRAINING (R7), and the slips of a delay list stand in ascending number, an unmarked one in the store, PENDING and of the wave (R26). -/
structure State.WavesSound (s : State) : Prop where
  free : ∀ w, (s.wave w).state = .free → s.ticketCount w = 0 ∧ s.slipCount w = 0 ∧ (s.wave w).delay = none
  sealed : ∀ w, (s.wave w).state = .sealed → ¬(s.ticketCount w = 0 ∧ s.slipCount w = 0)
  draining : s.service = .draining → ∀ w, (s.wave w).state ≠ .opened
  listed : ∀ w d, (s.wave w).delay = some d →
    d.slips.Pairwise (fun e f => e.1 < f.1) ∧ ∀ n, (n, false) ∈ d.slips → ∃ x ∈ s.slips, x.number = n ∧ x.wave = w ∧ x.isPending = true

/-! ## Lines leaving slips (R40, R67, R89) -/

/-- A PENDING or CALLED slip without the members that `gone` names: the others keep their order, and the portions drop by the quantities
taken out (R89). -/
def Slip.removed (gone : Member → Bool) (x : Slip) : Slip :=
  { x with
    members := x.members.filter fun m => !gone m
    portions := x.portions - ((x.members.filter gone).map Member.qty).sum }

/-- A line that a mark of item `c` voids: one of the item that is WAITING (R40). -/
def Line.hit (c : ItemCode) (l : Line) : Bool := l.item == c && l.state.isWaiting

/-- A ticket after a mark of item `c`: the lines hit VOID, every other line as it was, the state worked out again (R40, R41). -/
def Ticket.markedOut (c : ItemCode) (k : Ticket) : Ticket :=
  let lines := k.lines.map fun l => if l.hit c then { l with state := .void } else l
  { k with lines := lines, state := Ticket.workedState { k with lines := lines } }

/-- Whether a member entry names a line that a mark of item `c` voids. -/
def State.hitMember (s : State) (c : ItemCode) (m : Member) : Bool :=
  s.tickets.any fun k => k.number == m.ticket && (k.lines[m.line]?).any (Line.hit c)

/-- A slip after a mark of item `c`: a PENDING one without the lines hit (R40). -/
def State.slipMarkedOut (s : State) (c : ItemCode) (x : Slip) : Slip :=
  if x.isPending then x.removed (s.hitMember c) else x

/-! ## What a consideration may do (R105 to R108) -/

/-- What considerations at state `s` may make of slip `x`: `y` has all its fields but two. The previewed flag may be set on a PENDING slip
within the horizon of a running station (R105); a PENDING slip of an OPEN station that is due, its wave not held, may be CALLED at the
clock with its station's take timeout (R106, R108). -/
structure State.Considers (s : State) (x y : Slip) : Prop where
  kept : y = { x with previewed := y.previewed, state := y.state }
  previewed : y.previewed = x.previewed ∨
    x.previewed = false ∧ x.state = .pending ∧ y.previewed = true ∧ s.isRunning x.station = true ∧
      0 < (s.station x.station).config.horizon ∧ x.fire ≤ s.clock + (s.station x.station).config.horizon
  called : y.state = x.state ∨
    x.state = .pending ∧ y.state = .called s.clock (s.station x.station).config.timeout ∧
      (s.station x.station).state = .opened ∧ x.fire ≤ s.clock ∧ (s.wave x.wave).hold = false

/-- Station `st` has considered to the end: while it is OPEN no slip of its queue is eligible (R106), and while it is OPEN or PAUSED none is
left to preview (R105, R107). -/
structure State.Settled (s : State) (st : StationId) : Prop where
  called : (s.station st).state = .opened → ∀ x ∈ s.queue st, s.eligible st x = false
  previewed : ∀ x ∈ s.queue st, s.previewable st x = false

/-- What the calls of considerations may make of a line: a WAITING line is CALLED in its slip (R52). -/
def Line.Considers (l m : Line) : Prop := m = l ∨ ∃ n, l.state = .waiting n ∧ m = { l with state := .called n }

/-- What the calls of considerations may make of ticket `k`: its lines called, its state worked out (R52, R56); `j` has every other
field. -/
structure Ticket.Considers (k j : Ticket) : Prop where
  kept : j = { k with state := j.state, lines := j.lines }
  lines : List.Forall₂ Line.Considers k.lines j.lines

/-! ## Slips and their members (R51, R56, R79, R80) -/

/-- The state of a line whose slip is in a given state (R52, R53). -/
def LineState.follows (n : Nat) : SlipState → LineState
  | .pending => .waiting n
  | .called _ _ => .called n
  | .taken _ => .cooking n

/-- The slip number of a line, where it has one (R51). -/
def LineState.slipNumber : LineState → Option Nat
  | .waiting n | .called n | .cooking n => some n
  | .ready _ | .void => none

/-- What holds of lines and slips: a member entry names a line of a live ticket that is in the slip's state, names the slip and has the
entry's quantity; a WAITING, CALLED or COOKING line is an entry of the slip it names; no line has two entries; a PENDING or CALLED slip
has members and its portions are their sum; and a ticket's state is the one its lines give, with a line that is not VOID (R56). -/
structure State.MembersSound (s : State) : Prop where
  entries : ∀ x ∈ s.slips, ∀ m ∈ x.members, ∃ t ∈ s.tickets, t.number = m.ticket ∧ ∃ l, t.lines[m.line]? = some l ∧
    l.state = LineState.follows x.number x.state ∧ l.qty = m.qty
  lines : ∀ t ∈ s.tickets, ∀ i l n, t.lines[i]? = some l → l.state.slipNumber = some n →
    ∃ x ∈ s.slips, x.number = n ∧ ∃ m ∈ x.members, m.ticket = t.number ∧ m.line = i
  once : ∀ x ∈ s.slips, (x.members.map fun m => (m.ticket, m.line)).Nodup
  portions : ∀ x ∈ s.slips, x.isTaken = false → x.members ≠ [] ∧ x.portions = (x.members.map Member.qty).sum
  worked : ∀ t ∈ s.tickets, t.state = t.workedState ∧ t.allVoid = false

/-! ## The waves and a station after an event (R22, R26 to R29, R123 to R129) -/

/-- Wave `v` of `s` with the left-PENDING marks that an event from `s` to `t` sets: those of the slips of its delay list that were PENDING and
are so no more, by a call or by their freeing (R26, R27). -/
def State.waveMarked (s t : State) (v : WaveId) : Wave :=
  { s.wave v with
    delay := (s.wave v).delay.map fun d => { d with
      slips := d.slips.map fun e => (e.1, e.2 ||
        s.slips.any (fun x => decide (x.number = e.1 ∧ x.wave = v ∧ x.isPending = true)) &&
          !t.slips.any fun y => decide (y.number = e.1 ∧ y.isPending = true)) } }

/-- Wave `v` loses its last work between `s` and `t`: it is SEALED, it had a ticket or a slip, and has none left (R22). -/
def State.EmptiesWave (s t : State) (v : WaveId) : Prop :=
  (s.wave v).state = .sealed ∧ ¬(s.ticketCount v = 0 ∧ s.slipCount v = 0) ∧ t.ticketCount v = 0 ∧ t.slipCount v = 0

/-- What an event that may free slips and tickets leaves of the waves: a SEALED wave that loses its last work is FREE, with WAVE_FREE at the
pass and monitor ports (R22), and a delay in flight on it ends with its reply, the slips left on its list passed over (R28, R29); every
other wave keeps all but the marks of R26. The reply stands where the delay's port held a command and no other delay was that port's. -/
structure State.WavesAfter (s t : State) : Prop where
  freed : ∀ v, s.EmptiesWave t v → (t.wave v).state = .free ∧ (t.wave v).hold = false ∧ (t.wave v).delay = none ∧
    ∀ q, s.watchers q = true → (t.port q).Told ⟨s.clock, .waveFree v⟩
  ended : ∀ v d, s.EmptiesWave t v → (s.wave v).delay = some d → (s.port d.port).slot ≠ .empty →
    (∀ u e, u ≠ v → (s.wave u).delay = some e → e.port ≠ d.port) →
    (t.port d.port).slot = .ready ⟨0x14, if d.clamped then .clamped else .ok,
      .delay v (s.wave v).sweep.start d.amount d.shifted d.unchanged (d.passed + d.slips.length)⟩
  kept : ∀ v, ¬((s.wave v).state = .sealed ∧ t.ticketCount v = 0 ∧ t.slipCount v = 0) → t.wave v = s.waveMarked t v

/-- What the going DOWN of a running station `st` leaves (R123 to R126, R129): its configuration and lag, its TAKEN slips alone in its busy
set, its CALLED slips PENDING again with their lines WAITING, its queue else and the slips of other stations as they were; an evacuation
in flight exactly where a running backup is named and the queue holds a slip, with STATION_STATE at the pass and monitor ports and the
bound port; and every evacuation into it lost, with BACKUP_LOST, no other station changed. -/
structure State.GoneDown (cause : StationCause) (st : StationId) (s t : State) : Prop where
  down : (t.station st).state = .down ∧ (t.station st).config = (s.station st).config ∧ (t.station st).lag = (s.station st).lag
  taken : t.busySet st = (s.busySet st).filter Slip.isTaken
  queued : ∀ x ∈ s.slips, x.station = st → x.isTaken = false → { x with state := .pending } ∈ t.slips
  others : ∀ x ∈ s.slips, x.station ≠ st → x ∈ t.slips
  lines : s.MembersSound → ∀ x ∈ s.slips, x.station = st → x.isCalled = true → ∀ m ∈ x.members, ∀ k ∈ t.tickets, ∀ l,
    k.number = m.ticket → k.lines[m.line]? = some l → l.state = .waiting x.number
  evacuating : (t.station st).evacuating = true ↔
    t.queue st ≠ [] ∧ ∃ b, (s.station st).config.backup = some b ∧ s.isRunning b = true
  told : ∀ q, s.watchersOf st q = true → (t.port q).Told ⟨s.clock, .stationState st .down cause
    (if (t.station st).evacuating then (s.station st).config.backup else none)
    (if (t.station st).evacuating then (t.queue st).length else 0)⟩
  stations : ∀ d, d ≠ st → t.station d = { s.station d with
    evacuating := (s.station d).evacuating && decide ((s.station d).config.backup ≠ some st) }
  lost : ∀ d, d ≠ st → (s.station d).evacuating = true → (s.station d).config.backup = some st → ∀ q, s.watchersOf d q = true →
    (t.port q).Told ⟨s.clock, .stationState d .down .backupLost (some st) (s.queue d).length⟩

end Sys2Proof.Machine
end

