-- ==== Sys2Proof/WellFormed.lean ====
section
/-! DEFINITION. Which terms of `Instr` stand for something that can reach the part. Ports, stations, waves, addresses and straps
are held in range by their types; two checks remain. -/

namespace Sys2Proof

/-- The bytes of an UNKNOWN_COMMAND write: none at all (a write that carries no frame, R136), or a first byte that is no
command code (R138). -/
def unknownCode : List Byte → Bool
  | [] => true
  | code :: _ => (Cmd.ofCode code).isNone

/-- The checks. A slip number is 1 to 65535 (R4). -/
def Instr.wellFormed : Instr → Bool
  | .unknownCommand w => unknownCode w.body
  | .takeTimeout slip => decide (1 ≤ slip) && decide (slip ≤ Config.maxTime)
  | .openService _ | .closeService _ | .serviceReset _ | .setLimits _ | .status _ | .defineWave _ | .sealWave _ | .holdWave _
  | .releaseWave _ | .delayWave _ | .fireWave _ | .queryWave _ | .setItem _ | .clearItem _ | .clearMenu _ | .queryItem _
  | .setDiversion _ | .queryDiversion _ | .markOut _ | .markIn _ | .submitTicket _ | .voidTicket _ | .pickup _ | .refire _
  | .queryTicket _ | .querySlip _ | .setStation _ | .pauseStation _ | .resumeStation _ | .queryStation _ | .stationDown _
  | .stationOpen _ | .take _ | .bump _ | .forceBump _ | .setPortMode _ | .portRestart _ | .list _ | .powerOnReset _
  | .resetPin _ | .secondTimerExpiry | .stationSecondEvent _ | .delayReach _ | .evacuationMove _ | .readTransaction _ _
  | .recordDelivery _ | .stretchTimerExpiry _ | .relativeTimerExpiry _ | .absoluteTimerExpiry _ => true

end Sys2Proof
end

