-- ==== Sys2Proof/Certificates/Slice0/Obligations.lean ====
section
/-! DEFINITION. The statements for the provers. In each, `w.port` is the port that carries the frame and `paramsOf w.body` its parameter
bytes; `Takes` says that the port takes the frame; `State.answered` puts the reply in the port's slot and changes nothing else. -/

open Sys2Proof Sys2Proof.Machine

/-! ## The step and the resets -/

/-- The command at the front of the queue runs on the state with the rest of the queue. That commands wait in one queue is the model's
choice (assumption 1). -/
def Obligations.FrontCommandRuns : Prop :=
  ∀ (c : Instr) (rest : List Instr) (s : State), s.pending = c :: rest → step s = exec c { s with pending := rest }

/-- With no command waiting a step is one cycle of REFCLK (the model's choice, assumption 3). The second timer and the tenth divider count
it (R1, R160). At a port a running stretch timer counts it and at 25 ms ends the held read with the status byte, busy set, and no
record (R145); at a tenth tick the attention timers count, and the first to run out in WAITING asserts the line and stops the other
(R160, R163). Nothing else of the part moves. -/
def Obligations.IdleStepCountsOneCycle : Prop :=
  ∀ s : State, s.pending = [] → ∃ t, step s = .next t ∧
    t = { s with
      clock := t.clock, secondTimer := t.secondTimer, stations := t.stations, ports := t.ports, tenthDivider := t.tenthDivider } ∧
    (s.secondTimer = none → t.secondTimer = none ∧ t.clock = s.clock ∧ t.stations = s.stations) ∧
    (∀ n, s.secondTimer = some n → n + 1 < 4000000 →
      t.secondTimer = some (n + 1) ∧ t.clock = s.clock ∧ t.stations = s.stations) ∧
    (∀ n, s.secondTimer = some n → 4000000 ≤ n + 1 →
      t.secondTimer = some 0 ∧ t.clock = min (s.clock + 1) 65535 ∧
        ∀ st, t.station st = { s.station st with due := (s.station st).due + 1 }) ∧
    (s.tenthDivider + 1 < 400000 → t.tenthDivider = s.tenthDivider + 1) ∧
    (400000 ≤ s.tenthDivider + 1 → t.tenthDivider = 0) ∧
    ∀ p, ((s.port p).stretch ≠ none → (s.port p).slot.isBusy = true) → ∃ u : PortUnit,
      ((s.port p).stretch = none → u = s.port p) ∧
      (∀ n, (s.port p).stretch = some n → n + 1 < 100000 → u = { s.port p with stretch := some (n + 1) }) ∧
      (∀ n, (s.port p).stretch = some n → 100000 ≤ n + 1 → u = { s.port p with
        stretch := none
        reading := some ⟨packByte false true (s.port p).collided (s.port p).overrun (s.port p).muted
          (decide ((s.port p).notices ≠ [])) (decide (s.service ≠ .closed)) false, .nothing, false⟩
        collided := false }) ∧
      (s.tenthDivider + 1 < 400000 → t.port p = u) ∧
      (400000 ≤ s.tenthDivider + 1 →
        (u.attention = .waiting → (∃ n, n ≤ 1 ∧ (u.relTimer = some n ∨ u.absTimer = some n)) →
          t.port p = { u with attention := .asserted, relTimer := none, absTimer := none }) ∧
        (¬(u.attention = .waiting ∧ ∃ n, n ≤ 1 ∧ (u.relTimer = some n ∨ u.absTimer = some n)) →
          t.port p = { u with relTimer := u.relTimer.map fun n => n - 1, absTimer := u.absTimer.map fun n => n - 1 }))

/-- Power-on reset and the RESET pin, from any state: the service, the waves, the board, the store and the out board as at power-on
either way, the ports as newly strapped; the pin keeps the refire limit, the menu, the diversions and the station configurations, and
decides each station's state by the role newly sampled at the port it names. The commands waiting stay (the model's own). -/
def Obligations.ResetsSetThePart : Prop :=
  ∀ (straps : Straps) (s : State),
    ∃ t u, exec (.powerOnReset straps) s = .next t ∧ exec (.resetPin straps) s = .next u ∧
      (∀ v : State, v = t ∨ v = u →
        v.service = .closed ∧ v.clock = 0 ∧ v.secondTimer = none ∧ v.nextTicket = 1 ∧ v.ticketsExhausted = false ∧
        v.nextSlip = 1 ∧ v.slipsExhausted = false ∧ v.outBoard = [] ∧ v.tickets = [] ∧ v.slips = [] ∧ v.pending = s.pending ∧
        (∀ w, (v.wave w).state = .free ∧ (v.wave w).hold = false ∧ (v.wave w).delay = none) ∧
        ∀ p, v.port p =
          { role := match straps.role1.getLsbD p.val, straps.role0.getLsbD p.val with
              | false, false => .order
              | false, true => .station
              | true, false => .pass
              | true, true => .monitor
            address := 0x48 + straps.addr.setWidth 7
            stretchMode := true, relDelay := 5, absDelay := 20, slot := .empty, collided := false, errors := 0, muted := false
            stretch := none, notices := [], overrun := false, attention := .released, relTimer := none, absTimer := none
            reading := none }) ∧
      t.refireLimit = 2 ∧ t.menu = [] ∧ (∀ i : DiversionId, t.diversions[i] = ⟨false, 0, 0, 0, 0⟩) ∧
      (∀ st, t.station st = ⟨⟨none, 4, 1, 30, 30, none, 300, 60, 0⟩, .unused, 0, 0, false, 0⟩) ∧
      u.refireLimit = s.refireLimit ∧ u.menu = s.menu ∧ u.diversions = s.diversions ∧
      ∀ st, ∃ state, u.station st = ⟨(s.station st).config, state, (s.station st).config.initialLag, 0, false, 0⟩ ∧
        ((∃ q, (s.station st).config.port = some q ∧ (u.port q).role = .station) → state = .opened) ∧
        ((¬∃ q, (s.station st).config.port = some q ∧ (u.port q).role = .station) → state = .unused)

/-! ## Invariants -/

/-- The part after reset, with the straps of assumption 2, is sound in every part. -/
def Obligations.ResetIsSound : Prop :=
  State.reset.PortsSound ∧ State.reset.MenuSound ∧ State.reset.RecordsSound ∧ State.reset.StationsSound ∧
    State.reset.WavesSound ∧ State.reset.MembersSound

/-- Every step keeps the port units sound: error counters and mutes, queue lengths, held reads, attention states (R145, R148, R154, R164). -/
def Obligations.StepKeepsPortsSound : Prop := ∀ s t : State, s.PortsSound → step s = .next t → t.PortsSound

/-- Every step keeps one menu entry per item code and one mark per item code (R33, R39). -/
def Obligations.StepKeepsMenuSound : Prop := ∀ s t : State, s.MenuSound → step s = .next t → t.MenuSound

/-- Every step keeps the clock within its range and running outside CLOSED only, CLOSED empty of records, and every ticket and slip
number given once and in ascending order (R1, R3, R4, R77, R98). -/
def Obligations.StepKeepsRecordsSound : Prop := ∀ s t : State, s.RecordsSound → step s = .next t → t.RecordsSound

/-- Every step keeps every station within its slots, its lag within 0 to 600, its missed takes short of three while it runs, and an
evacuation in flight only from a DOWN station with slips left and a running backup (R106, R112, R117, R128, R129). -/
def Obligations.StepKeepsStationsSound : Prop :=
  ∀ s t : State, s.RecordsSound → s.StationsSound → step s = .next t → t.RecordsSound ∧ t.StationsSound

/-- Every step keeps FREE waves empty, SEALED waves holding work, no wave OPEN in DRAINING, and delay lists in order with their unmarked
slips PENDING (R7, R22, R26). -/
def Obligations.StepKeepsWavesSound : Prop :=
  ∀ s t : State, s.RecordsSound → s.WavesSound → step s = .next t → t.RecordsSound ∧ t.WavesSound

/-- Every step keeps lines and slips in agreement and every ticket's state worked out from its lines (R51, R56, R80). -/
def Obligations.StepKeepsMembersSound : Prop :=
  ∀ s t : State, s.RecordsSound → s.MembersSound → step s = .next t → t.RecordsSound ∧ t.MembersSound

/-- Every well-formed command answers a next state, from every state. It leaves the queue of commands, the model's own, as it was
(assumptions 1 and 18). -/
def Obligations.EveryCommandAnswers : Prop :=
  ∀ (c : Instr) (s : State), c.wellFormed = true → ∃ t, exec c s = .next t ∧ t.pending = s.pending

/-! ## A frame at its port -/

/-- A frame to another address changes nothing (R135); a frame that meets a reply slot that is not EMPTY is discarded: the collided flag
is set and nothing else changes but a read under way, which the write ended (R137, assumption 9). -/
def Obligations.ForeignAndCollidingFrames : Prop :=
  ∀ (i : Instr) (c : Cmd) (w : Written) (s : State), i.frame? = some (c, w) →
    (w.address ≠ (s.port w.port).address → exec i s = .next s) ∧
    (w.address = (s.port w.port).address → (s.port w.port).slot ≠ .empty →
      exec i s = .next (s.modPort w.port fun u => { u with collided := true, reading := none }))

/-- A frame that is not well formed is refused with MALFORMED at the port, muted or not, and counted unless the counter is 16; at 16 the
port is muted (R138, R148). The length byte is there, is at most 60, and is the number of parameter bytes written (R136, R138); of a
longer write the port keeps 62 bytes in all (judged by those: assumption 14). The length is that of the command's row in 10.2, for SUBMIT
TICKET the one that agrees with its line count (R167), and each field narrower than its bytes has an encodable value (R138): a wave below 32, a
station below 12, an item code, diversion code or mask below 4096, a table below 1024, a line index below 12, a member index below 16, a
diversion index below 8, a bound port below 6 or FFh, a backup below 12 or FFh. Every other value of every field is taken. SUBMIT TICKET and
SET STATION are read at the byte positions of 10.2, most significant byte first. -/
def Obligations.MalformedFrameRefused : Prop :=
  (∀ (i : Instr) (c : Cmd) (w : Written) (s : State), i.frame? = some (c, w) →
    w.address = (s.port w.port).address → (s.port w.port).slot = .empty → (s.port w.port).stretch = none →
    formed c w.body = false →
    exec i s = .next (s.modPort w.port fun u =>
      { u.refusing ⟨c.code, .malformed, .empty⟩ with
        errors := min (u.errors + 1) 16
        muted := u.muted || decide (15 ≤ u.errors) })) ∧
  (∀ body ps : List Byte,
    (body.length ≤ 61 → (paramsOf body = some ps ↔ ∃ len : Byte, body = len :: ps ∧ len.toNat = ps.length ∧ ps.length ≤ 60)) ∧
    (61 < body.length → (paramsOf body = some ps ↔ ∃ rest, body = 60 :: ps ++ rest ∧ ps.length = 60))) ∧
  (∀ (c : Cmd) (body : List Byte), paramsOf body = none → formed c body = false) ∧
  (∀ (c : Cmd) (body ps : List Byte), paramsOf body = some ps → ∀ takenWhere : Prop → Prop,
    (takenWhere = fun fits => (formed c body = true ↔ fits)) →
    (c ∈ [.openService, .closeService, .serviceReset, .status, .clearMenu, .portRestart] → takenWhere (ps = [])) ∧
    (c = .setLimits → takenWhere (ps.length = 1)) ∧
    (c ∈ [.voidTicket, .pickup, .take, .bump, .forceBump, .list] → takenWhere (ps.length = 2)) ∧
    (c = .setPortMode → takenWhere (ps.length = 3)) ∧
    (c ∈ [.sealWave, .holdWave, .releaseWave, .fireWave, .queryWave] → takenWhere (∃ v : Byte, ps = [v] ∧ v.toNat < 32)) ∧
    (c = .delayWave → takenWhere (∃ v d1 d0 : Byte, ps = [v, d1, d0] ∧ v.toNat < 32)) ∧
    (c = .defineWave → takenWhere (∃ v f1 f0 count flags s1 s0 i1 i0 : Byte,
      ps = [v, f1, f0, count, flags, s1, s0, i1, i0] ∧ v.toNat < 32)) ∧
    (c ∈ [.clearItem, .queryItem, .markOut, .markIn] →
      takenWhere (∃ i1 i0 : Byte, ps = [i1, i0] ∧ i1.toNat * 256 + i0.toNat < 4096)) ∧
    (c = .setItem → takenWhere (∃ i1 i0 st c1 c0 batch : Byte,
      ps = [i1, i0, st, c1, c0, batch] ∧ i1.toNat * 256 + i0.toNat < 4096 ∧ st.toNat < 12)) ∧
    (c = .queryDiversion → takenWhere (∃ i : Byte, ps = [i] ∧ i.toNat < 8)) ∧
    (c = .setDiversion → takenWhere (∃ i flags c1 c0 m1 m0 mods st : Byte,
      ps = [i, flags, c1, c0, m1, m0, mods, st] ∧ i.toNat < 8 ∧ c1.toNat * 256 + c0.toNat < 4096 ∧ m1.toNat * 256 + m0.toNat < 4096 ∧
        st.toNat < 12)) ∧
    (c ∈ [.refire, .queryTicket] → takenWhere (∃ n1 n0 i : Byte, ps = [n1, n0, i] ∧ i.toNat < 12)) ∧
    (c = .querySlip → takenWhere (∃ n1 n0 i : Byte, ps = [n1, n0, i] ∧ i.toNat < 16)) ∧
    (c ∈ [.pauseStation, .resumeStation, .queryStation, .stationDown, .stationOpen] →
      takenWhere (∃ st : Byte, ps = [st] ∧ st.toNat < 12)) ∧
    (c = .setStation → takenWhere (∃ st port k r p1 p0 timeout backup h1 h0 b1 b0 g1 g0 : Byte,
      ps = [st, port, k, r, p1, p0, timeout, backup, h1, h0, b1, b0, g1, g0] ∧ st.toNat < 12 ∧ (port.toNat < 6 ∨ port = 0xFF) ∧
        (backup.toNat < 12 ∨ backup = 0xFF))) ∧
    (c = .submitTicket → takenWhere (∃ (v t1 t0 flags count : Byte) (entries : List Byte),
      ps = [v, t1, t0, flags, count] ++ entries ∧ v.toNat < 32 ∧ t1.toNat * 256 + t0.toNat < 1024 ∧
        entries.length = 4 * count.toNat ∧
        ∀ i (i1 i0 : Byte), entries[4 * i]? = some i1 → entries[4 * i + 1]? = some i0 → i1.toNat * 256 + i0.toNat < 4096))) ∧
  (∀ (v t1 t0 flags count : Byte) (entries : List Byte) (a : Submission),
    parseSubmit ([v, t1, t0, flags, count] ++ entries) = some a →
    a.wave.val = v.toNat ∧ a.table = t1.toNat * 256 + t0.toNat ∧ a.rush = flags.getLsbD 0 ∧ a.lines.length = count.toNat ∧
    ∀ i e, a.lines[i]? = some e → ∃ i1 i0 qty mods : Byte,
      entries[4 * i]? = some i1 ∧ entries[4 * i + 1]? = some i0 ∧ entries[4 * i + 2]? = some qty ∧ entries[4 * i + 3]? = some mods ∧
      e.item.toNat = i1.toNat * 256 + i0.toNat ∧ e.qty = qty.toNat ∧ e.modifiers = mods) ∧
  ∀ (st port k r p1 p0 timeout backup h1 h0 b1 b0 g1 g0 : Byte) (u : StationId) (given : StationConfig),
    parseSetStation [st, port, k, r, p1, p0, timeout, backup, h1, h0, b1, b0, g1, g0] = some (u, given) →
    u.val = st.toNat ∧ (given.port = none ↔ port = 0xFF) ∧ (∀ q, given.port = some q → q.val = port.toNat) ∧
    given.slots = k.toNat ∧ given.reserve = r.toNat ∧ given.plate = p1.toNat * 256 + p0.toNat ∧ given.timeout = timeout.toNat ∧
    (given.backup = none ↔ backup = 0xFF) ∧ (∀ b, given.backup = some b → b.val = backup.toNat) ∧
    given.horizon = h1.toNat * 256 + h0.toNat ∧ given.window = b1.toNat * 256 + b0.toNat ∧
    given.initialLag = g1.toNat * 256 + g0.toNat

/-- At a muted port a well-formed frame of any command but STATUS and PORT RESTART is refused with MUTED and counted nowhere (R139). -/
def Obligations.MutedFrameRefused : Prop :=
  ∀ (i : Instr) (c : Cmd) (w : Written) (s : State), i.frame? = some (c, w) →
    w.address = (s.port w.port).address → (s.port w.port).slot = .empty → (s.port w.port).stretch = none →
    formed c w.body = true → (s.port w.port).muted = true → c ≠ .status → c ≠ .portRestart →
    exec i s = .next (s.modPort w.port fun u => u.refusing ⟨c.code, .muted, .empty⟩)

/-- The table of 8.4 decides which commands a role may issue: a well-formed frame of another command is refused with NOT_PERMITTED and
counted (R140, R148); at a port that is not muted one of its own commands goes to its owner, which lowers the error counter by one if
above 0 and leaves the command's reply, or a DELAY WAVE in flight (R141); PORT RESTART sets the counter to 0 (R149). -/
def Obligations.RoleRefused : Prop :=
  ∀ (i : Instr) (c : Cmd) (w : Written) (s : State) (allowed : List Cmd), i.frame? = some (c, w) →
    w.address = (s.port w.port).address → (s.port w.port).slot = .empty → (s.port w.port).stretch = none →
    formed c w.body = true → (s.port w.port).muted = false →
    ((s.port w.port).role = .order →
      allowed = [.status, .queryWave, .queryItem, .queryDiversion, .submitTicket, .voidTicket, .queryTicket, .querySlip, .queryStation,
        .setPortMode, .portRestart, .list]) →
    ((s.port w.port).role = .monitor →
      allowed = [.status, .queryWave, .queryItem, .queryDiversion, .queryTicket, .querySlip, .queryStation, .setPortMode, .portRestart,
        .list]) →
    ((s.port w.port).role = .station →
      allowed = [.status, .queryWave, .queryItem, .queryDiversion, .markOut, .markIn, .queryTicket, .querySlip, .pauseStation,
        .resumeStation, .queryStation, .stationOpen, .take, .bump, .setPortMode, .portRestart, .list]) →
    ((s.port w.port).role = .pass → ∀ d, d ∈ allowed ↔ d ≠ Cmd.take ∧ d ≠ .bump) →
    (c ∉ allowed →
      exec i s = .next (s.modPort w.port fun u =>
        { u.refusing ⟨c.code, .notPermitted, .empty⟩ with
          errors := min (u.errors + 1) 16
          muted := decide (15 ≤ u.errors) })) ∧
    (c ∈ allowed →
      ∃ t, exec i s = .next t ∧
        (t.port w.port).errors = (if c = .portRestart then 0 else (s.port w.port).errors - 1) ∧
        ((∃ r, (t.port w.port).slot = .ready r ∧ r.code = c.code) ∨ c = .delayWave ∧ (t.port w.port).slot = .busy 0x14))

/-- A frame whose code is in no row of the command table is refused with UNKNOWN_COMMAND, the code as received, and counted, muted or not
(R138); to another address it changes nothing (R135), and meeting a reply slot that is not EMPTY it is discarded, the collided flag set
(R137); a write of no byte has no effect (R136). A write ends a read under way (assumption 9). -/
def Obligations.UnknownCodeRefused : Prop :=
  (∀ (code : Byte) (body : List Byte) (w : Written) (s : State), w.body = code :: body → (∀ c : Cmd, c.code ≠ code) →
    (w.address ≠ (s.port w.port).address → exec (.unknownCommand w) s = .next s) ∧
    (w.address = (s.port w.port).address → (s.port w.port).slot ≠ .empty →
      exec (.unknownCommand w) s = .next (s.modPort w.port fun u => { u with collided := true, reading := none })) ∧
    (w.address = (s.port w.port).address → (s.port w.port).slot = .empty → (s.port w.port).stretch = none →
      exec (.unknownCommand w) s = .next (s.modPort w.port fun u =>
        { u.refusing ⟨code, .unknownCommand, .empty⟩ with
          errors := min (u.errors + 1) 16
          muted := u.muted || decide (15 ≤ u.errors) }))) ∧
  ∀ (w : Written) (s : State), w.body = [] → exec (.unknownCommand w) s = .next s

/-! ## The service controller -/

/-- OPEN SERVICE in CLOSED with a bound station opens the service: clock 0, numbers from 1, bound stations OPEN and the others UNUSED, each
with its lag at its initial lag, SERVICE (OPENED) at every port; it is refused with NO_STATION where no station is bound and with
BAD_STATE outside CLOSED (R5, R6). -/
def Obligations.OpenServiceOpens : Prop :=
  ∀ (w : Written) (s : State), Takes .openService w s → paramsOf w.body = some [] →
    (s.service = .closed → (∃ st, s.Bound st) →
      ∃ t, exec (.openService w) s = .next t ∧
        t = { s with
          service := .opened, clock := 0, secondTimer := some 0, nextTicket := 1, ticketsExhausted := false
          nextSlip := 1, slipsExhausted := false, stations := t.stations, ports := t.ports } ∧
        (∀ st, ∃ state, t.station st = ⟨(s.station st).config, state, (s.station st).config.initialLag, 0, false, 0⟩ ∧
          (s.Bound st → state = .opened) ∧ (¬s.Bound st → state = .unused)) ∧
        (∀ q, q ≠ w.port → t.port q = (s.port q).append ⟨0, .service .opened .opened⟩) ∧
        t.port w.port = ((s.port w.port).append ⟨0, .service .opened .opened⟩).answered ⟨0x01, .ok, .service .opened⟩) ∧
    (s.service = .closed → (¬∃ st, s.Bound st) →
      exec (.openService w) s = .next (s.answered w.port ⟨0x01, .noStation, .empty⟩)) ∧
    (s.service ≠ .closed → exec (.openService w) s = .next (s.answered w.port ⟨0x01, .badState, .empty⟩))

/-- CLOSE SERVICE: refused in CLOSED, without effect in DRAINING; in OPEN with live tickets every OPEN wave is sealed, or freed where it has
no ticket and no slip, with WAVE_FREE at the pass and monitor ports, and the service is DRAINING, with SERVICE (DRAINING) last at every
port; in OPEN with none the service is CLOSED within the event, its slips gone, each with WITHDRAWN (DISCARDED) at its station's bound
port, its clock held, every wave FREE, each that was not with WAVE_FREE (R22), SERVICE (DRAINING) and last SERVICE (CLOSED) at every port
(R7 to R9). -/
def Obligations.CloseServiceDrains : Prop :=
  ∀ (w : Written) (s : State), Takes .closeService w s → paramsOf w.body = some [] →
    (s.service = .closed → exec (.closeService w) s = .next (s.answered w.port ⟨0x02, .badState, .empty⟩)) ∧
    (s.service = .draining → exec (.closeService w) s = .next (s.answered w.port ⟨0x02, .ok, .service .draining⟩)) ∧
    (s.service = .opened → s.tickets ≠ [] →
      ∃ t, exec (.closeService w) s = .next t ∧
        t = { s with service := .draining, waves := t.waves, ports := t.ports } ∧
        (∀ v, (s.wave v).state = .opened →
          (s.ticketCount v = 0 ∧ s.slipCount v = 0 → (t.wave v).state = .free ∧ (t.wave v).delay = none ∧
            ∀ q, s.watchers q = true → (t.port q).Told ⟨s.clock, .waveFree v⟩) ∧
          (¬(s.ticketCount v = 0 ∧ s.slipCount v = 0) → t.wave v = { s.wave v with state := .sealed })) ∧
        (∀ v, (s.wave v).state ≠ .opened → t.wave v = s.wave v) ∧
        (∀ q, (t.port q).ToldLast ⟨s.clock, .service .draining .draining⟩) ∧
        (t.port w.port).slot = .ready ⟨0x02, .ok, .service .draining⟩) ∧
    (s.service = .opened → s.tickets = [] →
      ∃ t, exec (.closeService w) s = .next t ∧
        t = { s with
          service := .closed, secondTimer := none, slips := [], waves := t.waves, stations := t.stations, ports := t.ports } ∧
        (∀ st, (t.station st).config = (s.station st).config ∧ (t.station st).lag = (s.station st).lag ∧
          (t.station st).missed = (s.station st).missed ∧ (t.station st).state = (s.station st).state) ∧
        (∀ x ∈ s.slips, ∀ q, s.isBound x.station q = true →
          (t.port q).Told ⟨s.clock, .withdrawn x.number x.station x.item .discarded none⟩) ∧
        (s.WavesSound → ∀ v, (t.wave v).state = .free ∧ (t.wave v).delay = none ∧
          ((s.wave v).state ≠ .free → (t.wave v).hold = false ∧ ∀ q, s.watchers q = true → (t.port q).Told ⟨s.clock, .waveFree v⟩)) ∧
        (∀ q, (t.port q).Told ⟨s.clock, .service .draining .draining⟩ ∧
          (t.port q).ToldLast ⟨s.clock, .service .closed .closed⟩) ∧
        (t.port w.port).slot = .ready ⟨0x02, .ok, .service .closed⟩)

/-- SERVICE RESET discards the service and keeps the configuration; commands in flight at other ports end with ABORTED, replies waiting
there stay, and every queue is left with the one SERVICE (RESET) notice (R10, R11). What a port samples and is set to stays; its collided
flag stays too, but where ABORTED ends a held read, whose status byte clears it (R143, R145). A read under way at another port goes on with
its record, but a notice being sent has left the queue and its delivery removes nothing (R147); at the issuing port the write has ended it
(assumption 9). -/
def Obligations.ServiceResetDiscards : Prop :=
  ∀ (w : Written) (s : State), Takes .serviceReset w s → paramsOf w.body = some [] →
    ∃ t, exec (.serviceReset w) s = .next t ∧
      t = { s with
        service := .closed, clock := 0, secondTimer := none, nextTicket := 1, ticketsExhausted := false, nextSlip := 1
        slipsExhausted := false, waves := t.waves, outBoard := [], tickets := [], slips := [], stations := t.stations
        ports := t.ports } ∧
      (∀ v, (t.wave v).state = .free ∧ (t.wave v).hold = false ∧ (t.wave v).delay = none) ∧
      (∀ st, ∃ state, t.station st = ⟨(s.station st).config, state, (s.station st).config.initialLag, 0, false, 0⟩ ∧
        (s.Bound st → state = .opened) ∧ (¬s.Bound st → state = .unused)) ∧
      (∀ q, (t.port q).notices = [⟨0, .service .closed .reset⟩] ∧ (t.port q).overrun = false ∧
        (t.port q).attention = .asserted ∧ (t.port q).relTimer = none ∧ (t.port q).absTimer = none ∧
        (t.port q).role = (s.port q).role ∧ (t.port q).address = (s.port q).address ∧
        (t.port q).stretchMode = (s.port q).stretchMode ∧
        ((s.port q).stretch = none → (t.port q).collided = (s.port q).collided) ∧
        (t.port q).relDelay = (s.port q).relDelay ∧ (t.port q).absDelay = (s.port q).absDelay ∧
        (t.port q).muted = (s.port q).muted) ∧
      (∀ q, q ≠ w.port → (t.port q).errors = (s.port q).errors ∧
        (∀ code, (s.port q).slot = .busy code → (t.port q).slot = .ready ⟨code, .aborted, .empty⟩ ∧
          ((s.port q).stretch ≠ none → (t.port q).stretch = none ∧ (t.port q).collided = false ∧
            ∃ status, (t.port q).reading = some ⟨status, .reply ⟨code, .aborted, .empty⟩, true⟩)) ∧
        ((s.port q).stretch = none →
          ((s.port q).reading = none → (t.port q).reading = none) ∧
          (∀ r, (s.port q).reading = some r → (∀ n, r.record ≠ .notice n) → (t.port q).reading = some r) ∧
          (∀ r n, (s.port q).reading = some r → r.record = .notice n →
            (t.port q).reading = some ⟨r.status, .notice n, false⟩ ∧ exec (.recordDelivery q) t = .next t)) ∧
        (∀ r, (s.port q).slot = .ready r → (t.port q).slot = .ready r) ∧
        ((s.port q).slot = .empty → (t.port q).slot = .empty)) ∧
      (t.port w.port).reading = none ∧
      (t.port w.port).slot = .ready ⟨0x03, .ok, .service .closed⟩

/-- SET LIMITS stores the refire limit, a value above 7 as 7 with CLAMPED, in CLOSED only (R12); STATUS reports the service and the issuing
port and changes nothing else (R13). The port's error counter is reported as the hand-over left it (assumption 12). -/
def Obligations.LimitsAndStatus : Prop :=
  ∀ (w : Written) (s : State),
    (∀ v : Byte, Takes .setLimits w s → paramsOf w.body = some [v] →
      (s.service = .closed →
        exec (.setLimits w) s = .next ({ s with refireLimit := min v.toNat 7 }.answered w.port
          ⟨0x04, if 7 < v.toNat then .clamped else .ok, .limit (min v.toNat 7)⟩)) ∧
      (s.service ≠ .closed → exec (.setLimits w) s = .next (s.answered w.port ⟨0x04, .frozen, .empty⟩))) ∧
    (Takes .status w s → paramsOf w.body = some [] →
      exec (.status w) s = .next (s.answered w.port ⟨0x05, .ok, .status
        { service := s.service
          clock := s.clock
          tickets := s.tickets.length
          lines := (s.tickets.map fun t => t.lines.length).sum
          slips := s.slips.length
          refireLimit := s.refireLimit
          ticketsLeft := if s.ticketsExhausted then 0 else 65536 - s.nextTicket
          slipsLeft := if s.slipsExhausted then 0 else 65536 - s.nextSlip
          collided := (s.port w.port).collided
          overrun := (s.port w.port).overrun
          muted := (s.port w.port).muted
          errors := (s.port w.port).errorsAfter }⟩))

/-! ## The wave table -/

/-- DEFINE WAVE clamps its sweep in the order of R17 and opens a FREE wave with it, CLAMPED where a value changed (R16, R17); it is refused
with NOT_OPEN in DRAINING and with BAD_STATE where the wave is not FREE (R16). -/
def Obligations.DefineWaveClamps : Prop :=
  ∀ (w : Written) (s : State) (v : WaveId) (f1 f0 n flags s1 s0 i1 i0 : Byte), Takes .defineWave w s →
    paramsOf w.body = some [byte v.val, f1, f0, n, flags, s1, s0, i1, i0] →
    (s.service = .draining → exec (.defineWave w) s = .next (s.answered w.port ⟨0x10, .notOpen, .empty⟩)) ∧
    (s.service ≠ .draining → (s.wave v).state ≠ .free →
      exec (.defineWave w) s = .next (s.answered w.port ⟨0x10, .badState, .empty⟩)) ∧
    (s.service ≠ .draining → (s.wave v).state = .free →
      ∃ first count interval : Nat, ∃ stored given : Sweep,
        first = min (f1.toNat * 256 + f0.toNat) 1023 ∧
        count = min (max 1 (min 64 n.toNat)) (1024 - first) ∧
        interval = min (i1.toNat * 256 + i0.toNat) 600 ∧
        stored = ⟨first, count, if flags.getLsbD 0 then .down else .up, flags.getLsbD 1, s1.toNat * 256 + s0.toNat, interval⟩ ∧
        given = ⟨f1.toNat * 256 + f0.toNat, n.toNat, if flags.getLsbD 0 then .down else .up, flags.getLsbD 1,
          s1.toNat * 256 + s0.toNat, i1.toNat * 256 + i0.toNat⟩ ∧
        exec (.defineWave w) s = .next ({ s with waves := s.waves.set v ⟨.opened, stored, false, none⟩ }.answered w.port
          ⟨0x10, if stored = given then .ok else .clamped, .sweep stored⟩))

/-- The sweep position of a table (R18): the offset, mirrored for DOWN, split for interlace; the positions of a wave's tables are a
permutation of 0 to n - 1. -/
def Obligations.SweepPositionsPermute : Prop :=
  ∀ v : Sweep, 1 ≤ v.count →
    (∀ t, v.first ≤ t → t ≤ v.first + v.count - 1 →
      ∃ o, o = (if v.direction = .down then v.count - 1 - (t - v.first) else t - v.first) ∧
        (v.interlace = false → v.position t = o) ∧
        (v.interlace = true → o % 2 = 0 → v.position t = o / 2) ∧
        (v.interlace = true → o % 2 = 1 → v.position t = (v.count + 1) / 2 + (o - 1) / 2) ∧
        v.position t < v.count) ∧
    ∀ p, p < v.count → ∃! t, v.first ≤ t ∧ t ≤ v.first + v.count - 1 ∧ v.position t = p

/-- SEAL WAVE (R21, R22): NO_WAVE for a FREE wave, no change for a SEALED one; an OPEN wave with a ticket or a slip becomes SEALED and keeps
the rest; one with neither becomes FREE at once with WAVE_FREE at the pass and monitor ports, the issuing one among them; a delay in
flight on it ends within the freeing, its reply counting the slips left on its list as passed over (R28, R29). -/
def Obligations.SealWaveSeals : Prop :=
  ∀ (w : Written) (s : State) (v : WaveId), Takes .sealWave w s → paramsOf w.body = some [byte v.val] →
    ((s.wave v).state = .free → exec (.sealWave w) s = .next (s.answered w.port ⟨0x11, .noWave, .empty⟩)) ∧
    ((s.wave v).state = .sealed → exec (.sealWave w) s = .next (s.answered w.port ⟨0x11, .ok, .waveState .sealed⟩)) ∧
    ((s.wave v).state = .opened → ¬(s.ticketCount v = 0 ∧ s.slipCount v = 0) →
      exec (.sealWave w) s = .next ({ s with waves := s.waves.set v { s.wave v with state := .sealed } }.answered w.port
        ⟨0x11, .ok, .waveState .sealed⟩)) ∧
    ((s.wave v).state = .opened → s.ticketCount v = 0 → s.slipCount v = 0 →
      ∃ t, exec (.sealWave w) s = .next t ∧ t = { s with waves := t.waves, ports := t.ports } ∧
        (t.wave v).state = .free ∧ (t.wave v).hold = false ∧ (t.wave v).delay = none ∧ (∀ u, u ≠ v → t.wave u = s.wave u) ∧
        t.port w.port = ((s.port w.port).append ⟨s.clock, .waveFree v⟩).answered ⟨0x11, .ok, .waveState .free⟩ ∧
        (∀ q, q ≠ w.port → (∀ d, (s.wave v).delay = some d → q ≠ d.port) → t.port q =
          if (s.port q).role = .pass ∨ (s.port q).role = .monitor then (s.port q).append ⟨s.clock, .waveFree v⟩ else s.port q) ∧
        ∀ d, (s.wave v).delay = some d → d.port ≠ w.port →
          (t.port d.port).slot = .ready ⟨0x14, if d.clamped then .clamped else .ok,
            .delay v (s.wave v).sweep.start d.amount d.shifted d.unchanged (d.passed + d.slips.length)⟩ ∧
          (t.port d.port).attention = .asserted ∧ (t.port d.port).stretch = none ∧
          ((s.port d.port).role = .pass ∨ (s.port d.port).role = .monitor → (t.port d.port).Told ⟨s.clock, .waveFree v⟩))

/-- HOLD WAVE sets the hold flag of a wave that is not FREE and changes nothing else (R23); RELEASE WAVE of a wave that is not held changes
nothing (R24); both are refused with NO_WAVE for a FREE wave (R15). -/
def Obligations.HoldSetAndReleaseOfUnheld : Prop :=
  ∀ (w : Written) (s : State) (v : WaveId), paramsOf w.body = some [byte v.val] →
    (Takes .holdWave w s →
      ((s.wave v).state = .free → exec (.holdWave w) s = .next (s.answered w.port ⟨0x12, .noWave, .empty⟩)) ∧
      ((s.wave v).state ≠ .free →
        exec (.holdWave w) s = .next ({ s with waves := s.waves.set v { s.wave v with hold := true } }.answered w.port
          ⟨0x12, .ok, .hold true⟩))) ∧
    (Takes .releaseWave w s →
      ((s.wave v).state = .free → exec (.releaseWave w) s = .next (s.answered w.port ⟨0x13, .noWave, .empty⟩)) ∧
      ((s.wave v).state ≠ .free → (s.wave v).hold = false →
        exec (.releaseWave w) s = .next (s.answered w.port ⟨0x13, .ok, .hold false⟩)))

/-- RELEASE WAVE of a held wave clears the flag; each OPEN station whose queue holds a slip of the wave then calls until none of its slips
is eligible, and a station that is not OPEN calls nothing (R24). Every slip stays, and only PENDING slips that are due at an OPEN
station, their wave not held, are called (R106, R108). -/
def Obligations.ReleaseWaveCalls : Prop :=
  ∀ (w : Written) (s : State) (v : WaveId), Takes .releaseWave w s → paramsOf w.body = some [byte v.val] →
    (s.wave v).state ≠ .free → (s.wave v).hold = true →
    ∃ t, exec (.releaseWave w) s = .next t ∧
      t = { s with waves := t.waves, tickets := t.tickets, slips := t.slips, ports := t.ports } ∧
      (t.wave v).hold = false ∧ (t.wave v).state = (s.wave v).state ∧ (t.wave v).sweep = (s.wave v).sweep ∧
      (∀ u, u ≠ v → (t.wave u).state = (s.wave u).state ∧ (t.wave u).sweep = (s.wave u).sweep ∧ (t.wave u).hold = (s.wave u).hold) ∧
      (∀ st, (s.station st).state = .opened → (∃ x ∈ s.queue st, x.wave = v) → ∀ x ∈ t.queue st, t.eligible st x = false) ∧
      (s.RecordsSound → ∀ st, (s.station st).state ≠ .opened → t.busySet st = s.busySet st) ∧
      (s.RecordsSound →
        List.Forall₂ ({ s with waves := s.waves.set v { s.wave v with hold := false } } : State).Considers s.slips t.slips ∧
        (∀ u, (t.wave u).delay = (s.waveMarked t u).delay) ∧
        ∀ st, (∀ x ∈ s.queue st, x.wave ≠ v) → ∀ x ∈ s.slips, x.station = st → x ∈ t.slips) ∧
      (t.port w.port).slot = .ready ⟨0x13, .ok, .hold false⟩

/-- FIRE WAVE (R30): refused with NO_WAVE for a FREE wave and WAVE_BUSY under a delay; else every PENDING slip of the wave takes the clock
as its fire time, with CHANGED at its station's bound port where it is previewed and the time moved (R93), every other slip keeps its
own, the start time stays, and the reply counts the fire times that changed. Each station whose queue holds a slip of the wave then
considers to the end (R107); no other station does, and every slip stays. -/
def Obligations.FireWaveMovesFireTimes : Prop :=
  ∀ (w : Written) (s : State) (v : WaveId), Takes .fireWave w s → paramsOf w.body = some [byte v.val] →
    ((s.wave v).state = .free → exec (.fireWave w) s = .next (s.answered w.port ⟨0x15, .noWave, .empty⟩)) ∧
    ((s.wave v).state ≠ .free → (s.wave v).delay ≠ none →
      exec (.fireWave w) s = .next (s.answered w.port ⟨0x15, .waveBusy, .empty⟩)) ∧
    ((s.wave v).state ≠ .free → (s.wave v).delay = none → s.RecordsSound →
      ∃ t, exec (.fireWave w) s = .next t ∧
        t = { s with waves := t.waves, tickets := t.tickets, slips := t.slips, ports := t.ports } ∧
        (∀ u, t.wave u = s.waveMarked t u) ∧
        (∀ x ∈ s.slips, x.wave = v → x.isPending = true → ∃ y ∈ t.slips, y.number = x.number ∧ y.fire = s.clock) ∧
        (∀ x ∈ s.slips, ¬(x.wave = v ∧ x.isPending = true) → ∃ y ∈ t.slips, y.number = x.number ∧ y.fire = x.fire) ∧
        (∀ x ∈ s.slips, x.wave = v → x.isPending = true → x.previewed = true → x.fire ≠ s.clock →
          ∀ q, s.isBound x.station q = true →
            (t.port q).Told ⟨s.clock, .changed x.number x.station x.item .pending s.clock x.portions x.members.length⟩) ∧
        List.Forall₂ s.Considers
          (s.slips.map fun x => if x.wave = v ∧ x.isPending = true then { x with fire := s.clock } else x) t.slips ∧
        (∀ st, (∃ x ∈ s.queue st, x.wave = v) → t.Settled st) ∧
        (∀ st, (∀ x ∈ s.queue st, x.wave ≠ v) → ∀ x ∈ s.slips, x.station = st → x ∈ t.slips) ∧
        (t.port w.port).slot = .ready ⟨0x15, .ok, .fired
          (s.slips.filter fun x => decide (x.wave = v) && x.isPending && decide (x.fire ≠ s.clock)).length⟩)

/-- DELAY WAVE (R25): NO_WAVE for a FREE wave, WAVE_BUSY under a delay; the amount is clamped to -600 to 3600; an amount of 0 changes
nothing; any other moves the start time, clamped to 0 to 65535, and, where slips of the wave are PENDING, leaves the command in flight
with those slips listed in ascending number; where none is, the reply is given at once (R29). The unchanged count of an amount of 0 is
the model's reading (assumption 23). -/
def Obligations.DelayWaveStarts : Prop :=
  ∀ (w : Written) (s : State) (v : WaveId) (d1 d0 : Byte), Takes .delayWave w s → paramsOf w.body = some [byte v.val, d1, d0] →
    ((s.wave v).state = .free → exec (.delayWave w) s = .next (s.answered w.port ⟨0x14, .noWave, .empty⟩)) ∧
    ((s.wave v).state ≠ .free → (s.wave v).delay ≠ none →
      exec (.delayWave w) s = .next (s.answered w.port ⟨0x14, .waveBusy, .empty⟩)) ∧
    ((s.wave v).state ≠ .free → (s.wave v).delay = none →
      ∃ (given amount : Int) (start : Nat) (list : List (Nat × Bool)),
        given = (if d1.toNat < 128 then (d1.toNat * 256 + d0.toNat : Int) else d1.toNat * 256 + d0.toNat - 65536) ∧
        amount = max (-600) (min 3600 given) ∧
        (start : Int) = max 0 (min 65535 ((s.wave v).sweep.start + amount)) ∧
        list = (s.slips.filter fun x => decide (x.wave = v) && x.isPending).map (fun x => (x.number, false)) ∧
        (amount = 0 →
          exec (.delayWave w) s = .next (s.answered w.port ⟨0x14, .ok, .delay v (s.wave v).sweep.start 0 0 0 0⟩)) ∧
        (amount ≠ 0 → list = [] →
          exec (.delayWave w) s = .next
            ({ s with waves := s.waves.set v { s.wave v with sweep := { (s.wave v).sweep with start := start } } }.answered w.port
              ⟨0x14, if amount = given then .ok else .clamped, .delay v start amount 0 0 0⟩)) ∧
        (amount ≠ 0 → list ≠ [] →
          exec (.delayWave w) s = .next
            { s with
              waves := s.waves.set v
                { s.wave v with
                  sweep := { (s.wave v).sweep with start := start }
                  delay := some ⟨amount, list, w.port, decide (amount ≠ given), 0, 0, 0⟩ }
              ports := s.ports.set w.port ((s.port w.port).inFlight .delayWave) }))

/-- A delay reaches the lowest number of its list (R26): a marked slip is passed over and nothing is done to it; an unmarked one takes its
fire time plus the amount or the clock, whichever is later, is counted as shifted or unchanged by whether that changed it, with CHANGED
at its station's bound port where it is previewed and did, and its station then considers (assumption 7 reads the rule so for a slip
that did not change). Nothing else moves. When the list is then empty the delay ends and its reply, with the start time, the amount and
the three counts, is placed at the port that issued it (R29). A reach with no delay in flight changes nothing (assumption 18), and one
that finds the list emptied by an evacuation ends the delay (assumption 7). -/
def Obligations.DelayReachMovesOne : Prop :=
  ∀ (s : State) (v : WaveId),
    ((s.wave v).delay = none → exec (.delayReach v) s = .next s) ∧
    ∀ (d : Delay) (ended : State → Nat → Nat → Nat → State), (s.wave v).delay = some d →
      (∀ u moved same passed, ended u moved same passed =
        ({ u with waves := u.waves.set v { u.wave v with delay := none } } : State).reply d.port
          ⟨0x14, if d.clamped then .clamped else .ok, .delay v (s.wave v).sweep.start d.amount moved same passed⟩) →
      (d.slips = [] → exec (.delayReach v) s = .next (ended s d.shifted d.unchanged d.passed)) ∧
      ∀ (n : Nat) (left : Bool) (rest : List (Nat × Bool)), d.slips = (n, left) :: rest →
        ∃ (u : State) (moved same passed : Nat),
          (rest ≠ [] → exec (.delayReach v) s = .next u) ∧
          (rest = [] → exec (.delayReach v) s = .next (ended u moved same passed)) ∧
          (left = true → moved = d.shifted ∧ same = d.unchanged ∧ passed = d.passed + 1 ∧
            u = { s with waves := s.waves.set v { s.wave v with delay := some ⟨d.amount, rest, d.port, d.clamped, moved, same, passed⟩ } }) ∧
          (left = false → ∀ x, s.slip? n = some x → ∀ fire : Nat,
            (fire : Int) = max (max 0 (min 65535 ((x.fire : Int) + d.amount))) s.clock →
            passed = d.passed ∧
            (fire = x.fire → moved = d.shifted ∧ same = d.unchanged + 1) ∧
            (fire ≠ x.fire → moved = d.shifted + 1 ∧ same = d.unchanged) ∧
            ∀ r : State,
              r = { s with
                waves := s.waves.set v { s.wave v with delay := some ⟨d.amount, rest, d.port, d.clamped, moved, same, passed⟩ }
                slips := s.slips.map fun y => if y.number = n ∧ fire ≠ x.fire then { y with fire := fire } else y } →
              (fire ≠ x.fire ∧ x.previewed = true → u = (r.post (s.isBound x.station)
                (.changed n x.station x.item x.state fire x.portions x.members.length)).consider x.station) ∧
              (¬(fire ≠ x.fire ∧ x.previewed = true) → u = r.consider x.station))

/-- QUERY WAVE (R31): 0 in every field for a FREE wave; else the wave record, with the amount and the count left while a delay is in
flight. With none in flight those two fields are free values (assumption 4), which this statement leaves open. -/
def Obligations.QueryWaveReports : Prop :=
  ∀ (w : Written) (s : State) (v : WaveId), Takes .queryWave w s → paramsOf w.body = some [byte v.val] →
    ((s.wave v).state = .free → exec (.queryWave w) s = .next (s.answered w.port ⟨0x16, .ok, .freeWave⟩)) ∧
    (∀ d, (s.wave v).state ≠ .free → (s.wave v).delay = some d →
      exec (.queryWave w) s = .next (s.answered w.port ⟨0x16, .ok, .wave
        { state := (s.wave v).state, sweep := (s.wave v).sweep, hold := (s.wave v).hold, delayed := true
          delayAmount := BitVec.ofInt 16 d.amount, delayLeft := BitVec.ofNat 16 d.slips.length
          tickets := (s.tickets.filter fun t => t.wave == v).length
          slips := (s.slips.filter fun x => x.wave == v).length
          pending := (s.slips.filter fun x => x.wave == v && x.isPending).length }⟩)) ∧
    ((s.wave v).state ≠ .free → (s.wave v).delay = none →
      ∃ amount left : BitVec 16, exec (.queryWave w) s = .next ({ s with freeCount := s.freeCount + 1 }.answered w.port ⟨0x16, .ok, .wave
        { state := (s.wave v).state, sweep := (s.wave v).sweep, hold := (s.wave v).hold, delayed := false
          delayAmount := amount, delayLeft := left
          tickets := (s.tickets.filter fun (t : Ticket) => t.wave == v).length
          slips := (s.slips.filter fun (x : Slip) => x.wave == v).length
          pending := (s.slips.filter fun (x : Slip) => x.wave == v && x.isPending).length }⟩))

/-! ## The menu store -/

/-- SET ITEM in CLOSED overwrites the item's entry in place, or takes the lowest free index, or is refused with MENU_FULL where all 256 are
taken; the cook time and the batch limit are clamped (R34, R35); in service it is refused with FROZEN. -/
def Obligations.SetItemWrites : Prop :=
  ∀ (w : Written) (s : State) (c : ItemCode) (st : StationId) (i1 i0 c1 c0 batch : Byte), Takes .setItem w s →
    i1.toNat * 256 + i0.toNat = c.toNat → paramsOf w.body = some [i1, i0, byte st.val, c1, c0, batch] →
    (s.service ≠ .closed → exec (.setItem w) s = .next (s.answered w.port ⟨0x20, .frozen, .empty⟩)) ∧
    (s.service = .closed → s.MenuSound →
      ∃ cook limit : Nat, ∃ status : Status,
        cook = min (c1.toNat * 256 + c0.toNat) 5400 ∧ limit = max 1 (min 64 batch.toNat) ∧
        status = (if cook = c1.toNat * 256 + c0.toNat ∧ limit = batch.toNat then .ok else .clamped) ∧
        (∀ e ∈ s.menu, e.item = c →
          ∃ menu, exec (.setItem w) s = .next ({ s with menu := menu }.answered w.port
              ⟨0x20, status, .itemSet ⟨e.index, c, st, cook, limit⟩ true⟩) ∧
            ∀ f, f ∈ menu ↔ f = ⟨e.index, c, st, cook, limit⟩ ∨ f ∈ s.menu ∧ f.item ≠ c) ∧
        (∀ i, (∀ e ∈ s.menu, e.item ≠ c) → i < 256 → (∀ e ∈ s.menu, e.index ≠ i) → (∀ j, j < i → ∃ e ∈ s.menu, e.index = j) →
          ∃ menu, exec (.setItem w) s = .next ({ s with menu := menu }.answered w.port
              ⟨0x20, status, .itemSet ⟨i, c, st, cook, limit⟩ false⟩) ∧
            ∀ f, f ∈ menu ↔ f = ⟨i, c, st, cook, limit⟩ ∨ f ∈ s.menu) ∧
        ((∀ e ∈ s.menu, e.item ≠ c) → (∀ j, j < 256 → ∃ e ∈ s.menu, e.index = j) →
          exec (.setItem w) s = .next (s.answered w.port ⟨0x20, .menuFull, .empty⟩)))

/-- CLEAR ITEM removes the item's entry and CLEAR MENU every entry, in CLOSED; the reply gives the index, or the count of entries cleared;
UNKNOWN_ITEM for an item with no entry, FROZEN in service (R36, R37). -/
def Obligations.MenuEntriesCleared : Prop :=
  ∀ (w : Written) (s : State),
    (∀ (c : ItemCode) (i1 i0 : Byte), Takes .clearItem w s → i1.toNat * 256 + i0.toNat = c.toNat → paramsOf w.body = some [i1, i0] →
      (s.service ≠ .closed → exec (.clearItem w) s = .next (s.answered w.port ⟨0x21, .frozen, .empty⟩)) ∧
      (s.service = .closed → (∀ e ∈ s.menu, e.item ≠ c) →
        exec (.clearItem w) s = .next (s.answered w.port ⟨0x21, .unknownItem, .empty⟩)) ∧
      (s.service = .closed → s.MenuSound → ∀ e ∈ s.menu, e.item = c →
        exec (.clearItem w) s = .next ({ s with menu := s.menu.filter fun f => decide (f.item ≠ c) }.answered w.port
          ⟨0x21, .ok, .itemCleared e.index⟩))) ∧
    (Takes .clearMenu w s → paramsOf w.body = some [] →
      (s.service ≠ .closed → exec (.clearMenu w) s = .next (s.answered w.port ⟨0x22, .frozen, .empty⟩)) ∧
      (s.service = .closed → exec (.clearMenu w) s = .next ({ s with menu := [] }.answered w.port
        ⟨0x22, .ok, .menuCleared s.menu.length⟩)))

/-- QUERY ITEM reports an item's entry, its mark and the count of entries (R38); SET DIVERSION writes an entry whole in CLOSED and is
refused with FROZEN in service; QUERY DIVERSION returns an entry (R45). The queries change nothing but the port. -/
def Obligations.MenuTablesReported : Prop :=
  ∀ (w : Written) (s : State),
    (∀ (c : ItemCode) (i1 i0 : Byte), Takes .queryItem w s → i1.toNat * 256 + i0.toNat = c.toNat → paramsOf w.body = some [i1, i0] →
      ((∀ e ∈ s.menu, e.item ≠ c) →
        exec (.queryItem w) s = .next (s.answered w.port ⟨0x23, .ok, .item c none (s.outBoard.contains c) s.menu.length⟩)) ∧
      (s.MenuSound → ∀ e ∈ s.menu, e.item = c →
        exec (.queryItem w) s = .next (s.answered w.port ⟨0x23, .ok, .item c (some e) (s.outBoard.contains c) s.menu.length⟩))) ∧
    (∀ (i : DiversionId) (flags c1 c0 m1 m0 mods : Byte) (code mask : ItemCode) (st : StationId), Takes .setDiversion w s →
      c1.toNat * 256 + c0.toNat = code.toNat → m1.toNat * 256 + m0.toNat = mask.toNat →
      paramsOf w.body = some [byte i.val, flags, c1, c0, m1, m0, mods, byte st.val] →
      (s.service ≠ .closed → exec (.setDiversion w) s = .next (s.answered w.port ⟨0x24, .frozen, .empty⟩)) ∧
      (s.service = .closed →
        exec (.setDiversion w) s = .next ({ s with diversions := s.diversions.set i ⟨flags.getLsbD 0, code, mask, mods, st⟩ }.answered
          w.port ⟨0x24, .ok, .diversion i ⟨flags.getLsbD 0, code, mask, mods, st⟩⟩))) ∧
    ∀ i : DiversionId, Takes .queryDiversion w s → paramsOf w.body = some [byte i.val] →
      exec (.queryDiversion w) s = .next (s.answered w.port ⟨0x25, .ok, .diversion i s.diversions[i]⟩)

/-- A diversion entry matches a line when it is enabled, the item code agrees with the entry's code wherever the code mask is 1, and the
modifier mask is 00h or shares a flag with the line; of the entries that match, the lowest index decides, and with none the menu
entry's station (R46, R47 step 3). The station so found routes the line: an UNUSED one gives no route, an OPEN or PAUSED one is the route, and
a DOWN one gives way to its backup where that is OPEN or PAUSED, and is itself the route where it names none or its backup is DOWN or
UNUSED, whatever that backup's own backup is (R47 steps 4 and 5, R48). -/
def Obligations.DiversionMatching : Prop :=
  (∀ (d : Diversion) (c : ItemCode) (mods : Modifiers),
    d.isMatch c mods = true ↔
      d.enabled = true ∧ (∀ k, k < 12 → d.mask.getLsbD k = true → c.getLsbD k = d.code.getLsbD k) ∧
        (d.modifiers = 0 ∨ ∃ k, k < 8 ∧ d.modifiers.getLsbD k = true ∧ mods.getLsbD k = true)) ∧
  ∀ (s : State) (c : ItemCode) (mods : Modifiers),
    (∀ i : DiversionId, (s.diversions[i]).isMatch c mods = true →
      (∀ j : DiversionId, j < i → (s.diversions[j]).isMatch c mods = false) →
      s.chosenStation c mods = some (s.diversions[i]).target) ∧
    ((∀ i : DiversionId, (s.diversions[i]).isMatch c mods = false) →
      s.chosenStation c mods = (s.entry? c).map MenuEntry.station) ∧
    ∀ st, s.chosenStation c mods = some st →
      ((s.station st).state = .unused → s.route c mods = none) ∧
      ((s.station st).state = .opened ∨ (s.station st).state = .paused → s.route c mods = some st) ∧
      ((s.station st).state = .down →
        ((s.station st).config.backup = none → s.route c mods = some st) ∧
        ∀ b, (s.station st).config.backup = some b →
          ((s.station b).state = .opened ∨ (s.station b).state = .paused → s.route c mods = some b) ∧
          ((s.station b).state = .down ∨ (s.station b).state = .unused → s.route c mods = some st))

/-- MARK OUT (R39 to R42): no change where the mark is out; in CLOSED the mark alone. In service every WAITING line of the item becomes VOID
and no other line moves; exactly the tickets left all VOID leave the table (R70); the lines leave their PENDING slips, whose portions
drop, and a slip left without members is freed (R89, R90); each ticket hit has its SHORT, each one that leaves its VOIDED, each one that
becomes UP its UP, and a previewed slip its CHANGED or its WITHDRAWN (EMPTIED); the reply counts the lines and their tickets. A SEALED wave
that this leaves with no ticket and no slip is freed, with WAVE_FREE at the pass and monitor ports (R22); every other wave keeps all but
the left-PENDING marks of the freed slips on its delay list (R26, R27). No station's configuration, state, lag or missed takes change, and
an evacuation ends, with EVACUATED, exactly where its queue is emptied (R128). The last ticket to leave in DRAINING closes the service: the
TAKEN slips are discarded, every wave is FREE, and SERVICE (CLOSED) is last at every port (R8, R9). -/
def Obligations.MarkOutVoidsWaiting : Prop :=
  ∀ (w : Written) (s : State) (c : ItemCode) (i1 i0 : Byte), Takes .markOut w s → i1.toNat * 256 + i0.toNat = c.toNat →
    paramsOf w.body = some [i1, i0] →
    (c ∈ s.outBoard → exec (.markOut w) s = .next (s.answered w.port ⟨0x26, .ok, .markedOut c true 0 0⟩)) ∧
    (c ∉ s.outBoard → s.service = .closed →
      ∃ out, exec (.markOut w) s = .next ({ s with outBoard := out }.answered w.port ⟨0x26, .ok, .markedOut c true 0 0⟩) ∧
        ∀ d, d ∈ out ↔ d = c ∨ d ∈ s.outBoard) ∧
    (c ∉ s.outBoard → s.service ≠ .closed → s.RecordsSound → s.MembersSound →
      ∃ t, exec (.markOut w) s = .next t ∧
        t = { s with
          service := t.service, secondTimer := t.secondTimer, waves := t.waves, outBoard := t.outBoard, tickets := t.tickets
          slips := t.slips, stations := t.stations, ports := t.ports } ∧
        (∀ d, d ∈ t.outBoard ↔ d = c ∨ d ∈ s.outBoard) ∧
        t.tickets = (s.tickets.map (Ticket.markedOut c)).filter (fun k => k.lines.any fun l => decide (l.state ≠ .void)) ∧
        (s.service = .draining → s.tickets ≠ [] → t.tickets = [] → t.service = .closed ∧ t.secondTimer = none ∧ t.slips = [] ∧
          (∀ x ∈ s.slips, x.isTaken = true → ∀ q, s.isBound x.station q = true →
            (t.port q).Told ⟨s.clock, .withdrawn x.number x.station x.item .discarded none⟩) ∧
          (s.WavesSound → ∀ v, (t.wave v).state = .free ∧ (t.wave v).delay = none ∧
            ((s.wave v).state ≠ .free → (t.wave v).hold = false ∧ ∀ q, s.watchers q = true → (t.port q).Told ⟨s.clock, .waveFree v⟩)) ∧
          ∀ q, (t.port q).ToldLast ⟨s.clock, .service .closed .closed⟩) ∧
        (¬(s.service = .draining ∧ s.tickets ≠ [] ∧ t.tickets = []) →
          t.service = s.service ∧ t.secondTimer = s.secondTimer ∧ (∀ st, (t.station st).due = (s.station st).due) ∧
          t.slips = (s.slips.map (s.slipMarkedOut c)).filter (fun x => decide (x.members ≠ []) || x.isTaken) ∧
          ∀ v,
            ((s.wave v).state = .sealed → t.ticketCount v = 0 → t.slipCount v = 0 → ¬(s.ticketCount v = 0 ∧ s.slipCount v = 0) →
              (t.wave v).state = .free ∧ (t.wave v).hold = false ∧ (t.wave v).delay = none ∧
              ∀ q, s.watchers q = true → (t.port q).Told ⟨s.clock, .waveFree v⟩) ∧
            (¬((s.wave v).state = .sealed ∧ t.ticketCount v = 0 ∧ t.slipCount v = 0) →
              t.wave v = { s.wave v with delay := (s.wave v).delay.map fun d => { d with slips := d.slips.map fun e =>
                (e.1, e.2 || s.slips.any fun x =>
                  decide (x.number = e.1 ∧ x.wave = v ∧ x.isPending = true ∧ (s.slipMarkedOut c x).members = [])) } })) ∧
        (∀ st, (t.station st).config = (s.station st).config ∧ (t.station st).state = (s.station st).state ∧
          (t.station st).lag = (s.station st).lag ∧ (t.station st).missed = (s.station st).missed ∧
          ((t.station st).evacuating = true ↔ (s.station st).evacuating = true ∧ (t.queue st ≠ [] ∨ s.queue st = [])) ∧
          ((s.station st).evacuating = true → (t.station st).evacuating = false → ∀ q, s.watchersOf st q = true →
            (t.port q).Told ⟨s.clock, .stationState st .down .evacuated (s.station st).config.backup 0⟩)) ∧
        (∀ k ∈ s.tickets, k.lines.any (Line.hit c) = true → ∀ q, s.watchersAnd k.origin q = true →
          (∃ voids, (t.port q).Told ⟨s.clock, .short k.number c voids⟩ ∧
            ∀ i, i < 16 → (voids.getLsbD i = true ↔ ∃ l, k.lines[i]? = some l ∧ l.hit c = true)) ∧
          ((∀ l ∈ (k.markedOut c).lines, l.state = .void) → (t.port q).Told ⟨s.clock, .voided k.number .allVoid⟩) ∧
          (k.state ≠ .up → (k.markedOut c).state = .up →
            (t.port q).Told ⟨s.clock, .up k.number k.wave k.table (s.target k) k.late⟩)) ∧
        (∀ x ∈ s.slips, x.isPending = true → x.previewed = true → x.members.any (s.hitMember c) = true →
          ∀ q, s.isBound x.station q = true →
          ((s.slipMarkedOut c x).members = [] →
            (t.port q).Told ⟨s.clock, .withdrawn x.number x.station x.item .emptied none⟩) ∧
          ((s.slipMarkedOut c x).members ≠ [] → (t.port q).Told ⟨s.clock, .changed x.number x.station x.item .pending x.fire
            (s.slipMarkedOut c x).portions (s.slipMarkedOut c x).members.length⟩)) ∧
        (t.port w.port).slot = .ready ⟨0x26, .ok, .markedOut c true
          (s.tickets.map fun k => (k.lines.filter (Line.hit c)).length).sum
          (s.tickets.filter fun k => k.lines.any (Line.hit c)).length⟩)

/-- MARK IN takes the item off the out board, where it stands there, and changes nothing else: lines voided before stay VOID (R43). -/
def Obligations.MarkInClears : Prop :=
  ∀ (w : Written) (s : State) (c : ItemCode) (i1 i0 : Byte), Takes .markIn w s → i1.toNat * 256 + i0.toNat = c.toNat →
    paramsOf w.body = some [i1, i0] →
    exec (.markIn w) s = .next ({ s with outBoard := s.outBoard.filter fun d => decide (d ≠ c) }.answered w.port
      ⟨0x27, .ok, .markedIn c false⟩)

/-! ## The ticket board -/

/-- The eleven checks of SUBMIT TICKET in their order (R60 to R62): the first that fails refuses the ticket with the status named, and
nothing changes but the port. -/
def Obligations.SubmitChecksInOrder : Prop :=
  ∀ (w : Written) (s : State) (a : Submission), Takes .submitTicket w s → (paramsOf w.body).bind parseSubmit = some a →
    ∀ refuse : Status → ReplyData → Prop,
      (refuse = fun st d => exec (.submitTicket w) s = .next (s.answered w.port ⟨0x30, st, d⟩)) →
    (s.service ≠ .opened → refuse .notOpen .empty) ∧
    (s.service = .opened →
      ((s.wave a.wave).state = .free → refuse .noWave .empty) ∧
      ((s.wave a.wave).state = .sealed → refuse .waveSealed .empty) ∧
      ((s.wave a.wave).state = .opened →
        (¬((s.wave a.wave).sweep.first ≤ a.table ∧
            a.table ≤ (s.wave a.wave).sweep.first + (s.wave a.wave).sweep.count - 1) → refuse .outsideSweep .empty) ∧
        ((s.wave a.wave).sweep.first ≤ a.table → a.table ≤ (s.wave a.wave).sweep.first + (s.wave a.wave).sweep.count - 1 →
          ((∃ k ∈ s.tickets, k.wave = a.wave ∧ k.table = a.table) → refuse .duplicate .empty) ∧
          ((∀ k ∈ s.tickets, ¬(k.wave = a.wave ∧ k.table = a.table)) →
            (¬(1 ≤ a.lines.length ∧ a.lines.length ≤ 12) → refuse .malformed (.lineIndex 255)) ∧
            (1 ≤ a.lines.length → a.lines.length ≤ 12 →
              (∀ i e, a.lines[i]? = some e → ¬(1 ≤ e.qty ∧ e.qty ≤ 24) →
                (∀ j f, j < i → a.lines[j]? = some f → 1 ≤ f.qty ∧ f.qty ≤ 24) → refuse .malformed (.lineIndex i)) ∧
              ((∀ e ∈ a.lines, 1 ≤ e.qty ∧ e.qty ≤ 24) →
                (∀ i e, a.lines[i]? = some e → s.entry? e.item = none →
                  (∀ j f, j < i → a.lines[j]? = some f → s.entry? f.item ≠ none) → refuse .unknownItem (.lineIndex i)) ∧
                ((∀ e ∈ a.lines, s.entry? e.item ≠ none) →
                  (∀ i e, a.lines[i]? = some e → e.item ∉ s.outBoard → s.route e.item e.modifiers = none →
                    (∀ j f, j < i → a.lines[j]? = some f → f.item ∉ s.outBoard → s.route f.item f.modifiers ≠ none) →
                    refuse .noStation (.lineIndex i)) ∧
                  ((∀ e ∈ a.lines, e.item ∉ s.outBoard → s.route e.item e.modifiers ≠ none) →
                    ((∀ e ∈ a.lines, e.item ∈ s.outBoard) → refuse .allOut .empty) ∧
                    ((∃ e ∈ a.lines, e.item ∉ s.outBoard) →
                      (512 ≤ s.tickets.length ∨ s.ticketsExhausted = true → refuse .ticketsFull .empty) ∧
                      (s.tickets.length < 512 → s.ticketsExhausted = false →
                        (2048 < (s.tickets.map fun k => k.lines.length).sum + a.lines.length → refuse .linesFull .empty) ∧
                        ((s.tickets.map fun k => k.lines.length).sum + a.lines.length ≤ 2048 →
                          (1024 < s.slips.length + (a.lines.filter fun e => !s.outBoard.contains e.item).length ∨
                            (if s.slipsExhausted then 0 else 65536 - s.nextSlip) <
                              (a.lines.filter fun e => !s.outBoard.contains e.item).length → refuse .slipsFull .empty))))))))))))

/-- A submission that passes every check enters a ticket with the next number (R63, R64): its origin, wave, table, position and accept time,
a line per entry, VOID without a station where the item is marked out and WAITING or CALLED at its routed station elsewhere, each in a
slip of its item and wave there that has it as a member: a PRIORITY slip of its own due at the clock for a rush ticket (R83), else a
NORMAL slip due no later than the line was planned (R82, R86, R87). The ticket is late exactly where one of these lines was planned late
(R58). Each slip that was there is as the joins of the ticket's lines left it, or as it was, and the slips made stand after them with the
next numbers (R78, R86, R87); then every station in whose queue a line was placed, one whose slip it joined without a change of fire time
included (R107; assumption 8), has considered to the end (R64), and no other has: its slips are as they were. The reply carries the
projected up time as it then stands (R96). -/
def Obligations.SubmitEntersTicket : Prop :=
  ∀ (w : Written) (s : State) (a : Submission), Takes .submitTicket w s → (paramsOf w.body).bind parseSubmit = some a →
    s.RecordsSound → s.checkSubmission a = none →
    ∃ (t : State) (k : Ticket), exec (.submitTicket w) s = .next t ∧
      t = { s with
        nextTicket := t.nextTicket, ticketsExhausted := t.ticketsExhausted, nextSlip := t.nextSlip
        slipsExhausted := t.slipsExhausted, waves := t.waves, tickets := t.tickets, slips := t.slips, ports := t.ports } ∧
      t.nextTicket = min (s.nextTicket + 1) 65535 ∧ t.ticketsExhausted = decide (s.nextTicket = 65535) ∧
      k ∈ t.tickets ∧ t.tickets.map Ticket.number = s.tickets.map Ticket.number ++ [s.nextTicket] ∧
      k.number = s.nextTicket ∧ k.origin = w.port ∧ k.wave = a.wave ∧ k.table = a.table ∧
      k.position = (s.wave a.wave).sweep.position a.table ∧ k.rush = a.rush ∧ k.exceptional = false ∧ k.refires = 0 ∧
      k.accepted = s.clock ∧ (a.rush = true → k.late = false) ∧ k.lines.length = a.lines.length ∧
      (∀ (i : Nat) (e : LineEntry) (l : Line), a.lines[i]? = some e → k.lines[i]? = some l →
        l.item = e.item ∧ l.qty = e.qty ∧ l.modifiers = e.modifiers ∧
        (e.item ∈ s.outBoard → l.state = .void ∧ l.station = none) ∧
        (e.item ∉ s.outBoard → l.station = s.route e.item e.modifiers ∧
          ∃ x ∈ t.slips, (l.state = .waiting x.number ∨ l.state = .called x.number) ∧ l.station = some x.station ∧
            x.item = e.item ∧ x.wave = a.wave ∧ ⟨s.nextTicket, i, e.qty⟩ ∈ x.members ∧
            (a.rush = true → x.cls = .priority ∧ x.fire = s.clock ∧ x.portions = e.qty ∧ x.members = [⟨s.nextTicket, i, e.qty⟩]) ∧
            (a.rush = false → x.cls = .normal ∧
              x.fire ≤ (planFire (min ((s.wave a.wave).sweep.start + k.position * (s.wave a.wave).sweep.interval) 65535)
                (s.leadTime e.item x.station) s.clock).1))) ∧
      (∀ v, t.wave v = s.waveMarked t v) ∧
      (s.MembersSound → ∀ j ∈ s.tickets, ∃ i ∈ t.tickets, j.Considers i) ∧
      (∃ (plan : ItemCode → StationId → Nat × Bool) (placed : Member → ItemCode → StationId → Prop) (joined made : List Slip),
        (plan = fun c st => if a.rush then (s.clock, false) else
          planFire (min ((s.wave a.wave).sweep.start + k.position * (s.wave a.wave).sweep.interval) 65535) (s.leadTime c st) s.clock) ∧
        (placed = fun m c st => m.ticket = s.nextTicket ∧ ∃ e, a.lines[m.line]? = some e ∧ e.item = c ∧ e.qty = m.qty ∧
          c ∉ s.outBoard ∧ s.route c e.modifiers = some st) ∧
        List.Forall₂ s.Considers (joined ++ made) t.slips ∧
        List.Forall₂ (fun x y => y = x ∨ ∃ m ms, a.rush = false ∧ x.state = .pending ∧ x.cls = .normal ∧ x.wave = a.wave ∧
          (∀ n ∈ m :: ms, placed n x.item x.station) ∧
          y = { x with
            members := x.members ++ m :: ms
            portions := x.portions + ((m :: ms).map Member.qty).sum
            fire := min x.fire (plan x.item x.station).1 }) s.slips joined ∧
        (∀ (i : Nat) (y : Slip), made[i]? = some y → ∃ c st m ms, (∀ n ∈ m :: ms, placed n c st) ∧
          y = ⟨s.nextSlip + i, st, c, a.wave, if a.rush then .priority else .normal, .pending, false, (plan c st).1,
            ((m :: ms).map Member.qty).sum, m :: ms⟩) ∧
        t.nextSlip = min (s.nextSlip + made.length) 65535 ∧ t.slipsExhausted = decide (65535 < s.nextSlip + made.length) ∧
        (k.late = true ↔ ∃ m c st, placed m c st ∧ (plan c st).2 = true) ∧
        (∀ m c st, placed m c st → t.Settled st) ∧
        ∀ x ∈ s.slips, (∀ m c, ¬placed m c x.station) → x ∈ t.slips) ∧
      ∃ voids, (t.port w.port).slot = .ready
        ⟨0x30, if ∃ e ∈ a.lines, e.item ∈ s.outBoard then .short else .ok,
          .submitted k.number k.state (min ((s.wave a.wave).sweep.start + k.position * (s.wave a.wave).sweep.interval) 65535)
            (t.projectedUp k) k.late voids⟩ ∧
        ∀ i, i < 16 → (voids.getLsbD i = true ↔ ∃ e, a.lines[i]? = some e ∧ e.item ∈ s.outBoard)

/-- The fire time of a NORMAL line and its late flag (R82); the slips it qualifies to join, by all eight conditions and no other (R85),
so slips of its own wave alone, also during a delay (assumption 24). A line of a rush ticket gets a PRIORITY slip of its own due at the
clock (R83). A NORMAL line joins, of the slips that qualify, the one with the earliest fire time, and among those the lowest number: a
member at the end, the portions grown, the fire time the earlier of the two, CHANGED at the bound port where the slip is previewed (R86, R93); where none qualifies it gets a NORMAL slip of its own (R87).
Either way the line is WAITING in the slip at its routed station, and a line planned late makes itself and its ticket late, with LATE at
the pass and monitor ports where the ticket was not (R58). -/
def Obligations.LinePlannedAndPlaced : Prop :=
  (∀ target lead clock : Nat,
    (lead ≤ target → clock ≤ target - lead → planFire target lead clock = (target - lead, false)) ∧
    (target < lead ∨ target - lead < clock → planFire target lead clock = (clock, true))) ∧
  (∀ (s : State) (st : StationId) (c : ItemCode) (v : WaveId) (fire qty : Nat) (x : Slip),
    s.qualifies st c v fire qty x = true ↔
      (s.station st).state ≠ .down ∧ x.station = st ∧ x.state = .pending ∧ x.cls = .normal ∧ x.item = c ∧ x.wave = v ∧
      x.members.length < 16 ∧ (∃ e, s.entry? c = some e ∧ x.portions + qty ≤ e.batch) ∧
      fire ≤ x.fire + (s.station st).config.window ∧ x.fire ≤ fire + (s.station st).config.window ∧
      ∀ d, (s.wave v).delay = some d → x.number ∉ d.slips.map Prod.fst) ∧
  ∀ (s : State) (k : Ticket) (i : Nat) (l : Line) (st : StationId) (e : MenuEntry), s.RecordsSound → k ∈ s.tickets →
    s.route l.item l.modifiers = some st → s.entry? l.item = some e →
    ∃ (t : State) (plan : Nat × Bool) (n : Nat) (m : Member),
      s.placeLine k i l = (t, some st) ∧ m = ⟨k.number, i, l.qty⟩ ∧
      plan = (if k.rush then (s.clock, false) else
        planFire (min ((s.wave k.wave).sweep.start + k.position * (s.wave k.wave).sweep.interval) 65535)
          (e.cook + (s.station st).config.plate + (s.station st).lag) s.clock) ∧
      t = { s with
        nextSlip := t.nextSlip, slipsExhausted := t.slipsExhausted, tickets := t.tickets, slips := t.slips, ports := t.ports } ∧
      t.tickets = s.tickets.map (fun j => if j.number = k.number then
          { j with
            late := j.late || plan.2
            lines := j.lines.modify i fun h => { h with station := some st, late := h.late || plan.2, state := .waiting n } }
        else j) ∧
      (∀ j, j = (⟨s.nextSlip, st, l.item, k.wave, if k.rush then .priority else .normal, .pending, false, plan.1, l.qty, [m]⟩ : Slip) →
        (k.rush = true ∨ (∀ x ∈ s.slips, s.qualifies st l.item k.wave plan.1 l.qty x = false) →
          n = s.nextSlip ∧ t.slips = s.slips ++ [j] ∧ t.nextSlip = min (s.nextSlip + 1) 65535)) ∧
      (k.rush = false → ∀ x ∈ s.slips, s.qualifies st l.item k.wave plan.1 l.qty x = true →
        (∀ y ∈ s.slips, s.qualifies st l.item k.wave plan.1 l.qty y = true → x.fire < y.fire ∨ x.fire = y.fire ∧ x.number ≤ y.number) →
        n = x.number ∧ t.nextSlip = s.nextSlip ∧
        t.slips = s.slips.map (fun y => if y.number = x.number then
          { x with members := x.members ++ [m], portions := x.portions + l.qty, fire := min x.fire plan.1 } else y) ∧
        (x.previewed = true → ∀ q, s.isBound st q = true → (t.port q).Told ⟨s.clock, .changed x.number st l.item .pending
          (min x.fire plan.1) (x.portions + l.qty) (x.members.length + 1)⟩)) ∧
      (plan.2 = true → k.late = false → ∀ q, s.watchers q = true →
        (t.port q).Told ⟨s.clock, .late k.number k.wave k.table (s.target k) i⟩)

/-- A station's queue holds its PENDING slips, each as often as the store does, PRIORITY before NORMAL, then by fire time, then by number
(R104); a ticket is UP, PLANNED or FIRING as its lines stand (R56), and the ticket that becomes UP has its one UP notice at the pass and
monitor ports and its origin port (R57). -/
def Obligations.QueueOrderAndTicketState : Prop :=
  (∀ (s : State) (st : StationId),
    (s.queue st).Perm (s.slips.filter fun x => decide (x.station = st) && decide (x.state = .pending)) ∧
    (s.queue st).Pairwise fun x y =>
      (x.cls = .priority ∧ y.cls = .normal) ∨
        (x.cls = y.cls ∧ (x.fire < y.fire ∨ x.fire = y.fire ∧ x.number ≤ y.number))) ∧
  (∀ k : Ticket,
    (k.workedState = .up ↔ (∀ l ∈ k.lines, (∃ t, l.state = .ready t) ∨ l.state = .void) ∧ ∃ l ∈ k.lines, ∃ t, l.state = .ready t) ∧
    (k.workedState = .planned ↔ ∀ l ∈ k.lines, l.state ≠ .void → ∃ n, l.state = .waiting n)) ∧
  ∀ (s : State) (k : Ticket), s.RecordsSound → k ∈ s.tickets →
    (s.workOut k.number).tickets = s.tickets.map (fun j => if j.number = k.number then { k with state := k.workedState } else j) ∧
    ∀ q, (s.workOut k.number).port q =
      if k.workedState = .up ∧ k.state ≠ .up ∧ ((s.port q).role = .pass ∨ (s.port q).role = .monitor ∨ q = k.origin) then
        (s.port q).append ⟨s.clock, .up k.number k.wave k.table
          (min ((s.wave k.wave).sweep.start + k.position * (s.wave k.wave).sweep.interval) 65535) k.late⟩
      else s.port q

/-- VOID TICKET (R66 to R68): UNKNOWN_TICKET for no live ticket; from an ORDER port NOT_PERMITTED for another port's ticket and BAD_STATE
for one that is not PLANNED; else the ticket leaves the table with VOIDED, every other ticket stays, and no counter, mark or setting
changes. A TAKEN slip loses the ticket's members and keeps its portions (R91); a PENDING or CALLED slip loses their portions with them
(R89) and is freed where no member is left (R90), with CHANGED or WITHDRAWN (EMPTIED) where its station had been told of it; the reply
counts the lines removed, the lines detached and the slips freed. The station of each CALLED slip so emptied then considers to the end, and
no other station considers (R67, R90). A SEALED wave left with no ticket and no slip is freed, with WAVE_FREE (R22, R68), and every other
wave keeps all but left-PENDING marks (R27); an evacuation ends exactly where its queue is emptied, with EVACUATED (R128). The last
ticket to leave in DRAINING closes the service, its second timer stopped: the TAKEN slips that remain are discarded, each with WITHDRAWN
(DISCARDED), every wave is FREE, and SERVICE (CLOSED) is last at every port (R8, R9). -/
def Obligations.VoidTicketFrees : Prop :=
  ∀ (w : Written) (s : State) (n : Nat) (n1 n0 : Byte), Takes .voidTicket w s → n1.toNat * 256 + n0.toNat = n →
    paramsOf w.body = some [n1, n0] →
    ((∀ k ∈ s.tickets, k.number ≠ n) → exec (.voidTicket w) s = .next (s.answered w.port ⟨0x31, .unknownTicket, .empty⟩)) ∧
    (s.RecordsSound → ∀ k ∈ s.tickets, k.number = n →
      ((s.port w.port).role = .order → k.origin ≠ w.port →
        exec (.voidTicket w) s = .next (s.answered w.port ⟨0x31, .notPermitted, .empty⟩)) ∧
      ((s.port w.port).role = .order → k.origin = w.port → k.state ≠ .planned →
        exec (.voidTicket w) s = .next (s.answered w.port ⟨0x31, .badState, .empty⟩)) ∧
      ((s.port w.port).role = .pass ∨ k.origin = w.port ∧ k.state = .planned →
        ∃ t, exec (.voidTicket w) s = .next t ∧
          t = { s with
            service := t.service, secondTimer := t.secondTimer, waves := t.waves, tickets := t.tickets, slips := t.slips
            stations := t.stations, ports := t.ports } ∧
          t.tickets.map Ticket.number = (s.tickets.map Ticket.number).filter (fun m => decide (m ≠ n)) ∧
          (s.service = .draining → t.tickets = [] → t.service = .closed ∧ t.secondTimer = none ∧ t.slips = [] ∧
            (s.MembersSound → ∀ x ∈ s.slips, x.isTaken = true → ∀ q, s.isBound x.station q = true →
              (t.port q).Told ⟨s.clock, .withdrawn x.number x.station x.item .discarded none⟩) ∧
            (s.WavesSound → ∀ v, (t.wave v).state = .free ∧ (t.wave v).delay = none ∧
              ((s.wave v).state ≠ .free → (t.wave v).hold = false ∧ ∀ q, s.watchers q = true → (t.port q).Told ⟨s.clock, .waveFree v⟩)) ∧
            ∀ q, (t.port q).ToldLast ⟨s.clock, .service .closed .closed⟩) ∧
          (s.WavesSound → s.WavesAfter t) ∧
          (¬(s.service = .draining ∧ t.tickets = []) → t.service = s.service ∧ t.secondTimer = s.secondTimer ∧
            ∀ st, (t.station st).due = (s.station st).due) ∧
          (∀ st, (t.station st).config = (s.station st).config ∧ (t.station st).state = (s.station st).state ∧
            (t.station st).lag = (s.station st).lag ∧ (t.station st).missed = (s.station st).missed ∧
            ((t.station st).evacuating = (s.station st).evacuating ∨ (t.station st).evacuating = false ∧
              ∀ q, s.watchersOf st q = true →
                (t.port q).Told ⟨s.clock, .stationState st .down .evacuated (s.station st).config.backup 0⟩) ∧
            (s.StationsSound → ((t.station st).evacuating = true ↔ (s.station st).evacuating = true ∧ t.queue st ≠ []))) ∧
          (s.MembersSound → ∀ j ∈ s.tickets, j.number ≠ n → ∃ i ∈ t.tickets, j.Considers i) ∧
          (∃ removed detached freed, (t.port w.port).slot = .ready ⟨0x31, .ok, .voided n removed detached freed⟩ ∧
            removed + detached ≤ k.lines.length ∧ freed ≤ removed) ∧
          (∀ q, s.watchersAnd k.origin q = true → (t.port q).Told ⟨s.clock, .voided n .command⟩) ∧
          (s.MembersSound → ∀ (mine : Member → Bool), (∀ m, mine m = (m.ticket == n)) →
            (t.port w.port).slot = .ready ⟨0x31, .ok, .voided n
              ((s.slips.filter fun x => !x.isTaken).map fun x => (x.members.filter mine).length).sum
              ((s.slips.filter fun x => x.isTaken).map fun x => (x.members.filter mine).length).sum
              (s.slips.filter fun x => !x.isTaken && x.members.all mine).length⟩ ∧
            (∀ x ∈ s.slips, x.isCalled = true → x.members.all mine = true → t.Settled x.station) ∧
            (¬(s.service = .draining ∧ t.tickets = []) → ∀ st,
              (∀ x ∈ s.slips, x.station = st → x.isCalled = true → x.members.all mine = false) →
              ∀ x ∈ s.slips, x.station = st → x.isTaken = false → x.members.all mine = false → x.removed mine ∈ t.slips) ∧
            ∀ x ∈ s.slips,
              (¬(s.service = .draining ∧ t.tickets = []) →
                (x.isTaken = true → { x with members := x.members.filter fun m => !mine m } ∈ t.slips) ∧
                (x.isTaken = false → x.members.all mine = true → ∀ y ∈ t.slips, y.number ≠ x.number) ∧
                (x.isTaken = false → x.members.all mine = false → ∃ y ∈ t.slips, s.Considers (x.removed mine) y)) ∧
              (x.isTaken = false → x.told = true → ∀ q, s.isBound x.station q = true →
                (x.members.all mine = true →
                  (t.port q).Told ⟨s.clock, .withdrawn x.number x.station x.item .emptied none⟩) ∧
                (x.members.all mine = false → x.members.any mine = true →
                  (t.port q).Told ⟨s.clock, .changed x.number x.station x.item x.state x.fire
                    (x.removed mine).portions (x.removed mine).members.length⟩)))))

/-- PICKUP (R71): UNKNOWN_TICKET for no live ticket and NOT_UP for one that is not UP; an UP ticket leaves the table alone, with its figures
in the reply (R71). A SEALED wave that this leaves with no ticket and no slip is freed, with WAVE_FREE at the pass and monitor ports
(R22), and nothing else moves. The last one in DRAINING closes the service with its clock held (R8, R68): the slips that remain are
discarded, each with WITHDRAWN (DISCARDED) at its station's bound port (R9), every wave is FREE, each that was not with WAVE_FREE, and
SERVICE (CLOSED) is last at every port. -/
def Obligations.PickupRetires : Prop :=
  ∀ (w : Written) (s : State) (n : Nat) (n1 n0 : Byte), Takes .pickup w s → n1.toNat * 256 + n0.toNat = n →
    paramsOf w.body = some [n1, n0] →
    ((∀ k ∈ s.tickets, k.number ≠ n) → exec (.pickup w) s = .next (s.answered w.port ⟨0x32, .unknownTicket, .empty⟩)) ∧
    (s.RecordsSound → ∀ k ∈ s.tickets, k.number = n →
      (k.state ≠ .up → exec (.pickup w) s = .next (s.answered w.port ⟨0x32, .notUp, .empty⟩)) ∧
      (k.state = .up →
        ∃ t, exec (.pickup w) s = .next t ∧
          t = { s with
            service := t.service, secondTimer := t.secondTimer, waves := t.waves, tickets := t.tickets, slips := t.slips
            stations := t.stations, ports := t.ports } ∧
          t.tickets = s.tickets.filter (fun j => decide (j.number ≠ n)) ∧
          (¬(s.service = .draining ∧ t.tickets = []) →
            t.service = s.service ∧ t.secondTimer = s.secondTimer ∧ t.slips = s.slips ∧ t.stations = s.stations ∧
            (∀ v, v ≠ k.wave → t.wave v = s.wave v) ∧
            ((s.wave k.wave).state = .sealed → t.ticketCount k.wave = 0 → s.slipCount k.wave = 0 →
              (t.wave k.wave).state = .free ∧ (t.wave k.wave).hold = false ∧ (t.wave k.wave).delay = none ∧
              ∀ q, s.watchers q = true → (t.port q).Told ⟨s.clock, .waveFree k.wave⟩) ∧
            (¬((s.wave k.wave).state = .sealed ∧ t.ticketCount k.wave = 0 ∧ s.slipCount k.wave = 0) →
              t.wave k.wave = s.wave k.wave ∧ ∀ q, q ≠ w.port → t.port q = s.port q)) ∧
          (s.service = .draining → t.tickets = [] → t.service = .closed ∧ t.secondTimer = none ∧ t.slips = [] ∧
            (∀ st, (t.station st).config = (s.station st).config ∧ (t.station st).lag = (s.station st).lag ∧
              (t.station st).missed = (s.station st).missed ∧ (t.station st).state = (s.station st).state) ∧
            (∀ x ∈ s.slips, ∀ q, s.isBound x.station q = true →
              (t.port q).Told ⟨s.clock, .withdrawn x.number x.station x.item .discarded none⟩) ∧
            (s.WavesSound → ∀ v, (t.wave v).state = .free ∧ (t.wave v).delay = none ∧
              ((s.wave v).state ≠ .free → (t.wave v).hold = false ∧ ∀ q, s.watchers q = true → (t.port q).Told ⟨s.clock, .waveFree v⟩)) ∧
            ∀ q, (t.port q).ToldLast ⟨s.clock, .service .closed .closed⟩) ∧
          ∃ last, (t.port w.port).slot = .ready ⟨0x32, .ok, .pickup
            { ticket := n, wave := k.wave, table := k.table, accepted := k.accepted
              target := min ((s.wave k.wave).sweep.start + k.position * (s.wave k.wave).sweep.interval) 65535
              clock := s.clock, lastReady := last, refires := k.refires, late := k.late, exceptional := k.exceptional }⟩ ∧
            (∀ l ∈ k.lines, ∀ time, l.state = .ready time → time ≤ last) ∧
            (last = 0 ∨ ∃ l ∈ k.lines, l.state = .ready last)))

/-- REFIRE (R73 to R75, R84): refused for an unknown ticket, no such line, a line not READY, or no room; else the line goes to a new
PRIORITY slip of its own, due at the clock, at the station it is routed to again; the ticket's refire count grows, to 15 at most, and
the exception flag is set once the count exceeds the limit, with EXCEPTION at the pass and monitor ports. The station then considers to
the end, and no other does (R107). -/
def Obligations.RefireMakesPrioritySlip : Prop :=
  ∀ (w : Written) (s : State) (n i : Nat) (n1 n0 : Byte), Takes .refire w s → n1.toNat * 256 + n0.toNat = n → i < 12 →
    paramsOf w.body = some [n1, n0, byte i] →
    ((∀ k ∈ s.tickets, k.number ≠ n) → exec (.refire w) s = .next (s.answered w.port ⟨0x33, .unknownTicket, .empty⟩)) ∧
    (s.RecordsSound → ∀ k ∈ s.tickets, k.number = n →
      (k.lines.length ≤ i → exec (.refire w) s = .next (s.answered w.port ⟨0x33, .noLine, .empty⟩)) ∧
      ∀ l, k.lines[i]? = some l →
        ((∀ time, l.state ≠ .ready time) → exec (.refire w) s = .next (s.answered w.port ⟨0x33, .notReady, .empty⟩)) ∧
        (∀ time, l.state = .ready time →
          (1024 ≤ s.slips.length ∨ s.slipsExhausted = true →
            exec (.refire w) s = .next (s.answered w.port ⟨0x33, .slipsFull, .empty⟩)) ∧
          (s.slips.length < 1024 → s.slipsExhausted = false → s.MembersSound → ∀ st, s.route l.item l.modifiers = some st →
            ∃ t j x, exec (.refire w) s = .next t ∧
              t = { s with
                nextSlip := t.nextSlip, slipsExhausted := t.slipsExhausted, waves := t.waves, tickets := t.tickets
                slips := t.slips, ports := t.ports } ∧
              t.nextSlip = min (s.nextSlip + 1) 65535 ∧ t.slipsExhausted = decide (s.nextSlip = 65535) ∧
              x ∈ t.slips ∧ x.number = s.nextSlip ∧ x.station = st ∧ x.item = l.item ∧ x.wave = k.wave ∧ x.cls = .priority ∧
              x.fire = s.clock ∧ x.portions = l.qty ∧ x.members = [⟨n, i, l.qty⟩] ∧
              t.slips.map Slip.number = s.slips.map Slip.number ++ [s.nextSlip] ∧
              List.Forall₂ s.Considers
                (s.slips ++ [⟨s.nextSlip, st, l.item, k.wave, .priority, .pending, false, s.clock, l.qty, [⟨n, i, l.qty⟩]⟩]) t.slips ∧
              (∀ v, t.wave v = s.waveMarked t v) ∧ t.Settled st ∧ (∀ y ∈ s.slips, y.station ≠ st → y ∈ t.slips) ∧
              j ∈ t.tickets ∧ j.number = n ∧ j.refires = min (k.refires + 1) 15 ∧
              j.exceptional = (k.exceptional || decide (s.refireLimit < min (k.refires + 1) 15)) ∧ j.late = k.late ∧
              (∃ m, j.lines[i]? = some m ∧ m.station = some st ∧ m.item = l.item ∧ m.qty = l.qty ∧ m.late = l.late ∧
                (m.state = .waiting s.nextSlip ∨ m.state = .called s.nextSlip)) ∧
              (k.exceptional = false → j.exceptional = true → ∀ q, s.watchers q = true →
                (t.port q).Told ⟨s.clock, .exception n i j.refires⟩) ∧
              (t.port w.port).slot = .ready ⟨0x33, .ok, .refired n i s.nextSlip st j.state j.refires j.exceptional⟩)))

/-- QUERY TICKET, QUERY SLIP and QUERY STATION report the record named, with up to six lines or ten members from the index given, and
change nothing but the port; a number of no record is refused (R76, R97, R120). The projected up time is the latest projection of the
ticket's lines (R96): the fire time of a WAITING line's slip, or the call time of a CALLED or COOKING line's, plus cook time, plate time
and lag estimate, 65535 at most; a READY line's ready time; none for a VOID line (R95). -/
def Obligations.RecordQueries : Prop :=
  ∀ (w : Written) (s : State), s.RecordsSound →
    (∀ (n i : Nat) (n1 n0 : Byte), Takes .queryTicket w s → n1.toNat * 256 + n0.toNat = n → i < 12 →
      paramsOf w.body = some [n1, n0, byte i] →
      ((∀ k ∈ s.tickets, k.number ≠ n) → exec (.queryTicket w) s = .next (s.answered w.port ⟨0x34, .unknownTicket, .empty⟩)) ∧
      (∀ k ∈ s.tickets, k.number = n →
        exec (.queryTicket w) s = .next (s.answered w.port ⟨0x34, .ok, .ticket
          { number := n, origin := k.origin, wave := k.wave, table := k.table, position := k.position, rush := k.rush
            late := k.late, exceptional := k.exceptional, state := k.state, refires := k.refires, accepted := k.accepted
            target := min ((s.wave k.wave).sweep.start + k.position * (s.wave k.wave).sweep.interval) 65535
            projected := s.projectedUp k, lineCount := k.lines.length }
          ((k.lines.drop i).take 6)⟩))) ∧
    (∀ (n i : Nat) (n1 n0 : Byte), Takes .querySlip w s → n1.toNat * 256 + n0.toNat = n → i < 16 →
      paramsOf w.body = some [n1, n0, byte i] →
      ((∀ x ∈ s.slips, x.number ≠ n) → exec (.querySlip w) s = .next (s.answered w.port ⟨0x38, .unknownSlip, .empty⟩)) ∧
      (∀ x ∈ s.slips, x.number = n →
        exec (.querySlip w) s = .next (s.answered w.port ⟨0x38, .ok, .slip
          { number := n, station := x.station, item := x.item, wave := x.wave, cls := x.cls, state := x.state
            previewed := x.previewed, delayListed := s.onDelayList x.wave n, fire := x.fire, portions := x.portions
            memberCount := x.members.length }
          ((x.members.drop i).take 10)⟩))) ∧
    (∀ st : StationId, Takes .queryStation w s → paramsOf w.body = some [byte st.val] →
      exec (.queryStation w) s = .next (s.answered w.port ⟨0x43, .ok, .station st (s.station st).config
        { state := (s.station st).state, lag := (s.station st).lag
          busy := (s.slips.filter fun x => decide (x.station = st) && !x.isPending).length
          called := (s.slips.filter fun x => decide (x.station = st) && x.isCalled).length
          taken := (s.slips.filter fun x => decide (x.station = st) && x.isTaken).length
          queued := (s.slips.filter fun x => decide (x.station = st) && x.isPending).length
          due := (s.slips.filter fun x => decide (x.station = st) && x.isPending && decide (x.fire ≤ s.clock)).length
          missed := (s.station st).missed, evacuating := (s.station st).evacuating }⟩)) ∧
    (∀ k : Ticket,
      (∀ l ∈ k.lines, ∀ time, s.projectedReady l = some time → time ≤ s.projectedUp k) ∧
      (s.projectedUp k = 0 ∨ ∃ l ∈ k.lines, s.projectedReady l = some (s.projectedUp k))) ∧
    ∀ l : Line,
      (l.state = .void → s.projectedReady l = none) ∧
      (∀ time, l.state = .ready time → s.projectedReady l = some time) ∧
      ∀ e, s.entry? l.item = some e → ∀ x ∈ s.slips,
        (l.state = .waiting x.number → s.projectedReady l =
          some (min (x.fire + e.cook + (s.station x.station).config.plate + (s.station x.station).lag) 65535)) ∧
        (l.state = .called x.number ∨ l.state = .cooking x.number →
          ∀ time, x.state = .taken time ∨ (∃ timer, x.state = .called time timer) → s.projectedReady l =
            some (min (time + e.cook + (s.station x.station).config.plate + (s.station x.station).lag) 65535))

/-! ## The stations -/

/-- SET STATION (R100, R101): in CLOSED the configuration is stored with every number clamped in the order of R101 and a backup naming the
station itself as none, CLAMPED where a value changed, and the running state set anew; refused with FROZEN in service and with
NOT_STATION_PORT where the port named is not a STATION port. -/
def Obligations.SetStationClamps : Prop :=
  ∀ (w : Written) (s : State) (st : StationId) (given : StationConfig), Takes .setStation w s →
    (paramsOf w.body).bind parseSetStation = some (st, given) →
    (s.service ≠ .closed → exec (.setStation w) s = .next (s.answered w.port ⟨0x40, .frozen, .empty⟩)) ∧
    (s.service = .closed → (∃ q, given.port = some q ∧ (s.port q).role ≠ .station) →
      exec (.setStation w) s = .next (s.answered w.port ⟨0x40, .notStationPort, .empty⟩)) ∧
    (s.service = .closed → (∀ q, given.port = some q → (s.port q).role = .station) →
      ∃ (stored : StationConfig) (state : StationState),
        stored.port = given.port ∧
        stored.slots = max 1 (min 32 given.slots) ∧
        stored.reserve = min given.reserve (max 1 (min 32 given.slots) - 1) ∧
        stored.plate = min given.plate 300 ∧
        stored.timeout = max 5 (min 120 given.timeout) ∧
        stored.horizon = min given.horizon 900 ∧
        stored.window = min given.window 300 ∧
        stored.initialLag = min given.initialLag 600 ∧
        stored.backup = (if given.backup = some st then none else given.backup) ∧
        state = (if given.port = none then .unused else .opened) ∧
        exec (.setStation w) s = .next
          ({ s with stations := s.stations.set st ⟨stored, state, stored.initialLag, 0, false, 0⟩ }.answered w.port
            ⟨0x40, if stored = given then .ok else .clamped, .stationSet st stored state⟩))

/-- PAUSE STATION and RESUME STATION (R102, R103): the four checks in order; no change where the station already is so; a pause changes the
state alone, with STATION_STATE at the pass and monitor ports and the bound port, the issuing one among them; a resumed station, with
STATION_STATE (RESUMED) there, calls until no slip of its queue is eligible, and only PENDING slips that are due and not held. The count of
the RESUMED notice, 0, is the model's reading (assumption 17): the manual gives the 0 of PAUSED alone (R102). -/
def Obligations.PauseAndResume : Prop :=
  ∀ (w : Written) (s : State) (st : StationId), paramsOf w.body = some [byte st.val] →
    (Takes .pauseStation w s →
      (s.service = .closed → exec (.pauseStation w) s = .next (s.answered w.port ⟨0x41, .badState, .empty⟩)) ∧
      (s.service ≠ .closed →
        ((s.station st).state = .unused → exec (.pauseStation w) s = .next (s.answered w.port ⟨0x41, .noStation, .empty⟩)) ∧
        ((s.station st).state ≠ .unused → (s.port w.port).role = .station → (s.station st).config.port ≠ some w.port →
          exec (.pauseStation w) s = .next (s.answered w.port ⟨0x41, .wrongStation, .empty⟩)) ∧
        ((s.port w.port).role ≠ .station ∨ (s.station st).config.port = some w.port →
          ((s.station st).state = .down → exec (.pauseStation w) s = .next (s.answered w.port ⟨0x41, .badState, .empty⟩)) ∧
          ((s.station st).state = .paused →
            exec (.pauseStation w) s = .next (s.answered w.port ⟨0x41, .ok, .stationState .paused⟩)) ∧
          ((s.station st).state = .opened →
            ∃ t, exec (.pauseStation w) s = .next t ∧
              t = { s with stations := s.stations.set st { s.station st with state := .paused }, ports := t.ports } ∧
              (∀ q, q ≠ w.port → t.port q =
                if (s.port q).role = .pass ∨ (s.port q).role = .monitor ∨
                    (s.station st).config.port = some q ∧ (s.port q).role = .station then
                  (s.port q).append ⟨s.clock, .stationState st .paused .paused none 0⟩
                else s.port q) ∧
              t.port w.port = ((s.port w.port).append ⟨s.clock, .stationState st .paused .paused none 0⟩).answered
                ⟨0x41, .ok, .stationState .paused⟩)))) ∧
    (Takes .resumeStation w s →
      (s.service = .closed → exec (.resumeStation w) s = .next (s.answered w.port ⟨0x42, .badState, .empty⟩)) ∧
      (s.service ≠ .closed →
        ((s.station st).state = .unused → exec (.resumeStation w) s = .next (s.answered w.port ⟨0x42, .noStation, .empty⟩)) ∧
        ((s.station st).state ≠ .unused → (s.port w.port).role = .station → (s.station st).config.port ≠ some w.port →
          exec (.resumeStation w) s = .next (s.answered w.port ⟨0x42, .wrongStation, .empty⟩)) ∧
        ((s.port w.port).role ≠ .station ∨ (s.station st).config.port = some w.port →
          ((s.station st).state = .down → exec (.resumeStation w) s = .next (s.answered w.port ⟨0x42, .badState, .empty⟩)) ∧
          ((s.station st).state = .opened →
            exec (.resumeStation w) s = .next (s.answered w.port ⟨0x42, .ok, .stationState .opened⟩)) ∧
          ((s.station st).state = .paused →
            ∃ t, exec (.resumeStation w) s = .next t ∧
              t = { s with
                stations := s.stations.set st { s.station st with state := .opened }
                waves := t.waves, tickets := t.tickets, slips := t.slips, ports := t.ports } ∧
              (∀ x ∈ t.queue st, t.eligible st x = false) ∧
              (s.RecordsSound →
                List.Forall₂ ({ s with stations := s.stations.set st { s.station st with state := .opened } } : State).Considers
                  s.slips t.slips ∧
                ∀ x ∈ s.slips, x.station ≠ st → x ∈ t.slips) ∧
              (∀ q, s.watchersOf st q = true → (t.port q).Told ⟨s.clock, .stationState st .opened .resumed none 0⟩) ∧
              (t.port w.port).slot = .ready ⟨0x42, .ok, .stationState .opened⟩))))

/-- STATION DOWN (R122, R123, R126): BAD_STATE in CLOSED, NO_STATION for an UNUSED station, no change for one that is DOWN; else the station
is DOWN, keeps its TAKEN slips alone in its busy set, its CALLED slips PENDING again, each with WITHDRAWN (DOWN) at its bound port, and
its evacuation starts exactly where a running backup is named and its queue holds a slip; STATION_STATE (ORDERED) goes to the pass and
monitor ports and the bound port with that backup and the slips to move, or none and 0 (R124). The backup and the count in the reply for a station
that is DOWN are the model's reading (assumption 17). -/
def Obligations.StationDownReturnsCalls : Prop :=
  ∀ (w : Written) (s : State) (st : StationId), Takes .stationDown w s → paramsOf w.body = some [byte st.val] →
    (s.service = .closed → exec (.stationDown w) s = .next (s.answered w.port ⟨0x44, .badState, .empty⟩)) ∧
    (s.service ≠ .closed → (s.station st).state = .unused →
      exec (.stationDown w) s = .next (s.answered w.port ⟨0x44, .noStation, .empty⟩)) ∧
    (s.service ≠ .closed → (s.station st).state = .down →
      exec (.stationDown w) s = .next (s.answered w.port ⟨0x44, .ok, .stationDown .down
        (if (s.station st).evacuating then (s.station st).config.backup else none)
        (if (s.station st).evacuating then (s.queue st).length else 0)⟩)) ∧
    (s.service ≠ .closed → (s.station st).state = .opened ∨ (s.station st).state = .paused → s.RecordsSound → s.StationsSound →
      ∃ t, exec (.stationDown w) s = .next t ∧
        t = { s with tickets := t.tickets, slips := t.slips, stations := t.stations, ports := t.ports } ∧
        (t.station st).state = .down ∧ (t.station st).lag = (s.station st).lag ∧ (t.station st).missed = (s.station st).missed ∧
        t.busySet st = (s.busySet st).filter Slip.isTaken ∧
        (∀ x ∈ s.slips, x.station = st → x.isTaken = false → { x with state := .pending } ∈ t.slips) ∧
        (∀ x ∈ s.slips, x.station ≠ st → x ∈ t.slips) ∧
        ((t.station st).evacuating = true ↔
          t.queue st ≠ [] ∧ ∃ b, (s.station st).config.backup = some b ∧
            ((s.station b).state = .opened ∨ (s.station b).state = .paused)) ∧
        (∀ d, d ≠ st → (t.station d).state = (s.station d).state ∧
          ((s.station d).config.backup = some st → (t.station d).evacuating = false)) ∧
        (∀ x ∈ s.slips, x.station = st → x.isCalled = true → ∀ q, s.isBound st q = true →
          (t.port q).Told ⟨s.clock, .withdrawn x.number st x.item .down none⟩) ∧
        (∀ q, s.watchersOf st q = true → (t.port q).Told ⟨s.clock, .stationState st .down .ordered
          (if (t.station st).evacuating then (s.station st).config.backup else none)
          (if (t.station st).evacuating then (t.queue st).length else 0)⟩) ∧
        (∀ d, d ≠ st → (s.station d).evacuating = true → (s.station d).config.backup = some st → ∀ q, s.watchersOf d q = true →
          (t.port q).Told ⟨s.clock, .stationState d .down .backupLost (some st) (s.queue d).length⟩) ∧
        (t.port w.port).slot = .ready ⟨0x44, .ok, .stationDown .down
          (if (t.station st).evacuating then (s.station st).config.backup else none)
          (if (t.station st).evacuating then (t.queue st).length else 0)⟩)

/-- STATION OPEN (R132, R133): the four checks in order; no change for an OPEN station, whose reply gives its state and its queue (assumption
17); a DOWN station is OPEN with its missed takes at 0 and no evacuation in flight, one in flight ending with EVACUATION_STOPPED, the backup
and the slips left, and REOPENED follows at the same ports; its slips not moved stay, and it considers to the end: only PENDING slips of
its queue that are due and not held are called, only those within the horizon previewed, and every other slip is as it was. -/
def Obligations.StationOpenReopens : Prop :=
  ∀ (w : Written) (s : State) (st : StationId), Takes .stationOpen w s → paramsOf w.body = some [byte st.val] →
    (s.service = .closed → exec (.stationOpen w) s = .next (s.answered w.port ⟨0x45, .badState, .empty⟩)) ∧
    (s.service ≠ .closed →
      ((s.station st).state = .unused → exec (.stationOpen w) s = .next (s.answered w.port ⟨0x45, .noStation, .empty⟩)) ∧
      ((s.station st).state ≠ .unused → (s.port w.port).role = .station → (s.station st).config.port ≠ some w.port →
        exec (.stationOpen w) s = .next (s.answered w.port ⟨0x45, .wrongStation, .empty⟩)) ∧
      ((s.port w.port).role ≠ .station ∨ (s.station st).config.port = some w.port →
        ((s.station st).state = .paused → exec (.stationOpen w) s = .next (s.answered w.port ⟨0x45, .badState, .empty⟩)) ∧
        ((s.station st).state = .opened →
          exec (.stationOpen w) s = .next (s.answered w.port ⟨0x45, .ok, .stationOpen .opened (s.queue st).length⟩)) ∧
        ((s.station st).state = .down →
          ∃ t, exec (.stationOpen w) s = .next t ∧
            t = { s with waves := t.waves, tickets := t.tickets, slips := t.slips, stations := t.stations, ports := t.ports } ∧
            t.station st = { s.station st with state := .opened, missed := 0, evacuating := false } ∧
            (∀ d, d ≠ st → t.station d = s.station d) ∧
            (∀ v, (t.wave v).state = (s.wave v).state ∧ (t.wave v).sweep = (s.wave v).sweep ∧ (t.wave v).hold = (s.wave v).hold) ∧
            t.slips.map Slip.number = s.slips.map Slip.number ∧
            t.Settled st ∧
            (s.RecordsSound →
              List.Forall₂ ({ s with stations := t.stations } : State).Considers s.slips t.slips ∧
              (∀ x ∈ s.slips, x.station ≠ st → x ∈ t.slips) ∧ (∀ v, t.wave v = s.waveMarked t v) ∧
              (s.MembersSound → List.Forall₂ Ticket.Considers s.tickets t.tickets)) ∧
            (∀ q, s.watchersOf st q = true →
              ((s.station st).evacuating = true → (t.port q).Told
                ⟨s.clock, .stationState st .down .evacuationStopped (s.station st).config.backup (s.queue st).length⟩) ∧
              (t.port q).Told ⟨s.clock, .stationState st .opened .reopened none 0⟩) ∧
            (t.port w.port).slot = .ready ⟨0x45, .ok, .stationOpen .opened (t.queue st).length⟩)))

/-- TAKE (R109): the three checks in order; an accepted TAKE makes the slip TAKEN with its call time and fire time kept, sets the station's
missed takes to 0, leaves the busy count, and makes every member line COOKING. -/
def Obligations.TakeStartsCooking : Prop :=
  ∀ (w : Written) (s : State) (n : Nat) (n1 n0 : Byte), Takes .take w s → n1.toNat * 256 + n0.toNat = n →
    paramsOf w.body = some [n1, n0] →
    ((∀ x ∈ s.slips, x.number ≠ n) → exec (.take w) s = .next (s.answered w.port ⟨0x48, .unknownSlip, .empty⟩)) ∧
    (s.RecordsSound → ∀ x ∈ s.slips, x.number = n →
      ((s.station x.station).config.port ≠ some w.port →
        exec (.take w) s = .next (s.answered w.port ⟨0x48, .wrongStation, .empty⟩)) ∧
      ((s.station x.station).config.port = some w.port →
        (x.isCalled = false → exec (.take w) s = .next (s.answered w.port ⟨0x48, .badState, .empty⟩)) ∧
        (∀ time timer, x.state = .called time timer →
          ∃ t, exec (.take w) s = .next t ∧
            t = { s with
              slips := s.slips.map fun y => if y.number = n then { x with state := .taken time } else y
              stations := s.stations.set x.station { s.station x.station with missed := 0 }
              tickets := t.tickets, ports := t.ports } ∧
            (∀ st, t.busyCount st = s.busyCount st) ∧
            (∀ m ∈ x.members, ∀ k ∈ t.tickets, ∀ l, k.number = m.ticket → k.lines[m.line]? = some l → l.state = .cooking n) ∧
            (t.port w.port).slot = .ready ⟨0x48, .ok, .taken n x.station (.taken time) x.portions x.members.length⟩)))

/-- BUMP (R115 to R117): the three checks in order; an accepted BUMP frees the slip, sets the missed takes to 0, moves the lag estimate a
quarter of the way to the clamped sample, truncated toward zero and clamped to 0 to 600, and makes the member lines READY at the clock,
with UP for each ticket that so becomes UP (R54, R57). A SEALED wave left with no ticket and no slip is freed, with WAVE_FREE (R92, R22), and
every other wave keeps all but the marks of the slips called. An OPEN station then considers to the end; no other does, and every other
slip stays. That a PAUSED station may preview at the slot freed (R107) is the model's reading (assumption 21). -/
def Obligations.BumpFreesAndTeaches : Prop :=
  ∀ (w : Written) (s : State) (n : Nat) (n1 n0 : Byte), Takes .bump w s → n1.toNat * 256 + n0.toNat = n →
    paramsOf w.body = some [n1, n0] →
    ((∀ x ∈ s.slips, x.number ≠ n) → exec (.bump w) s = .next (s.answered w.port ⟨0x49, .unknownSlip, .empty⟩)) ∧
    (s.RecordsSound → ∀ x ∈ s.slips, x.number = n →
      ((s.station x.station).config.port ≠ some w.port →
        exec (.bump w) s = .next (s.answered w.port ⟨0x49, .wrongStation, .empty⟩)) ∧
      ((s.station x.station).config.port = some w.port →
        (x.isPending = true → exec (.bump w) s = .next (s.answered w.port ⟨0x49, .badState, .empty⟩)) ∧
        (∀ time, (x.state = .taken time ∨ ∃ timer, x.state = .called time timer) → ∀ e ∈ s.menu, s.MenuSound → e.item = x.item →
          ∃ (t : State) (z : Int) (lag : Nat), exec (.bump w) s = .next t ∧
            t = { s with waves := t.waves, tickets := t.tickets, slips := t.slips, stations := t.stations, ports := t.ports } ∧
            z = max (-120) (min 600 ((s.clock : Int) - (time + e.cook + (s.station x.station).config.plate))) ∧
            (lag : Int) = max 0 (min 600 ((s.station x.station).lag + (z - (s.station x.station).lag).tdiv 4)) ∧
            t.station x.station = { s.station x.station with missed := 0, lag := lag } ∧
            (∀ d, d ≠ x.station → t.station d = s.station d) ∧
            t.slips.map Slip.number = (s.slips.map Slip.number).filter (fun m => decide (m ≠ n)) ∧
            List.Forall₂ s.Considers (s.slips.filter fun y => decide (y.number ≠ n)) t.slips ∧
            (∀ y ∈ s.slips, y.number ≠ n → y.station ≠ x.station → y ∈ t.slips) ∧
            ((s.station x.station).state = .opened → t.Settled x.station) ∧
            (s.WavesSound → s.WavesAfter t) ∧
            (s.MembersSound → List.Forall₂ (fun k j : Ticket => j.number = k.number ∧
              ((∀ m ∈ x.members, m.ticket ≠ k.number) → k.Considers j)) s.tickets t.tickets) ∧
            ((∀ y ∈ s.slips, y.number ≠ n → ∀ m ∈ y.members, ∀ m' ∈ x.members, ¬(m.ticket = m'.ticket ∧ m.line = m'.line)) →
              ∀ m ∈ x.members, ∀ k ∈ t.tickets, ∀ l, k.number = m.ticket → k.lines[m.line]? = some l → l.state = .ready s.clock) ∧
            (∀ k ∈ s.tickets, ∀ j ∈ t.tickets, j.number = k.number → k.state ≠ .up → j.state = .up →
              ∀ q, s.watchersAnd k.origin q = true →
                (t.port q).Told ⟨s.clock, .up k.number k.wave k.table (s.target k) k.late⟩) ∧
            (t.port w.port).slot = .ready ⟨0x49, .ok, .bumped n x.station s.clock lag z x.members.length⟩)))

/-- FORCE BUMP (R118): UNKNOWN_SLIP for no such slip; else the slip is freed in whatever state, with WITHDRAWN (FORCED) at its bound port
where the station had been told of it, the missed takes are 0, the lag estimate stays, and the member lines are READY at the clock, with
UP for each ticket that so becomes UP (R54, R57). Where that frees a slot an OPEN station then considers to the end (R107); no other
station does, and every other slip stays. A SEALED wave left with no ticket and no slip is freed, with WAVE_FREE (R92, R22), and every other
wave keeps all but the left-PENDING marks of the slip, where it was PENDING, and of the slips called (R27). An evacuation ends exactly where
the freed slip was the last of its queue, with EVACUATED at the pass and monitor ports and the bound port (R128). -/
def Obligations.ForceBumpFrees : Prop :=
  ∀ (w : Written) (s : State) (n : Nat) (n1 n0 : Byte), Takes .forceBump w s → n1.toNat * 256 + n0.toNat = n →
    paramsOf w.body = some [n1, n0] →
    ((∀ x ∈ s.slips, x.number ≠ n) → exec (.forceBump w) s = .next (s.answered w.port ⟨0x4A, .unknownSlip, .empty⟩)) ∧
    (s.RecordsSound → ∀ x ∈ s.slips, x.number = n →
      ∃ t, exec (.forceBump w) s = .next t ∧
        t = { s with waves := t.waves, tickets := t.tickets, slips := t.slips, stations := t.stations, ports := t.ports } ∧
        (∃ ends : Bool, (ends = true ↔ (s.station x.station).evacuating = true ∧ s.queue x.station = [x]) ∧
          t.station x.station = { s.station x.station with
            missed := 0, evacuating := (s.station x.station).evacuating && !ends } ∧
          (ends = true → ∀ q, s.watchersOf x.station q = true → (t.port q).Told
            ⟨s.clock, .stationState x.station .down .evacuated (s.station x.station).config.backup 0⟩)) ∧
        (∀ d, d ≠ x.station → t.station d = s.station d) ∧
        (s.WavesSound → s.WavesAfter t) ∧
        (s.MembersSound → List.Forall₂ (fun k j : Ticket => j.number = k.number ∧
          ((∀ m ∈ x.members, m.ticket ≠ k.number) → k.Considers j)) s.tickets t.tickets) ∧
        List.Forall₂ s.Considers (s.slips.filter fun y => decide (y.number ≠ n)) t.slips ∧
        (x.state ≠ .pending → (s.station x.station).state = .opened → t.Settled x.station) ∧
        (∀ y ∈ s.slips, y.number ≠ n → y.station ≠ x.station ∨ x.state = .pending → y ∈ t.slips) ∧
        t.slips.map Slip.number = (s.slips.map Slip.number).filter (fun m => decide (m ≠ n)) ∧
        ((∀ y ∈ s.slips, y.number ≠ n → ∀ m ∈ y.members, ∀ m' ∈ x.members, ¬(m.ticket = m'.ticket ∧ m.line = m'.line)) →
          ∀ m ∈ x.members, ∀ k ∈ t.tickets, ∀ l, k.number = m.ticket → k.lines[m.line]? = some l → l.state = .ready s.clock) ∧
        (x.previewed = true ∨ x.state ≠ .pending → ∀ q, s.isBound x.station q = true →
          (t.port q).Told ⟨s.clock, .withdrawn n x.station x.item .forced none⟩) ∧
        (∀ k ∈ s.tickets, ∀ j ∈ t.tickets, j.number = k.number → k.state ≠ .up → j.state = .up →
          ∀ q, s.watchersAnd k.origin q = true →
            (t.port q).Told ⟨s.clock, .up k.number k.wave k.table (s.target k) k.late⟩) ∧
        (t.port w.port).slot = .ready ⟨0x4A, .ok, .forced n x.station x.state x.members.length⟩)

/-- A consideration (R105 to R108): an OPEN station calls until no slip of its queue is eligible, and its busy count never passes its slots;
a PAUSED station previews and calls nothing; a DOWN or UNUSED station does nothing. After it no slip of the queue of a running station
is left to preview. Every slip stays in the store; only PENDING slips of the station that are due, not held and fit are called, a NORMAL
one below the reserve; a called slip has the clock as its call time and the take timeout on its timer, its lines are CALLED, and CALL, or
PREVIEW for one previewed, stands at the bound port. A slip called off a delay list has its left-PENDING mark set, and nothing else of a wave
changes (R26, R27). -/
def Obligations.ConsiderationCallsAllEligible : Prop :=
  ∀ (s : State) (st : StationId),
    ((s.station st).state = .opened →
      (∀ x ∈ (s.consider st).queue st, (s.consider st).eligible st x = false) ∧
      (s.RecordsSound → s.busyCount st ≤ (s.station st).config.slots →
        (s.consider st).busyCount st ≤ (s.station st).config.slots)) ∧
    ((s.station st).state = .paused → (s.consider st).busyCount st = s.busyCount st) ∧
    ((s.station st).state = .opened ∨ (s.station st).state = .paused →
      ∀ x ∈ (s.consider st).queue st, (s.consider st).previewable st x = false) ∧
    ((s.station st).state = .down ∨ (s.station st).state = .unused → s.consider st = s) ∧
    (s.RecordsSound → ∃ t, s.consider st = t ∧
      t = { s with waves := t.waves, tickets := t.tickets, slips := t.slips, ports := t.ports } ∧
      List.Forall₂ s.Considers s.slips t.slips ∧ (∀ v, t.wave v = s.waveMarked t v) ∧
      (∀ x ∈ s.slips, x.station ≠ st → x ∈ t.slips) ∧
      ∀ x ∈ s.slips, ∀ y ∈ t.slips, y.number = x.number →
        (x.previewed = false → y.previewed = true → ∀ q, s.isBound st q = true →
          (t.port q).Told ⟨s.clock, .preview x.number st x.item x.cls x.fire x.portions x.members.length⟩) ∧
        (x.state = .pending → y.state ≠ .pending →
          t.busyCount st ≤ (s.station st).config.slots ∧
          (x.cls = .normal → t.busyCount st ≤ (s.station st).config.slots - (s.station st).config.reserve) ∧
          (∀ q, s.isBound st q = true → (t.port q).Told
            ⟨s.clock, .call x.number st x.item x.cls x.portions x.fire (x.members.map fun m => (m.ticket, m.qty))⟩) ∧
          (s.MembersSound → ∀ m ∈ x.members, ∀ k ∈ t.tickets, ∀ l, k.number = m.ticket → k.lines[m.line]? = some l →
            l.state = .called x.number)))

/-- An expiry of the second timer raises the clock, saturating, and delivers a second event to every station (R1, R2); a station handles
one by lowering the take timers of its CALLED slips, timing out those at 0 in ascending number, each with WITHDRAWN (TIMEOUT) at the
bound port and one more missed take (R111), and considering to the end; the third missed take in a row puts it DOWN instead, and its
other CALLED slips have WITHDRAWN (DOWN) (R112, R114): STATION_STATE (MISSED_TAKES) goes to the pass and monitor ports and the bound port,
its evacuation starts exactly where it can, and evacuations into it are lost (R123 to R126, R129). No wave changes but by the marks of
the slips called (R26). A DOWN or UNUSED station does nothing with it. With no timer running, or no event delivered, nothing occurs
(assumptions 5 and 6). -/
def Obligations.SecondEventsReachStations : Prop :=
  (∀ s : State,
    (s.secondTimer = none → exec .secondTimerExpiry s = .next s) ∧
    (s.secondTimer ≠ none →
      ∃ t, exec .secondTimerExpiry s = .next t ∧
        t = { s with clock := min (s.clock + 1) 65535, secondTimer := some 0, stations := t.stations } ∧
        ∀ st, t.station st = { s.station st with due := (s.station st).due + 1 })) ∧
  ∀ (s : State) (st : StationId),
    ((s.station st).due = 0 → exec (.stationSecondEvent st) s = .next s) ∧
    ((s.station st).due ≠ 0 → (s.station st).state = .down ∨ (s.station st).state = .unused →
      exec (.stationSecondEvent st) s = .next
        { s with stations := s.stations.set st { s.station st with due := (s.station st).due - 1 } }) ∧
    ((s.station st).due ≠ 0 → (s.station st).state = .opened ∨ (s.station st).state = .paused →
      ∃ t, exec (.stationSecondEvent st) s = .next t ∧
        t = { s with waves := t.waves, tickets := t.tickets, slips := t.slips, stations := t.stations, ports := t.ports } ∧
        (t.station st).due = (s.station st).due - 1 ∧
        t.slips.map Slip.number = s.slips.map Slip.number ∧
        (s.RecordsSound →
          (∀ x ∈ s.slips, x.station ≠ st → x ∈ t.slips) ∧
          (∀ x ∈ s.slips, ∀ time timer, x.station = st → x.state = .called time timer → 2 ≤ timer →
            (t.station st).state ≠ .down → { x with state := .called time (timer - 1) } ∈ t.slips) ∧
          (∀ x ∈ s.slips, ∀ time timer, x.station = st → x.state = .called time timer → timer ≤ 1 →
            ∃ y ∈ t.slips, y.number = x.number ∧
              (y.state = .pending ∨ y.state = .called s.clock (s.station st).config.timeout))) ∧
        (s.RecordsSound → (s.station st).missed < 3 → ∀ out : List Slip,
          out = (s.slips.filter fun x => decide (x.station = st) &&
            match x.state with | .called _ timer => decide (timer ≤ 1) | .pending | .taken _ => false) →
          (t.station st).missed = min ((s.station st).missed + out.length) 3 ∧
          ((t.station st).state = .down ↔ 3 ≤ (s.station st).missed + out.length) ∧
          ((s.station st).missed + out.length < 3 →
            (t.station st).state = (s.station st).state ∧ ∀ d, d ≠ st → t.station d = s.station d) ∧
          (∀ x ∈ out.take (3 - (s.station st).missed), ∀ q, s.isBound st q = true →
            (t.port q).Told ⟨s.clock, .withdrawn x.number st x.item .timeout none⟩) ∧
          (3 ≤ (s.station st).missed + out.length → ∀ x ∈ s.slips, x.station = st → x.isCalled = true →
            x ∉ out.take (3 - (s.station st).missed) → ∀ q, s.isBound st q = true →
              (t.port q).Told ⟨s.clock, .withdrawn x.number st x.item .down none⟩) ∧
          (3 ≤ (s.station st).missed + out.length → s.StationsSound → s.GoneDown .missedTakes st t)) ∧
        (s.RecordsSound → s.WavesSound → ∀ v, t.wave v = s.waveMarked t v) ∧
        t.Settled st)

/-- The take timeout of a CALLED slip (R111, R112): the slip is PENDING again with its fire time, class and previewed flag, its member lines
are WAITING and their tickets worked out (R53), WITHDRAWN (TIMEOUT) goes to the bound port, the station's missed takes grow by one, and
nothing else changes; at three the station is DOWN: its other CALLED slips return with WITHDRAWN (DOWN), STATION_STATE (MISSED_TAKES) goes
to the pass and monitor ports and the bound port, its evacuation starts exactly where it can, and evacuations into it are lost (R123 to
R126, R129). The row acts on any CALLED slip, whatever its timer, and changes nothing for
a slip that is not CALLED, which has no take timer (the model's choice, assumption 5). -/
def Obligations.TakeTimeoutReturns : Prop :=
  ∀ (s : State) (n : Nat),
    ((∀ x ∈ s.slips, x.number = n → x.isCalled = false) → exec (.takeTimeout n) s = .next s) ∧
    (s.RecordsSound → ∀ x ∈ s.slips, x.number = n → x.isCalled = true →
      ∃ t, exec (.takeTimeout n) s = .next t ∧
        t = { s with tickets := t.tickets, slips := t.slips, stations := t.stations, ports := t.ports } ∧
        { x with state := .pending } ∈ t.slips ∧
        (t.station x.station).missed = (s.station x.station).missed + 1 ∧
        (∀ q, s.isBound x.station q = true → (t.port q).Told ⟨s.clock, .withdrawn n x.station x.item .timeout none⟩) ∧
        (s.MembersSound → ∀ m ∈ x.members, ∀ k ∈ t.tickets, ∀ l, k.number = m.ticket → k.lines[m.line]? = some l → l.state = .waiting n) ∧
        ((s.station x.station).missed = 2 → (t.station x.station).state = .down ∧
          (∀ y ∈ s.slips, y.station = x.station → y.isCalled = true → y.number ≠ n → ∀ q, s.isBound x.station q = true →
            (t.port q).Told ⟨s.clock, .withdrawn y.number x.station y.item .down none⟩) ∧
          (s.StationsSound → s.GoneDown .missedTakes x.station t)) ∧
        ((s.station x.station).missed < 2 →
          t.stations = s.stations.set x.station { s.station x.station with missed := (s.station x.station).missed + 1 } ∧
          t.slips = s.slips.map (fun y => if y.number = n then { x with state := .pending } else y) ∧
          (s.MembersSound →
            (∀ q, t.port q = if s.isBound x.station q then
              (s.port q).append ⟨s.clock, .withdrawn n x.station x.item .timeout none⟩ else s.port q) ∧
            List.Forall₂ (fun k j : Ticket => j = { k with lines := j.lines, state := j.workedState } ∧
              j.lines = k.lines.mapIdx fun i l =>
                if x.members.any (fun m => decide (m.ticket = k.number ∧ m.line = i)) then { l with state := .waiting n } else l)
              s.tickets t.tickets)))

/-- A move of an evacuation (R127, R128): the first slip of the DOWN station's queue goes to the backup with its number, class, item, wave,
members and portions kept and a fire time worked from the earliest pickup target of its members, not before the clock. Where it was
previewed the DOWN station's bound port has WITHDRAWN (MOVED), and its previewed flag is cleared; it is taken off its wave's delay list
(R27), and its lines take the backup as their station. The backup then considers to the end; every other slip stays, and no other station
considers. A move that empties the queue ends the evacuation, with STATION_STATE (EVACUATED) at the pass and monitor ports and the DOWN
station's bound port. The row changes nothing where no evacuation is in flight (the model's choice, assumption 18), and a delay whose list the
move leaves empty stays in flight (the model's reading, assumption 7). -/
def Obligations.EvacuationMoveRehomes : Prop :=
  ∀ (s : State) (st : StationId),
    ((s.station st).evacuating = false → exec (.evacuationMove st) s = .next s) ∧
    (s.RecordsSound → (s.station st).evacuating = true → ∀ b, (s.station st).config.backup = some b → b ≠ st →
      ∀ x rest, s.queue st = x :: rest →
      ∃ (t : State) (y : Slip) (fire : Nat), exec (.evacuationMove st) s = .next t ∧
        t = { s with waves := t.waves, tickets := t.tickets, slips := t.slips, stations := t.stations, ports := t.ports } ∧
        y ∈ t.slips ∧ y.number = x.number ∧ y.station = b ∧ y.cls = x.cls ∧ y.item = x.item ∧ y.wave = x.wave ∧
        y.members = x.members ∧ y.portions = x.portions ∧ y.fire = fire ∧ s.clock ≤ fire ∧
        (∀ early, (∃ m ∈ x.members, ∃ k, s.ticket? m.ticket = some k ∧ s.target k = early) →
          (∀ m ∈ x.members, ∀ k, s.ticket? m.ticket = some k → early ≤ s.target k) →
          fire = max (early - s.leadTime x.item b) s.clock) ∧
        List.Forall₂ s.Considers
          (s.slips.map fun z => if z.number = x.number then { x with station := b, previewed := false, fire := fire } else z) t.slips ∧
        t.Settled b ∧ (∀ z ∈ s.slips, z.number ≠ x.number → z.station ≠ b → z ∈ t.slips) ∧
        t.slips.map Slip.number = s.slips.map Slip.number ∧
        t.queue st = rest ∧
        t.station st = { s.station st with evacuating := decide (rest ≠ []) } ∧ (∀ d, d ≠ st → t.station d = s.station d) ∧
        (x.previewed = true → ∀ q, s.isBound st q = true →
          (t.port q).Told ⟨s.clock, .withdrawn x.number st x.item .moved (some b)⟩) ∧
        (rest = [] → ∀ q, s.watchersOf st q = true →
          (t.port q).Told ⟨s.clock, .stationState st .down .evacuated (some b) 0⟩) ∧
        (∀ d, (s.wave x.wave).delay = some d → ∃ e, (t.wave x.wave).delay = some e ∧
          e.slips.map Prod.fst = (d.slips.map Prod.fst).filter (fun i => decide (i ≠ x.number)) ∧
          e.shifted = d.shifted ∧ e.unchanged = d.unchanged ∧ e.passed = d.passed) ∧
        ∀ m ∈ x.members, ∀ k ∈ t.tickets, ∀ l, k.number = m.ticket → k.lines[m.line]? = some l → l.station = some b)

/-! ## The port units -/

/-- SET PORT MODE stores the stretch mode, a byte above 1 as on with CLAMPED, and the two delays (R150, R165); PORT RESTART clears the error
counter and the mute of its own port, and reports what they were after the hand-over (R149, assumption 12). -/
def Obligations.PortModeAndRestart : Prop :=
  ∀ (w : Written) (s : State),
    (∀ mode rel abs : Byte, Takes .setPortMode w s → paramsOf w.body = some [mode, rel, abs] →
      ∃ stretch, stretch = decide (mode.toNat ≠ 0) ∧
      exec (.setPortMode w) s = .next (s.modPort w.port fun u =>
        { u.answered ⟨0x50, if 1 < mode.toNat then .clamped else .ok, .portMode stretch rel.toNat abs.toNat⟩ with
          stretchMode := stretch, relDelay := rel.toNat, absDelay := abs.toNat })) ∧
    (w.address = (s.port w.port).address → (s.port w.port).slot = .empty → (s.port w.port).stretch = none →
      paramsOf w.body = some [] →
      exec (.portRestart w) s = .next (s.modPort w.port fun u =>
        { u.answered ⟨0x51, .ok, .restarted u.errorsAfter u.muted⟩ with errors := 0, muted := false }))

/-- LIST (R157 to R159): the records the port's role follows with numbers above the cursor, in ascending number, the first 14 of them, and
the more flag for a fifteenth; with cursor 0 the overrun flag is cleared and reported. Nothing but the port changes. -/
def Obligations.ListPages : Prop :=
  ∀ (w : Written) (s : State) (cursor : Nat) (n1 n0 : Byte), Takes .list w s → n1.toNat * 256 + n0.toNat = cursor →
    paramsOf w.body = some [n1, n0] →
    ∃ all : List ListEntry,
      ((s.port w.port).role = .order → all =
        (s.tickets.filter fun k => decide (k.origin = w.port) && decide (cursor < k.number)).map fun k =>
          .ticket k.number k.wave k.state k.late k.exceptional) ∧
      ((s.port w.port).role = .pass ∨ (s.port w.port).role = .monitor → all =
        (s.tickets.filter fun k => decide (cursor < k.number)).map fun k => .ticket k.number k.wave k.state k.late k.exceptional) ∧
      ((s.port w.port).role = .station → all =
        (s.slips.filter fun x => decide ((s.station x.station).config.port = some w.port) &&
          (!x.isPending || x.previewed) && decide (cursor < x.number)).map fun x => .slip x.number x.station x.state) ∧
      exec (.list w) s = .next (s.modPort w.port fun u =>
        { u.answered ⟨0x52, .ok, .list (decide (14 < all.length)) (decide (cursor = 0) && u.overrun) s.clock (all.take 14)⟩ with
          overrun := u.overrun && decide (cursor ≠ 0) })

/-- A copy of a notice handed to a port (R154) and the attention line (R161, R162): appended where the queue has room and the overrun flag is
clear, an urgent kind asserting the line and any other starting or restarting the timers; the copy that finds the queue full is dropped,
sets the overrun flag and asserts the line; a copy that finds the flag set changes nothing. A notice goes to its recipients, one copy
each with the clock at the event, and to no other port (R153): the pass and monitor ports, a ticket's origin port, a station's bound port
while its role is STATION; WITHDRAWN of a slip that returns or moves goes to the bound port it leaves, STATION_STATE of a station that
goes down, reopens or ends its evacuation to all but the origin port. A reply asserts the line and ends a read held for it with the
status byte, reply ready set, and the reply (R145). -/
def Obligations.NoticesAndAttention : Prop :=
  (∀ (n : Notice) (u : PortUnit),
    (u.overrun = true → u.append n = u) ∧
    (u.overrun = false → 24 ≤ u.notices.length →
      u.append n = { u with overrun := true, attention := .asserted, relTimer := none, absTimer := none }) ∧
    (u.overrun = false → u.notices.length < 24 →
      (((∃ a b c d e f g, n.body = .call a b c d e f g) ∨ (∃ a b c d e, n.body = .withdrawn a b c d e) ∨
          (∃ a b c, n.body = .exception a b c) ∨ (∃ a b c d e, n.body = .stationState a b c d e) ∨ ∃ a b, n.body = .service a b) →
        u.append n = { u with notices := u.notices ++ [n], attention := .asserted, relTimer := none, absTimer := none }) ∧
      (((∃ a b c d e f g, n.body = .preview a b c d e f g) ∨ (∃ a b c d e f g, n.body = .changed a b c d e f g) ∨
          (∃ a b c d e, n.body = .up a b c d e) ∨ (∃ a b c d e, n.body = .late a b c d e) ∨ (∃ a b c, n.body = .short a b c) ∨
          (∃ a b, n.body = .voided a b) ∨ ∃ a, n.body = .waveFree a) →
        (u.attention = .asserted → u.append n = { u with notices := u.notices ++ [n] }) ∧
        (u.attention = .released → u.relDelay = 0 → u.absDelay = 0 →
          u.append n = { u with notices := u.notices ++ [n], attention := .asserted, relTimer := none, absTimer := none }) ∧
        (u.attention = .released → ¬(u.relDelay = 0 ∧ u.absDelay = 0) →
          u.append n = { u with
            notices := u.notices ++ [n], attention := .waiting
            relTimer := if u.relDelay = 0 then none else some u.relDelay
            absTimer := if u.absDelay = 0 then none else some u.absDelay }) ∧
        (u.attention = .waiting →
          u.append n = { u with
            notices := u.notices ++ [n]
            relTimer := if u.relDelay = 0 then u.relTimer else some u.relDelay })))) ∧
  (∀ (s : State) (recipient : PortId → Bool) (b : NoticeBody),
    s.post recipient b = { s with ports := (s.post recipient b).ports } ∧
    ∀ q, (s.post recipient b).port q = if recipient q = true then (s.port q).append ⟨s.clock, b⟩ else s.port q) ∧
  (∀ (s : State) (o q : PortId) (st : StationId),
    (s.watchers q = true ↔ (s.port q).role = .pass ∨ (s.port q).role = .monitor) ∧
    (s.watchersAnd o q = true ↔ (s.port q).role = .pass ∨ (s.port q).role = .monitor ∨ q = o) ∧
    (s.isBound st q = true ↔ (s.station st).config.port = some q ∧ (s.port q).role = .station) ∧
    (s.watchersOf st q = true ↔ (s.port q).role = .pass ∨ (s.port q).role = .monitor ∨
      (s.station st).config.port = some q ∧ (s.port q).role = .station)) ∧
  (∀ (s : State) (x : Slip) (st b : StationId) (q : PortId),
    (∀ reason, s.isBound x.station q = true →
      ((s.returnSlip x reason).port q).Told ⟨s.clock, .withdrawn x.number x.station x.item reason none⟩) ∧
    (x.previewed = true → s.isBound st q = true →
      ((s.moveSlip st b x).port q).Told ⟨s.clock, .withdrawn x.number st x.item .moved (some b)⟩)) ∧
  (∀ (s : State) (st : StationId) (cause : StationCause) (q : PortId), s.watchersOf st q = true →
    (∀ left, ((s.endEvacuation st cause left).port q).Told
      ⟨s.clock, .stationState st .down cause (s.station st).config.backup left⟩) ∧
    ((s.station st).evacuating = false → ((s.goDown st cause).port q).Told ⟨s.clock, .stationState st .down cause
      (if ((s.goDown st cause).station st).evacuating then (s.station st).config.backup else none)
      (if ((s.goDown st cause).station st).evacuating then ((s.goDown st cause).queue st).length else 0)⟩) ∧
    ((s.reopen st).port q).Told ⟨s.clock, .stationState st .opened .reopened none 0⟩) ∧
  ∀ (p : PortId) (r : Reply) (s : State),
    ((s.reply p r).port p).slot = .ready r ∧ ((s.reply p r).port p).attention = .asserted ∧
      ((s.reply p r).port p).relTimer = none ∧ ((s.reply p r).port p).absTimer = none ∧
      ((s.port p).stretch ≠ none → (s.reply p r).port p = { s.port p with
        slot := .ready r, attention := .asserted, relTimer := none, absTimer := none, stretch := none, collided := false
        reading := some ⟨packByte true false (s.port p).collided (s.port p).overrun (s.port p).muted
          (decide ((s.port p).notices ≠ [])) (decide (s.service ≠ .closed)) false, .reply r, true⟩ })

/-- The start of a read (R142 to R145) and a delivery (R146, R147, R164): the status byte is made up at once, with the reply, the oldest
notice or no record behind it, and clears the collided flag, unless a command is in flight in stretch mode, when SCL is held; the
acknowledgement of a record's last byte takes the record from its place, and the line is released where nothing is left to read. A
delivery with no read under way, or of a record already taken, changes nothing (the model's choice, assumptions 9 and 18); the start of
a read while SCL is held, which no master can make (assumption 9), is left out. -/
def Obligations.ReadsAndDeliveries : Prop :=
  (∀ (p : PortId) (address : BitVec 7) (s : State),
    (address ≠ (s.port p).address → exec (.readTransaction p address) s = .next s) ∧
    (address = (s.port p).address → (s.port p).stretch = none →
      (∀ code, (s.port p).slot = .busy code → (s.port p).stretchMode = true →
        exec (.readTransaction p address) s = .next (s.modPort p fun u => { u with stretch := some 0, reading := none })) ∧
      (¬((s.port p).slot.isBusy = true ∧ (s.port p).stretchMode = true) →
        ∃ record, exec (.readTransaction p address) s = .next (s.modPort p fun u =>
            { u with
              reading := some ⟨packByte u.slot.isReady u.slot.isBusy u.collided u.overrun u.muted (decide (u.notices ≠ []))
                (decide (s.service ≠ .closed)) false, record, decide (record ≠ .nothing)⟩
              collided := false }) ∧
          (∀ r, (s.port p).slot = .ready r → record = .reply r) ∧
          (∀ code, (s.port p).slot = .busy code → record = .nothing) ∧
          (∀ n rest, (s.port p).slot = .empty → (s.port p).notices = n :: rest → record = .notice n) ∧
          ((s.port p).slot = .empty → (s.port p).notices = [] → record = .nothing)))) ∧
  ∀ (p : PortId) (s : State),
    ((s.port p).reading = none → exec (.recordDelivery p) s = .next s) ∧
    (∀ status record, (s.port p).reading = some ⟨status, record, false⟩ → exec (.recordDelivery p) s = .next s) ∧
    (∀ status r, (s.port p).reading = some ⟨status, .reply r, true⟩ →
      ((s.port p).notices ≠ [] →
        exec (.recordDelivery p) s = .next (s.modPort p fun u =>
          { u with slot := .empty, reading := some ⟨status, .reply r, false⟩ })) ∧
      ((s.port p).notices = [] →
        exec (.recordDelivery p) s = .next (s.modPort p fun u =>
          { u with
            slot := .empty, reading := some ⟨status, .reply r, false⟩
            attention := .released, relTimer := none, absTimer := none }))) ∧
    ∀ status n, (s.port p).reading = some ⟨status, .notice n, true⟩ →
      ((s.port p).slot.isReady = true ∨ (s.port p).notices.tail ≠ [] →
        exec (.recordDelivery p) s = .next (s.modPort p fun u =>
          { u with notices := u.notices.tail, reading := some ⟨status, .notice n, false⟩ })) ∧
      ((s.port p).slot.isReady = false → (s.port p).notices.tail = [] →
        exec (.recordDelivery p) s = .next (s.modPort p fun u =>
          { u with
            notices := [], reading := some ⟨status, .notice n, false⟩
            attention := .released, relTimer := none, absTimer := none }))

/-- The expiry of an attention timer in WAITING asserts the line and stops the other timer, so that the other's expiry then changes nothing
(R163). The stretch limit ends a held read with the status byte, busy set, and no record, and leaves the command in flight (R145). That
an expiry row acts whenever its timer runs, and changes nothing where it does not, is the model's choice (assumptions 5 and 18). -/
def Obligations.PortTimersExpire : Prop :=
  ∀ (p : PortId) (s : State),
    ((s.port p).attention = .waiting →
      ((s.port p).relTimer ≠ none →
        exec (.relativeTimerExpiry p) s = .next (s.modPort p fun u =>
          { u with attention := .asserted, relTimer := none, absTimer := none }) ∧
        ∀ t, exec (.relativeTimerExpiry p) s = .next t → exec (.absoluteTimerExpiry p) t = .next t) ∧
      ((s.port p).absTimer ≠ none →
        exec (.absoluteTimerExpiry p) s = .next (s.modPort p fun u =>
          { u with attention := .asserted, relTimer := none, absTimer := none }) ∧
        ∀ t, exec (.absoluteTimerExpiry p) s = .next t → exec (.relativeTimerExpiry p) t = .next t)) ∧
    ((s.port p).attention ≠ .waiting →
      exec (.relativeTimerExpiry p) s = .next s ∧ exec (.absoluteTimerExpiry p) s = .next s) ∧
    ((s.port p).relTimer = none → exec (.relativeTimerExpiry p) s = .next s) ∧
    ((s.port p).absTimer = none → exec (.absoluteTimerExpiry p) s = .next s) ∧
    ((s.port p).stretch = none → exec (.stretchTimerExpiry p) s = .next s) ∧
    ∀ code, (s.port p).slot = .busy code → (s.port p).stretch ≠ none →
      exec (.stretchTimerExpiry p) s = .next (s.modPort p fun u =>
        { u with
          stretch := none
          reading := some ⟨packByte false true u.collided u.overrun u.muted (decide (u.notices ≠ []))
            (decide (s.service ≠ .closed)) false, .nothing, false⟩
          collided := false })

/-- Records on the wire (R168 to R171): a notice record is its length L, 5 to 61, the kind code, the clock, the subject and L - 5 bytes of
fields; a reply record is its length L, 2 to 62, the command code, the status code and L - 2 bytes of data, none for an empty reply; a
read sends the status byte, the record, and FFh from there on. The codes of names, statuses and kinds are those of chapter 10, and the
fields of every notice and the data of every reply stand in the order and the widths of its tables. The spare bits of a packed byte that
the tables give no value are left open (assumption 22). -/
def Obligations.RecordsOnTheWire : Prop :=
  (∀ n : Notice, (∀ slip st item cls portions fire members, n.body = .call slip st item cls portions fire members → members.length ≤ 16) →
    ∃ (len : Nat) (fields : List Byte), 5 ≤ len ∧ len ≤ 61 ∧ fields.length + 5 = len ∧ n.body.fields = fields ∧
      n.bytes = [byte len, n.body.code, byte (n.clock / 256), byte n.clock, byte (n.body.subject / 256), byte n.body.subject] ++ fields) ∧
  (∀ r : Reply, (∀ h lines, r.data = .ticket h lines → lines.length ≤ 6) → (∀ h members, r.data = .slip h members → members.length ≤ 10) →
    (∀ more cleared clock entries, r.data = .list more cleared clock entries → entries.length ≤ 14) →
    ∃ (len : Nat) (data : List Byte), 2 ≤ len ∧ len ≤ 62 ∧ data.length + 2 = len ∧ (r.data = .empty → data = []) ∧ r.data.bytes = data ∧
      r.bytes = [byte len, r.code, r.status.code] ++ data) ∧
  (∀ r : Reading, r.byteAt 0 = r.status ∧
    (∀ i b, r.record.bytes[i]? = some b → r.byteAt (i + 1) = b) ∧ ∀ i, r.record.bytes.length < i → r.byteAt i = 0xFF) ∧
  (∀ n, twoBytes n = [byte (n / 256), byte n]) ∧
  (∀ z : Int, -32768 ≤ z → z ≤ 32767 → signedBytes z = twoBytes (if z < 0 then (65536 + z).toNat else z.toNat)) ∧
  [ServiceState.closed, .opened, .draining].map ServiceState.code = [0, 1, 2] ∧
  [WaveState.free, .opened, .sealed].map WaveState.code = [0, 1, 2] ∧
  [StationState.unused, .opened, .paused, .down].map StationState.code = [0, 1, 2, 3] ∧
  [TicketState.planned, .firing, .up].map TicketState.code = [0, 1, 2] ∧
  [SlipClass.normal, .priority].map SlipClass.code = [0, 1] ∧
  (∀ n time timer : Nat, [LineState.waiting n, .called n, .cooking n, .ready time, .void].map LineState.code = [0, 1, 2, 3, 4] ∧
    [SlipState.pending, .called time timer, .taken time].map SlipState.code = [0, 1, 2]) ∧
  [WithdrawReason.timeout, .down, .moved, .emptied, .forced, .discarded].map WithdrawReason.code = [1, 2, 3, 4, 5, 6] ∧
  [StationCause.paused, .resumed, .missedTakes, .ordered, .evacuated, .backupLost, .evacuationStopped, .reopened].map
    StationCause.code = [1, 2, 3, 4, 5, 6, 7, 8] ∧
  [VoidCause.command, .allVoid].map VoidCause.code = [1, 2] ∧
  [ServiceCause.opened, .draining, .closed, .reset].map ServiceCause.code = [1, 2, 3, 4] ∧
  [Status.ok, .clamped, .short, .unknownCommand, .malformed, .muted, .notPermitted, .aborted, .badState, .notOpen, .frozen, .noStation,
    .notStationPort, .wrongStation, .noWave, .waveSealed, .waveBusy, .outsideSweep, .duplicate, .unknownItem, .allOut, .menuFull,
    .ticketsFull, .linesFull, .slipsFull, .unknownTicket, .notUp, .noLine, .notReady, .unknownSlip].map Status.code =
    [0x00, 0x01, 0x02, 0x10, 0x11, 0x12, 0x13, 0x14, 0x20, 0x21, 0x22, 0x23, 0x24, 0x25, 0x30, 0x31, 0x32, 0x33, 0x34, 0x35, 0x36, 0x37,
      0x38, 0x39, 0x3A, 0x40, 0x41, 0x42, 0x43, 0x44] ∧
  (∀ (n : Nat) (st : StationId) (item : ItemCode) (cls : SlipClass) (fire portions members : Nat) (b : NoticeBody),
    b = .preview n st item cls fire portions members → b.code = 0x01 ∧ b.subject = n ∧
      b.fields = [byte st.val] ++ twoBytes item.toNat ++ [cls.code] ++ twoBytes fire ++ [byte portions, byte members]) ∧
  (∀ (n : Nat) (st : StationId) (item : ItemCode) (cls : SlipClass) (fire portions : Nat) (members : List (Nat × Nat)) (b : NoticeBody),
    b = .call n st item cls portions fire members → b.code = 0x02 ∧ b.subject = n ∧
      b.fields = [byte st.val] ++ twoBytes item.toNat ++ [cls.code, byte portions] ++ twoBytes fire ++ [byte members.length] ++
        members.flatMap fun m => twoBytes m.1 ++ [byte m.2]) ∧
  (∀ (n : Nat) (st : StationId) (item : ItemCode) (state : SlipState) (fire portions members : Nat) (b : NoticeBody),
    b = .changed n st item state fire portions members → b.code = 0x03 ∧ b.subject = n ∧
      b.fields = [byte st.val] ++ twoBytes item.toNat ++ [state.code] ++ twoBytes fire ++ [byte portions, byte members]) ∧
  (∀ (n : Nat) (st d : StationId) (item : ItemCode) (reason : WithdrawReason) (b : NoticeBody) (backup : Option StationId),
    b = .withdrawn n st item reason backup → b.code = 0x04 ∧ b.subject = n ∧
      (backup = some d → b.fields = [byte st.val] ++ twoBytes item.toNat ++ [reason.code, byte d.val]) ∧
      (backup = none → b.fields = [byte st.val] ++ twoBytes item.toNat ++ [reason.code, 0xFF])) ∧
  (∀ (n table target line : Nat) (v : WaveId) (late : Bool) (b : NoticeBody),
    (b = .up n v table target late → b.code = 0x05 ∧ b.subject = n ∧
      b.fields = [byte v.val] ++ twoBytes table ++ twoBytes target ++ [if late then 1 else 0]) ∧
    (b = .late n v table target line → b.code = 0x06 ∧ b.subject = n ∧
      b.fields = [byte v.val] ++ twoBytes table ++ twoBytes target ++ [byte line])) ∧
  (∀ (n line refires : Nat) (item : ItemCode) (set : LineSet) (cause : VoidCause) (b : NoticeBody),
    (b = .short n item set → b.code = 0x07 ∧ b.subject = n ∧ b.fields = twoBytes item.toNat ++ twoBytes set.toNat) ∧
    (b = .voided n cause → b.code = 0x08 ∧ b.subject = n ∧ b.fields = [cause.code]) ∧
    (b = .exception n line refires → b.code = 0x09 ∧ b.subject = n ∧ b.fields = [byte line, byte refires])) ∧
  (∀ (st d : StationId) (state : StationState) (cause : StationCause) (left : Nat) (backup : Option StationId) (b : NoticeBody),
    b = .stationState st state cause backup left → b.code = 0x0A ∧ b.subject = st.val ∧
      (backup = some d → b.fields = [state.code, cause.code, byte d.val] ++ twoBytes left) ∧
      (backup = none → b.fields = [state.code, cause.code, 0xFF] ++ twoBytes left)) ∧
  (∀ (v : WaveId) (state : ServiceState) (cause : ServiceCause) (b : NoticeBody),
    (b = .waveFree v → b.code = 0x0B ∧ b.subject = v.val ∧ b.fields = []) ∧
    (b = .service state cause → b.code = 0x0C ∧ b.subject = state.code.toNat ∧ b.fields = [cause.code])) ∧
  ∀ d : ReplyData,
    (∀ state, d = .service state → d.bytes = [state.code]) ∧
    (∀ n, d = .limit n → d.bytes = [byte n]) ∧
    (∀ i, d = .lineIndex i → d.bytes = [byte i]) ∧
    (∀ r, d = .status r → ∃ flags : Byte,
      d.bytes = [r.service.code] ++ twoBytes r.clock ++ twoBytes r.tickets ++ twoBytes r.lines ++ twoBytes r.slips ++ [byte r.refireLimit]
        ++ twoBytes r.ticketsLeft ++ twoBytes r.slipsLeft ++ [flags, byte r.errors] ∧
      ∀ i, i < 8 → (flags.getLsbD i = true ↔ i = 2 ∧ r.collided = true ∨ i = 3 ∧ r.overrun = true ∨ i = 4 ∧ r.muted = true)) ∧
    (∀ v, d = .sweep v → ∃ flags : Byte,
      d.bytes = twoBytes v.first ++ [byte v.count, flags] ++ twoBytes v.start ++ twoBytes v.interval ∧
      (flags.getLsbD 0 = true ↔ v.direction = .down) ∧ flags.getLsbD 1 = v.interlace) ∧
    (∀ state, d = .waveState state → d.bytes = [state.code]) ∧
    (∀ h, d = .hold h → d.bytes = [if h then 1 else 0]) ∧
    (∀ v start amount moved same passed, d = .delay v start amount moved same passed →
      d.bytes = [byte v.val] ++ twoBytes start ++ signedBytes amount ++ twoBytes moved ++ twoBytes same ++ twoBytes passed) ∧
    (∀ n, d = .fired n → d.bytes = twoBytes n) ∧
    (d = .freeWave → d.bytes = List.replicate 21 0) ∧
    (∀ r, d = .wave r → ∃ flags : Byte,
      d.bytes = [r.state.code] ++ twoBytes r.sweep.first ++ [byte r.sweep.count, flags] ++ twoBytes r.sweep.start
        ++ twoBytes r.sweep.interval ++ [if r.hold then 1 else 0, if r.delayed then 1 else 0] ++ twoBytes r.delayAmount.toNat
        ++ twoBytes r.delayLeft.toNat ++ twoBytes r.tickets ++ twoBytes r.slips ++ twoBytes r.pending ∧
      (flags.getLsbD 0 = true ↔ r.sweep.direction = .down) ∧ flags.getLsbD 1 = r.sweep.interlace) ∧
    (∀ e replaced, d = .itemSet e replaced →
      d.bytes = [byte e.index, byte e.station.val] ++ twoBytes e.cook ++ [byte e.batch, if replaced then 1 else 0]) ∧
    (∀ i, d = .itemCleared i → d.bytes = [byte i]) ∧
    (∀ n, d = .menuCleared n → d.bytes = twoBytes n) ∧
    (∀ c out valid, d = .item c none out valid →
      d.bytes = twoBytes c.toNat ++ [0, 0, 0, 0, 0, 0, if out then 1 else 0] ++ twoBytes valid) ∧
    (∀ c e out valid, d = .item c (some e) out valid →
      d.bytes = twoBytes c.toNat ++ [1, byte e.index, byte e.station.val] ++ twoBytes e.cook ++ [byte e.batch, if out then 1 else 0]
        ++ twoBytes valid) ∧
    (∀ i e, d = .diversion i e →
      d.bytes = [byte i.val, if e.enabled then 1 else 0] ++ twoBytes e.code.toNat ++ twoBytes e.mask.toNat
        ++ [e.modifiers, byte e.target.val]) ∧
    (∀ c out lines tickets, d = .markedOut c out lines tickets →
      d.bytes = twoBytes c.toNat ++ [if out then 1 else 0] ++ twoBytes lines ++ twoBytes tickets) ∧
    (∀ c out, d = .markedIn c out → d.bytes = twoBytes c.toNat ++ [if out then 1 else 0]) ∧
    (∀ n state target up late voids, d = .submitted n state target up late voids →
      d.bytes = twoBytes n ++ [state.code] ++ twoBytes target ++ twoBytes up ++ [if late then 1 else 0] ++ twoBytes voids.toNat) ∧
    (∀ n removed detached freed, d = .voided n removed detached freed →
      d.bytes = twoBytes n ++ [byte removed, byte detached, byte freed]) ∧
    (∀ r, d = .pickup r → ∃ marks : Byte,
      d.bytes = twoBytes r.ticket ++ [byte r.wave.val] ++ twoBytes r.table ++ twoBytes r.accepted ++ twoBytes r.target ++ twoBytes r.clock
        ++ twoBytes r.lastReady ++ [byte r.refires, marks] ∧
      marks.getLsbD 0 = r.late ∧ marks.getLsbD 1 = r.exceptional) ∧
    (∀ n i made st state refires exceptional, d = .refired n i made st state refires exceptional →
      d.bytes = twoBytes n ++ [byte i] ++ twoBytes made ++ [byte st.val, state.code, byte refires, if exceptional then 1 else 0]) ∧
    (∀ (h : TicketHeader) (lines : List Line), d = .ticket h lines → (∀ l ∈ lines, l.qty < 32) →
      ∃ (marks : Byte) (entries : List (Byte × Byte)),
      d.bytes = twoBytes h.number ++ [byte h.origin.val, byte h.wave.val] ++ twoBytes h.table
        ++ [byte h.position, marks, h.state.code, byte h.refires] ++ twoBytes h.accepted ++ twoBytes h.target ++ twoBytes h.projected
        ++ [byte h.lineCount] ++ ((lines.zip entries).flatMap fun e =>
          twoBytes e.1.item.toNat ++ [e.2.1, e.2.2, e.1.modifiers] ++ twoBytes
            (match e.1.state with | .waiting n | .called n | .cooking n | .ready n => n | .void => 0)) ∧
      marks.getLsbD 0 = h.rush ∧ marks.getLsbD 1 = h.late ∧ marks.getLsbD 2 = h.exceptional ∧ entries.length = lines.length ∧
      ∀ e ∈ lines.zip entries,
        e.2.1.toNat = e.1.qty + 32 * e.1.state.code.toNat ∧
        e.2.2.toNat = (match e.1.station with | some st => st.val | none => 15) + if e.1.late then 128 else 0) ∧
    (∀ (h : SlipHeader) members, d = .slip h members → ∃ marks : Byte,
      d.bytes = twoBytes h.number ++ [byte h.station.val] ++ twoBytes h.item.toNat ++ [byte h.wave.val, h.cls.code, h.state.code, marks]
        ++ twoBytes h.fire ++ twoBytes (match h.state with | .pending => 0 | .called time _ | .taken time => time)
        ++ [byte h.portions, byte h.memberCount] ++ (members.flatMap fun m => twoBytes m.ticket ++ [byte m.line, byte m.qty]) ∧
      marks.getLsbD 0 = h.previewed ∧ marks.getLsbD 1 = h.delayListed) ∧
    (∀ st (c : StationConfig) state (port backup : Byte),
      (∀ q, c.port = some q → port = byte q.val) → (c.port = none → port = 0xFF) →
      (∀ b, c.backup = some b → backup = byte b.val) → (c.backup = none → backup = 0xFF) →
      (d = .stationSet st c state →
        d.bytes = [byte st.val, port, byte c.slots, byte c.reserve] ++ twoBytes c.plate ++ [byte c.timeout, backup] ++ twoBytes c.horizon
          ++ twoBytes c.window ++ twoBytes c.initialLag ++ [state.code]) ∧
      ∀ r, d = .station st c r →
        d.bytes = [byte st.val, r.state.code, port, byte c.slots, byte c.reserve] ++ twoBytes c.plate ++ [byte c.timeout, backup]
          ++ twoBytes c.horizon ++ twoBytes c.window ++ twoBytes c.initialLag ++ twoBytes r.lag
          ++ [byte r.busy, byte r.called, byte r.taken] ++ twoBytes r.queued ++ twoBytes r.due
          ++ [byte r.missed, if r.evacuating then 1 else 0]) ∧
    (∀ state, d = .stationState state → d.bytes = [state.code]) ∧
    (∀ n st state portions members, d = .taken n st state portions members →
      d.bytes = twoBytes n ++ [byte st.val, state.code, byte portions, byte members]) ∧
    (∀ n st time lag sample lines, d = .bumped n st time lag sample lines →
      d.bytes = twoBytes n ++ [byte st.val] ++ twoBytes time ++ twoBytes lag ++ signedBytes sample ++ [byte lines]) ∧
    (∀ n st state lines, d = .forced n st state lines → d.bytes = twoBytes n ++ [byte st.val, state.code, byte lines]) ∧
    (∀ state left, (∀ b, d = .stationDown state (some b) left → d.bytes = [state.code, byte b.val] ++ twoBytes left) ∧
      (d = .stationDown state none left → d.bytes = [state.code, 0xFF] ++ twoBytes left)) ∧
    (∀ state queued, d = .stationOpen state queued → d.bytes = [state.code] ++ twoBytes queued) ∧
    (∀ stretch rel abs, d = .portMode stretch rel abs → d.bytes = [if stretch then 1 else 0, byte rel, byte abs]) ∧
    (∀ errors muted, d = .restarted errors muted → d.bytes = [byte errors, if muted then 1 else 0]) ∧
    ∀ more cleared clock (entries : List ListEntry), d = .list more cleared clock entries → ∃ flags : Byte,
      d.bytes = [byte entries.length, flags] ++ twoBytes clock ++ entries.flatMap ListEntry.bytes ∧
      flags.getLsbD 0 = more ∧ flags.getLsbD 1 = cleared ∧
      ∀ e ∈ entries,
        (∀ n st state, e = .slip n st state → e.bytes = twoBytes n ++ [byte st.val, state.code]) ∧
        ∀ n v state late exceptional, e = .ticket n v state late exceptional → ∃ place marks : Byte,
          e.bytes = twoBytes n ++ [place, marks] ∧ place.toNat = v.val + 32 * state.code.toNat ∧
          marks.getLsbD 0 = late ∧ marks.getLsbD 1 = exceptional
end

