-- ==== Sys2Proof/Laws/State.lean ====
section
/-! SUPPORT. One lemma per field per update, and the reads of an updated unit. -/

namespace Sys2Proof.Machine

/-! ## mapPorts -/

@[simp] theorem State.mapPorts_service (f : PortId → PortUnit → PortUnit) (s : State) :
    (s.mapPorts f).service = s.service := rfl
@[simp] theorem State.mapPorts_clock (f : PortId → PortUnit → PortUnit) (s : State) :
    (s.mapPorts f).clock = s.clock := rfl
@[simp] theorem State.mapPorts_secondTimer (f : PortId → PortUnit → PortUnit) (s : State) :
    (s.mapPorts f).secondTimer = s.secondTimer := rfl
@[simp] theorem State.mapPorts_nextTicket (f : PortId → PortUnit → PortUnit) (s : State) :
    (s.mapPorts f).nextTicket = s.nextTicket := rfl
@[simp] theorem State.mapPorts_ticketsExhausted (f : PortId → PortUnit → PortUnit) (s : State) :
    (s.mapPorts f).ticketsExhausted = s.ticketsExhausted := rfl
@[simp] theorem State.mapPorts_nextSlip (f : PortId → PortUnit → PortUnit) (s : State) :
    (s.mapPorts f).nextSlip = s.nextSlip := rfl
@[simp] theorem State.mapPorts_slipsExhausted (f : PortId → PortUnit → PortUnit) (s : State) :
    (s.mapPorts f).slipsExhausted = s.slipsExhausted := rfl
@[simp] theorem State.mapPorts_refireLimit (f : PortId → PortUnit → PortUnit) (s : State) :
    (s.mapPorts f).refireLimit = s.refireLimit := rfl
@[simp] theorem State.mapPorts_waves (f : PortId → PortUnit → PortUnit) (s : State) :
    (s.mapPorts f).waves = s.waves := rfl
@[simp] theorem State.mapPorts_menu (f : PortId → PortUnit → PortUnit) (s : State) :
    (s.mapPorts f).menu = s.menu := rfl
@[simp] theorem State.mapPorts_outBoard (f : PortId → PortUnit → PortUnit) (s : State) :
    (s.mapPorts f).outBoard = s.outBoard := rfl
@[simp] theorem State.mapPorts_diversions (f : PortId → PortUnit → PortUnit) (s : State) :
    (s.mapPorts f).diversions = s.diversions := rfl
@[simp] theorem State.mapPorts_tickets (f : PortId → PortUnit → PortUnit) (s : State) :
    (s.mapPorts f).tickets = s.tickets := rfl
@[simp] theorem State.mapPorts_slips (f : PortId → PortUnit → PortUnit) (s : State) :
    (s.mapPorts f).slips = s.slips := rfl
@[simp] theorem State.mapPorts_stations (f : PortId → PortUnit → PortUnit) (s : State) :
    (s.mapPorts f).stations = s.stations := rfl
@[simp] theorem State.mapPorts_ports (f : PortId → PortUnit → PortUnit) (s : State) :
    (s.mapPorts f).ports = Vector.ofFn fun p => f p (s.port p) := rfl
@[simp] theorem State.mapPorts_tenthDivider (f : PortId → PortUnit → PortUnit) (s : State) :
    (s.mapPorts f).tenthDivider = s.tenthDivider := rfl
@[simp] theorem State.mapPorts_freeCount (f : PortId → PortUnit → PortUnit) (s : State) :
    (s.mapPorts f).freeCount = s.freeCount := rfl
@[simp] theorem State.mapPorts_pending (f : PortId → PortUnit → PortUnit) (s : State) :
    (s.mapPorts f).pending = s.pending := rfl

/-! ## modPort -/

@[simp] theorem State.modPort_service (p : PortId) (f : PortUnit → PortUnit) (s : State) :
    (s.modPort p f).service = s.service := rfl
@[simp] theorem State.modPort_clock (p : PortId) (f : PortUnit → PortUnit) (s : State) :
    (s.modPort p f).clock = s.clock := rfl
@[simp] theorem State.modPort_secondTimer (p : PortId) (f : PortUnit → PortUnit) (s : State) :
    (s.modPort p f).secondTimer = s.secondTimer := rfl
@[simp] theorem State.modPort_nextTicket (p : PortId) (f : PortUnit → PortUnit) (s : State) :
    (s.modPort p f).nextTicket = s.nextTicket := rfl
@[simp] theorem State.modPort_ticketsExhausted (p : PortId) (f : PortUnit → PortUnit) (s : State) :
    (s.modPort p f).ticketsExhausted = s.ticketsExhausted := rfl
@[simp] theorem State.modPort_nextSlip (p : PortId) (f : PortUnit → PortUnit) (s : State) :
    (s.modPort p f).nextSlip = s.nextSlip := rfl
@[simp] theorem State.modPort_slipsExhausted (p : PortId) (f : PortUnit → PortUnit) (s : State) :
    (s.modPort p f).slipsExhausted = s.slipsExhausted := rfl
@[simp] theorem State.modPort_refireLimit (p : PortId) (f : PortUnit → PortUnit) (s : State) :
    (s.modPort p f).refireLimit = s.refireLimit := rfl
@[simp] theorem State.modPort_waves (p : PortId) (f : PortUnit → PortUnit) (s : State) :
    (s.modPort p f).waves = s.waves := rfl
@[simp] theorem State.modPort_menu (p : PortId) (f : PortUnit → PortUnit) (s : State) :
    (s.modPort p f).menu = s.menu := rfl
@[simp] theorem State.modPort_outBoard (p : PortId) (f : PortUnit → PortUnit) (s : State) :
    (s.modPort p f).outBoard = s.outBoard := rfl
@[simp] theorem State.modPort_diversions (p : PortId) (f : PortUnit → PortUnit) (s : State) :
    (s.modPort p f).diversions = s.diversions := rfl
@[simp] theorem State.modPort_tickets (p : PortId) (f : PortUnit → PortUnit) (s : State) :
    (s.modPort p f).tickets = s.tickets := rfl
@[simp] theorem State.modPort_slips (p : PortId) (f : PortUnit → PortUnit) (s : State) :
    (s.modPort p f).slips = s.slips := rfl
@[simp] theorem State.modPort_stations (p : PortId) (f : PortUnit → PortUnit) (s : State) :
    (s.modPort p f).stations = s.stations := rfl
@[simp] theorem State.modPort_ports (p : PortId) (f : PortUnit → PortUnit) (s : State) :
    (s.modPort p f).ports = s.ports.set p (f (s.port p)) := rfl
@[simp] theorem State.modPort_tenthDivider (p : PortId) (f : PortUnit → PortUnit) (s : State) :
    (s.modPort p f).tenthDivider = s.tenthDivider := rfl
@[simp] theorem State.modPort_freeCount (p : PortId) (f : PortUnit → PortUnit) (s : State) :
    (s.modPort p f).freeCount = s.freeCount := rfl
@[simp] theorem State.modPort_pending (p : PortId) (f : PortUnit → PortUnit) (s : State) :
    (s.modPort p f).pending = s.pending := rfl

/-! ## mapStations -/

@[simp] theorem State.mapStations_service (f : StationUnit → StationUnit) (s : State) :
    (s.mapStations f).service = s.service := rfl
@[simp] theorem State.mapStations_clock (f : StationUnit → StationUnit) (s : State) :
    (s.mapStations f).clock = s.clock := rfl
@[simp] theorem State.mapStations_secondTimer (f : StationUnit → StationUnit) (s : State) :
    (s.mapStations f).secondTimer = s.secondTimer := rfl
@[simp] theorem State.mapStations_nextTicket (f : StationUnit → StationUnit) (s : State) :
    (s.mapStations f).nextTicket = s.nextTicket := rfl
@[simp] theorem State.mapStations_ticketsExhausted (f : StationUnit → StationUnit) (s : State) :
    (s.mapStations f).ticketsExhausted = s.ticketsExhausted := rfl
@[simp] theorem State.mapStations_nextSlip (f : StationUnit → StationUnit) (s : State) :
    (s.mapStations f).nextSlip = s.nextSlip := rfl
@[simp] theorem State.mapStations_slipsExhausted (f : StationUnit → StationUnit) (s : State) :
    (s.mapStations f).slipsExhausted = s.slipsExhausted := rfl
@[simp] theorem State.mapStations_refireLimit (f : StationUnit → StationUnit) (s : State) :
    (s.mapStations f).refireLimit = s.refireLimit := rfl
@[simp] theorem State.mapStations_waves (f : StationUnit → StationUnit) (s : State) :
    (s.mapStations f).waves = s.waves := rfl
@[simp] theorem State.mapStations_menu (f : StationUnit → StationUnit) (s : State) :
    (s.mapStations f).menu = s.menu := rfl
@[simp] theorem State.mapStations_outBoard (f : StationUnit → StationUnit) (s : State) :
    (s.mapStations f).outBoard = s.outBoard := rfl
@[simp] theorem State.mapStations_diversions (f : StationUnit → StationUnit) (s : State) :
    (s.mapStations f).diversions = s.diversions := rfl
@[simp] theorem State.mapStations_tickets (f : StationUnit → StationUnit) (s : State) :
    (s.mapStations f).tickets = s.tickets := rfl
@[simp] theorem State.mapStations_slips (f : StationUnit → StationUnit) (s : State) :
    (s.mapStations f).slips = s.slips := rfl
@[simp] theorem State.mapStations_stations (f : StationUnit → StationUnit) (s : State) :
    (s.mapStations f).stations = Vector.ofFn fun st => f (s.station st) := rfl
@[simp] theorem State.mapStations_ports (f : StationUnit → StationUnit) (s : State) :
    (s.mapStations f).ports = s.ports := rfl
@[simp] theorem State.mapStations_tenthDivider (f : StationUnit → StationUnit) (s : State) :
    (s.mapStations f).tenthDivider = s.tenthDivider := rfl
@[simp] theorem State.mapStations_freeCount (f : StationUnit → StationUnit) (s : State) :
    (s.mapStations f).freeCount = s.freeCount := rfl
@[simp] theorem State.mapStations_pending (f : StationUnit → StationUnit) (s : State) :
    (s.mapStations f).pending = s.pending := rfl

/-! ## modStation -/

@[simp] theorem State.modStation_service (st : StationId) (f : StationUnit → StationUnit) (s : State) :
    (s.modStation st f).service = s.service := rfl
@[simp] theorem State.modStation_clock (st : StationId) (f : StationUnit → StationUnit) (s : State) :
    (s.modStation st f).clock = s.clock := rfl
@[simp] theorem State.modStation_secondTimer (st : StationId) (f : StationUnit → StationUnit) (s : State) :
    (s.modStation st f).secondTimer = s.secondTimer := rfl
@[simp] theorem State.modStation_nextTicket (st : StationId) (f : StationUnit → StationUnit) (s : State) :
    (s.modStation st f).nextTicket = s.nextTicket := rfl
@[simp] theorem State.modStation_ticketsExhausted (st : StationId) (f : StationUnit → StationUnit) (s : State) :
    (s.modStation st f).ticketsExhausted = s.ticketsExhausted := rfl
@[simp] theorem State.modStation_nextSlip (st : StationId) (f : StationUnit → StationUnit) (s : State) :
    (s.modStation st f).nextSlip = s.nextSlip := rfl
@[simp] theorem State.modStation_slipsExhausted (st : StationId) (f : StationUnit → StationUnit) (s : State) :
    (s.modStation st f).slipsExhausted = s.slipsExhausted := rfl
@[simp] theorem State.modStation_refireLimit (st : StationId) (f : StationUnit → StationUnit) (s : State) :
    (s.modStation st f).refireLimit = s.refireLimit := rfl
@[simp] theorem State.modStation_waves (st : StationId) (f : StationUnit → StationUnit) (s : State) :
    (s.modStation st f).waves = s.waves := rfl
@[simp] theorem State.modStation_menu (st : StationId) (f : StationUnit → StationUnit) (s : State) :
    (s.modStation st f).menu = s.menu := rfl
@[simp] theorem State.modStation_outBoard (st : StationId) (f : StationUnit → StationUnit) (s : State) :
    (s.modStation st f).outBoard = s.outBoard := rfl
@[simp] theorem State.modStation_diversions (st : StationId) (f : StationUnit → StationUnit) (s : State) :
    (s.modStation st f).diversions = s.diversions := rfl
@[simp] theorem State.modStation_tickets (st : StationId) (f : StationUnit → StationUnit) (s : State) :
    (s.modStation st f).tickets = s.tickets := rfl
@[simp] theorem State.modStation_slips (st : StationId) (f : StationUnit → StationUnit) (s : State) :
    (s.modStation st f).slips = s.slips := rfl
@[simp] theorem State.modStation_stations (st : StationId) (f : StationUnit → StationUnit) (s : State) :
    (s.modStation st f).stations = s.stations.set st (f (s.station st)) := rfl
@[simp] theorem State.modStation_ports (st : StationId) (f : StationUnit → StationUnit) (s : State) :
    (s.modStation st f).ports = s.ports := rfl
@[simp] theorem State.modStation_tenthDivider (st : StationId) (f : StationUnit → StationUnit) (s : State) :
    (s.modStation st f).tenthDivider = s.tenthDivider := rfl
@[simp] theorem State.modStation_freeCount (st : StationId) (f : StationUnit → StationUnit) (s : State) :
    (s.modStation st f).freeCount = s.freeCount := rfl
@[simp] theorem State.modStation_pending (st : StationId) (f : StationUnit → StationUnit) (s : State) :
    (s.modStation st f).pending = s.pending := rfl

/-! ## modWave -/

@[simp] theorem State.modWave_service (w : WaveId) (f : Wave → Wave) (s : State) :
    (s.modWave w f).service = s.service := rfl
@[simp] theorem State.modWave_clock (w : WaveId) (f : Wave → Wave) (s : State) :
    (s.modWave w f).clock = s.clock := rfl
@[simp] theorem State.modWave_secondTimer (w : WaveId) (f : Wave → Wave) (s : State) :
    (s.modWave w f).secondTimer = s.secondTimer := rfl
@[simp] theorem State.modWave_nextTicket (w : WaveId) (f : Wave → Wave) (s : State) :
    (s.modWave w f).nextTicket = s.nextTicket := rfl
@[simp] theorem State.modWave_ticketsExhausted (w : WaveId) (f : Wave → Wave) (s : State) :
    (s.modWave w f).ticketsExhausted = s.ticketsExhausted := rfl
@[simp] theorem State.modWave_nextSlip (w : WaveId) (f : Wave → Wave) (s : State) :
    (s.modWave w f).nextSlip = s.nextSlip := rfl
@[simp] theorem State.modWave_slipsExhausted (w : WaveId) (f : Wave → Wave) (s : State) :
    (s.modWave w f).slipsExhausted = s.slipsExhausted := rfl
@[simp] theorem State.modWave_refireLimit (w : WaveId) (f : Wave → Wave) (s : State) :
    (s.modWave w f).refireLimit = s.refireLimit := rfl
@[simp] theorem State.modWave_waves (w : WaveId) (f : Wave → Wave) (s : State) :
    (s.modWave w f).waves = s.waves.set w (f (s.wave w)) := rfl
@[simp] theorem State.modWave_menu (w : WaveId) (f : Wave → Wave) (s : State) :
    (s.modWave w f).menu = s.menu := rfl
@[simp] theorem State.modWave_outBoard (w : WaveId) (f : Wave → Wave) (s : State) :
    (s.modWave w f).outBoard = s.outBoard := rfl
@[simp] theorem State.modWave_diversions (w : WaveId) (f : Wave → Wave) (s : State) :
    (s.modWave w f).diversions = s.diversions := rfl
@[simp] theorem State.modWave_tickets (w : WaveId) (f : Wave → Wave) (s : State) :
    (s.modWave w f).tickets = s.tickets := rfl
@[simp] theorem State.modWave_slips (w : WaveId) (f : Wave → Wave) (s : State) :
    (s.modWave w f).slips = s.slips := rfl
@[simp] theorem State.modWave_stations (w : WaveId) (f : Wave → Wave) (s : State) :
    (s.modWave w f).stations = s.stations := rfl
@[simp] theorem State.modWave_ports (w : WaveId) (f : Wave → Wave) (s : State) :
    (s.modWave w f).ports = s.ports := rfl
@[simp] theorem State.modWave_tenthDivider (w : WaveId) (f : Wave → Wave) (s : State) :
    (s.modWave w f).tenthDivider = s.tenthDivider := rfl
@[simp] theorem State.modWave_freeCount (w : WaveId) (f : Wave → Wave) (s : State) :
    (s.modWave w f).freeCount = s.freeCount := rfl
@[simp] theorem State.modWave_pending (w : WaveId) (f : Wave → Wave) (s : State) :
    (s.modWave w f).pending = s.pending := rfl

/-! ## modTicket -/

@[simp] theorem State.modTicket_service (n : Nat) (f : Ticket → Ticket) (s : State) :
    (s.modTicket n f).service = s.service := rfl
@[simp] theorem State.modTicket_clock (n : Nat) (f : Ticket → Ticket) (s : State) :
    (s.modTicket n f).clock = s.clock := rfl
@[simp] theorem State.modTicket_secondTimer (n : Nat) (f : Ticket → Ticket) (s : State) :
    (s.modTicket n f).secondTimer = s.secondTimer := rfl
@[simp] theorem State.modTicket_nextTicket (n : Nat) (f : Ticket → Ticket) (s : State) :
    (s.modTicket n f).nextTicket = s.nextTicket := rfl
@[simp] theorem State.modTicket_ticketsExhausted (n : Nat) (f : Ticket → Ticket) (s : State) :
    (s.modTicket n f).ticketsExhausted = s.ticketsExhausted := rfl
@[simp] theorem State.modTicket_nextSlip (n : Nat) (f : Ticket → Ticket) (s : State) :
    (s.modTicket n f).nextSlip = s.nextSlip := rfl
@[simp] theorem State.modTicket_slipsExhausted (n : Nat) (f : Ticket → Ticket) (s : State) :
    (s.modTicket n f).slipsExhausted = s.slipsExhausted := rfl
@[simp] theorem State.modTicket_refireLimit (n : Nat) (f : Ticket → Ticket) (s : State) :
    (s.modTicket n f).refireLimit = s.refireLimit := rfl
@[simp] theorem State.modTicket_waves (n : Nat) (f : Ticket → Ticket) (s : State) :
    (s.modTicket n f).waves = s.waves := rfl
@[simp] theorem State.modTicket_menu (n : Nat) (f : Ticket → Ticket) (s : State) :
    (s.modTicket n f).menu = s.menu := rfl
@[simp] theorem State.modTicket_outBoard (n : Nat) (f : Ticket → Ticket) (s : State) :
    (s.modTicket n f).outBoard = s.outBoard := rfl
@[simp] theorem State.modTicket_diversions (n : Nat) (f : Ticket → Ticket) (s : State) :
    (s.modTicket n f).diversions = s.diversions := rfl
@[simp] theorem State.modTicket_tickets (n : Nat) (f : Ticket → Ticket) (s : State) :
    (s.modTicket n f).tickets = s.tickets.map fun t => if t.number = n then f t else t := rfl
@[simp] theorem State.modTicket_slips (n : Nat) (f : Ticket → Ticket) (s : State) :
    (s.modTicket n f).slips = s.slips := rfl
@[simp] theorem State.modTicket_stations (n : Nat) (f : Ticket → Ticket) (s : State) :
    (s.modTicket n f).stations = s.stations := rfl
@[simp] theorem State.modTicket_ports (n : Nat) (f : Ticket → Ticket) (s : State) :
    (s.modTicket n f).ports = s.ports := rfl
@[simp] theorem State.modTicket_tenthDivider (n : Nat) (f : Ticket → Ticket) (s : State) :
    (s.modTicket n f).tenthDivider = s.tenthDivider := rfl
@[simp] theorem State.modTicket_freeCount (n : Nat) (f : Ticket → Ticket) (s : State) :
    (s.modTicket n f).freeCount = s.freeCount := rfl
@[simp] theorem State.modTicket_pending (n : Nat) (f : Ticket → Ticket) (s : State) :
    (s.modTicket n f).pending = s.pending := rfl

/-! ## modLine -/

@[simp] theorem State.modLine_service (n i : Nat) (f : Line → Line) (s : State) :
    (s.modLine n i f).service = s.service := rfl
@[simp] theorem State.modLine_clock (n i : Nat) (f : Line → Line) (s : State) :
    (s.modLine n i f).clock = s.clock := rfl
@[simp] theorem State.modLine_secondTimer (n i : Nat) (f : Line → Line) (s : State) :
    (s.modLine n i f).secondTimer = s.secondTimer := rfl
@[simp] theorem State.modLine_nextTicket (n i : Nat) (f : Line → Line) (s : State) :
    (s.modLine n i f).nextTicket = s.nextTicket := rfl
@[simp] theorem State.modLine_ticketsExhausted (n i : Nat) (f : Line → Line) (s : State) :
    (s.modLine n i f).ticketsExhausted = s.ticketsExhausted := rfl
@[simp] theorem State.modLine_nextSlip (n i : Nat) (f : Line → Line) (s : State) :
    (s.modLine n i f).nextSlip = s.nextSlip := rfl
@[simp] theorem State.modLine_slipsExhausted (n i : Nat) (f : Line → Line) (s : State) :
    (s.modLine n i f).slipsExhausted = s.slipsExhausted := rfl
@[simp] theorem State.modLine_refireLimit (n i : Nat) (f : Line → Line) (s : State) :
    (s.modLine n i f).refireLimit = s.refireLimit := rfl
@[simp] theorem State.modLine_waves (n i : Nat) (f : Line → Line) (s : State) :
    (s.modLine n i f).waves = s.waves := rfl
@[simp] theorem State.modLine_menu (n i : Nat) (f : Line → Line) (s : State) :
    (s.modLine n i f).menu = s.menu := rfl
@[simp] theorem State.modLine_outBoard (n i : Nat) (f : Line → Line) (s : State) :
    (s.modLine n i f).outBoard = s.outBoard := rfl
@[simp] theorem State.modLine_diversions (n i : Nat) (f : Line → Line) (s : State) :
    (s.modLine n i f).diversions = s.diversions := rfl
@[simp] theorem State.modLine_tickets (n i : Nat) (f : Line → Line) (s : State) :
    (s.modLine n i f).tickets = s.tickets.map fun t => if t.number = n then { t with lines := t.lines.modify i f } else t := rfl
@[simp] theorem State.modLine_slips (n i : Nat) (f : Line → Line) (s : State) :
    (s.modLine n i f).slips = s.slips := rfl
@[simp] theorem State.modLine_stations (n i : Nat) (f : Line → Line) (s : State) :
    (s.modLine n i f).stations = s.stations := rfl
@[simp] theorem State.modLine_ports (n i : Nat) (f : Line → Line) (s : State) :
    (s.modLine n i f).ports = s.ports := rfl
@[simp] theorem State.modLine_tenthDivider (n i : Nat) (f : Line → Line) (s : State) :
    (s.modLine n i f).tenthDivider = s.tenthDivider := rfl
@[simp] theorem State.modLine_freeCount (n i : Nat) (f : Line → Line) (s : State) :
    (s.modLine n i f).freeCount = s.freeCount := rfl
@[simp] theorem State.modLine_pending (n i : Nat) (f : Line → Line) (s : State) :
    (s.modLine n i f).pending = s.pending := rfl

/-! ## modSlip -/

@[simp] theorem State.modSlip_service (n : Nat) (f : Slip → Slip) (s : State) :
    (s.modSlip n f).service = s.service := rfl
@[simp] theorem State.modSlip_clock (n : Nat) (f : Slip → Slip) (s : State) :
    (s.modSlip n f).clock = s.clock := rfl
@[simp] theorem State.modSlip_secondTimer (n : Nat) (f : Slip → Slip) (s : State) :
    (s.modSlip n f).secondTimer = s.secondTimer := rfl
@[simp] theorem State.modSlip_nextTicket (n : Nat) (f : Slip → Slip) (s : State) :
    (s.modSlip n f).nextTicket = s.nextTicket := rfl
@[simp] theorem State.modSlip_ticketsExhausted (n : Nat) (f : Slip → Slip) (s : State) :
    (s.modSlip n f).ticketsExhausted = s.ticketsExhausted := rfl
@[simp] theorem State.modSlip_nextSlip (n : Nat) (f : Slip → Slip) (s : State) :
    (s.modSlip n f).nextSlip = s.nextSlip := rfl
@[simp] theorem State.modSlip_slipsExhausted (n : Nat) (f : Slip → Slip) (s : State) :
    (s.modSlip n f).slipsExhausted = s.slipsExhausted := rfl
@[simp] theorem State.modSlip_refireLimit (n : Nat) (f : Slip → Slip) (s : State) :
    (s.modSlip n f).refireLimit = s.refireLimit := rfl
@[simp] theorem State.modSlip_waves (n : Nat) (f : Slip → Slip) (s : State) :
    (s.modSlip n f).waves = s.waves := rfl
@[simp] theorem State.modSlip_menu (n : Nat) (f : Slip → Slip) (s : State) :
    (s.modSlip n f).menu = s.menu := rfl
@[simp] theorem State.modSlip_outBoard (n : Nat) (f : Slip → Slip) (s : State) :
    (s.modSlip n f).outBoard = s.outBoard := rfl
@[simp] theorem State.modSlip_diversions (n : Nat) (f : Slip → Slip) (s : State) :
    (s.modSlip n f).diversions = s.diversions := rfl
@[simp] theorem State.modSlip_tickets (n : Nat) (f : Slip → Slip) (s : State) :
    (s.modSlip n f).tickets = s.tickets := rfl
@[simp] theorem State.modSlip_slips (n : Nat) (f : Slip → Slip) (s : State) :
    (s.modSlip n f).slips = s.slips.map fun x => if x.number = n then f x else x := rfl
@[simp] theorem State.modSlip_stations (n : Nat) (f : Slip → Slip) (s : State) :
    (s.modSlip n f).stations = s.stations := rfl
@[simp] theorem State.modSlip_ports (n : Nat) (f : Slip → Slip) (s : State) :
    (s.modSlip n f).ports = s.ports := rfl
@[simp] theorem State.modSlip_tenthDivider (n : Nat) (f : Slip → Slip) (s : State) :
    (s.modSlip n f).tenthDivider = s.tenthDivider := rfl
@[simp] theorem State.modSlip_freeCount (n : Nat) (f : Slip → Slip) (s : State) :
    (s.modSlip n f).freeCount = s.freeCount := rfl
@[simp] theorem State.modSlip_pending (n : Nat) (f : Slip → Slip) (s : State) :
    (s.modSlip n f).pending = s.pending := rfl

/-! ## setMenu -/

@[simp] theorem State.setMenu_service (menu : List MenuEntry) (s : State) :
    (s.setMenu menu).service = s.service := rfl
@[simp] theorem State.setMenu_clock (menu : List MenuEntry) (s : State) :
    (s.setMenu menu).clock = s.clock := rfl
@[simp] theorem State.setMenu_secondTimer (menu : List MenuEntry) (s : State) :
    (s.setMenu menu).secondTimer = s.secondTimer := rfl
@[simp] theorem State.setMenu_nextTicket (menu : List MenuEntry) (s : State) :
    (s.setMenu menu).nextTicket = s.nextTicket := rfl
@[simp] theorem State.setMenu_ticketsExhausted (menu : List MenuEntry) (s : State) :
    (s.setMenu menu).ticketsExhausted = s.ticketsExhausted := rfl
@[simp] theorem State.setMenu_nextSlip (menu : List MenuEntry) (s : State) :
    (s.setMenu menu).nextSlip = s.nextSlip := rfl
@[simp] theorem State.setMenu_slipsExhausted (menu : List MenuEntry) (s : State) :
    (s.setMenu menu).slipsExhausted = s.slipsExhausted := rfl
@[simp] theorem State.setMenu_refireLimit (menu : List MenuEntry) (s : State) :
    (s.setMenu menu).refireLimit = s.refireLimit := rfl
@[simp] theorem State.setMenu_waves (menu : List MenuEntry) (s : State) :
    (s.setMenu menu).waves = s.waves := rfl
@[simp] theorem State.setMenu_menu (menu : List MenuEntry) (s : State) :
    (s.setMenu menu).menu = menu := rfl
@[simp] theorem State.setMenu_outBoard (menu : List MenuEntry) (s : State) :
    (s.setMenu menu).outBoard = s.outBoard := rfl
@[simp] theorem State.setMenu_diversions (menu : List MenuEntry) (s : State) :
    (s.setMenu menu).diversions = s.diversions := rfl
@[simp] theorem State.setMenu_tickets (menu : List MenuEntry) (s : State) :
    (s.setMenu menu).tickets = s.tickets := rfl
@[simp] theorem State.setMenu_slips (menu : List MenuEntry) (s : State) :
    (s.setMenu menu).slips = s.slips := rfl
@[simp] theorem State.setMenu_stations (menu : List MenuEntry) (s : State) :
    (s.setMenu menu).stations = s.stations := rfl
@[simp] theorem State.setMenu_ports (menu : List MenuEntry) (s : State) :
    (s.setMenu menu).ports = s.ports := rfl
@[simp] theorem State.setMenu_tenthDivider (menu : List MenuEntry) (s : State) :
    (s.setMenu menu).tenthDivider = s.tenthDivider := rfl
@[simp] theorem State.setMenu_freeCount (menu : List MenuEntry) (s : State) :
    (s.setMenu menu).freeCount = s.freeCount := rfl
@[simp] theorem State.setMenu_pending (menu : List MenuEntry) (s : State) :
    (s.setMenu menu).pending = s.pending := rfl

/-! ## setOutBoard -/

@[simp] theorem State.setOutBoard_service (out : List ItemCode) (s : State) :
    (s.setOutBoard out).service = s.service := rfl
@[simp] theorem State.setOutBoard_clock (out : List ItemCode) (s : State) :
    (s.setOutBoard out).clock = s.clock := rfl
@[simp] theorem State.setOutBoard_secondTimer (out : List ItemCode) (s : State) :
    (s.setOutBoard out).secondTimer = s.secondTimer := rfl
@[simp] theorem State.setOutBoard_nextTicket (out : List ItemCode) (s : State) :
    (s.setOutBoard out).nextTicket = s.nextTicket := rfl
@[simp] theorem State.setOutBoard_ticketsExhausted (out : List ItemCode) (s : State) :
    (s.setOutBoard out).ticketsExhausted = s.ticketsExhausted := rfl
@[simp] theorem State.setOutBoard_nextSlip (out : List ItemCode) (s : State) :
    (s.setOutBoard out).nextSlip = s.nextSlip := rfl
@[simp] theorem State.setOutBoard_slipsExhausted (out : List ItemCode) (s : State) :
    (s.setOutBoard out).slipsExhausted = s.slipsExhausted := rfl
@[simp] theorem State.setOutBoard_refireLimit (out : List ItemCode) (s : State) :
    (s.setOutBoard out).refireLimit = s.refireLimit := rfl
@[simp] theorem State.setOutBoard_waves (out : List ItemCode) (s : State) :
    (s.setOutBoard out).waves = s.waves := rfl
@[simp] theorem State.setOutBoard_menu (out : List ItemCode) (s : State) :
    (s.setOutBoard out).menu = s.menu := rfl
@[simp] theorem State.setOutBoard_outBoard (out : List ItemCode) (s : State) :
    (s.setOutBoard out).outBoard = out := rfl
@[simp] theorem State.setOutBoard_diversions (out : List ItemCode) (s : State) :
    (s.setOutBoard out).diversions = s.diversions := rfl
@[simp] theorem State.setOutBoard_tickets (out : List ItemCode) (s : State) :
    (s.setOutBoard out).tickets = s.tickets := rfl
@[simp] theorem State.setOutBoard_slips (out : List ItemCode) (s : State) :
    (s.setOutBoard out).slips = s.slips := rfl
@[simp] theorem State.setOutBoard_stations (out : List ItemCode) (s : State) :
    (s.setOutBoard out).stations = s.stations := rfl
@[simp] theorem State.setOutBoard_ports (out : List ItemCode) (s : State) :
    (s.setOutBoard out).ports = s.ports := rfl
@[simp] theorem State.setOutBoard_tenthDivider (out : List ItemCode) (s : State) :
    (s.setOutBoard out).tenthDivider = s.tenthDivider := rfl
@[simp] theorem State.setOutBoard_freeCount (out : List ItemCode) (s : State) :
    (s.setOutBoard out).freeCount = s.freeCount := rfl
@[simp] theorem State.setOutBoard_pending (out : List ItemCode) (s : State) :
    (s.setOutBoard out).pending = s.pending := rfl

/-! ## Reads of an updated unit -/

@[simp] theorem State.port_modPort_self (p : PortId) (f : PortUnit → PortUnit) (s : State) :
    (s.modPort p f).port p = f (s.port p) := by
  simp [State.port]

theorem State.port_modPort_ne {p q : PortId} (h : q ≠ p) (f : PortUnit → PortUnit) (s : State) :
    (s.modPort p f).port q = s.port q := by
  have : (p : Nat) ≠ q := fun e => h (Fin.ext e.symm)
  simp [State.port, this]

theorem State.port_modPort (p q : PortId) (f : PortUnit → PortUnit) (s : State) :
    (s.modPort p f).port q = if q = p then f (s.port p) else s.port q := by
  split
  · next h => rw [h, State.port_modPort_self]
  · next h => exact State.port_modPort_ne h f s

@[simp] theorem State.port_mapPorts (f : PortId → PortUnit → PortUnit) (p : PortId) (s : State) :
    (s.mapPorts f).port p = f p (s.port p) := by
  simp [State.port]

@[simp] theorem State.station_modStation_self (st : StationId) (f : StationUnit → StationUnit) (s : State) :
    (s.modStation st f).station st = f (s.station st) := by
  simp [State.station]

theorem State.station_modStation_ne {st d : StationId} (h : d ≠ st) (f : StationUnit → StationUnit) (s : State) :
    (s.modStation st f).station d = s.station d := by
  have : (st : Nat) ≠ d := fun e => h (Fin.ext e.symm)
  simp [State.station, this]

theorem State.station_modStation (st d : StationId) (f : StationUnit → StationUnit) (s : State) :
    (s.modStation st f).station d = if d = st then f (s.station st) else s.station d := by
  split
  · next h => rw [h, State.station_modStation_self]
  · next h => exact State.station_modStation_ne h f s

@[simp] theorem State.station_mapStations (f : StationUnit → StationUnit) (st : StationId) (s : State) :
    (s.mapStations f).station st = f (s.station st) := by
  simp [State.station]

@[simp] theorem State.wave_modWave_self (w : WaveId) (f : Wave → Wave) (s : State) :
    (s.modWave w f).wave w = f (s.wave w) := by
  simp [State.wave]

theorem State.wave_modWave_ne {w v : WaveId} (h : v ≠ w) (f : Wave → Wave) (s : State) :
    (s.modWave w f).wave v = s.wave v := by
  have : (w : Nat) ≠ v := fun e => h (Fin.ext e.symm)
  simp [State.wave, this]

theorem State.wave_modWave (w v : WaveId) (f : Wave → Wave) (s : State) :
    (s.modWave w f).wave v = if v = w then f (s.wave w) else s.wave v := by
  split
  · next h => rw [h, State.wave_modWave_self]
  · next h => exact State.wave_modWave_ne h f s

@[simp] theorem State.port_mapStations (f : StationUnit → StationUnit) (q : PortId) (s : State) :
    (s.mapStations f).port q = s.port q := rfl
@[simp] theorem State.port_modStation (st : StationId) (f : StationUnit → StationUnit) (q : PortId) (s : State) :
    (s.modStation st f).port q = s.port q := rfl
@[simp] theorem State.port_modWave (w : WaveId) (f : Wave → Wave) (q : PortId) (s : State) :
    (s.modWave w f).port q = s.port q := rfl
@[simp] theorem State.port_modTicket (n : Nat) (f : Ticket → Ticket) (q : PortId) (s : State) :
    (s.modTicket n f).port q = s.port q := rfl
@[simp] theorem State.port_modLine (n i : Nat) (f : Line → Line) (q : PortId) (s : State) :
    (s.modLine n i f).port q = s.port q := rfl
@[simp] theorem State.port_modSlip (n : Nat) (f : Slip → Slip) (q : PortId) (s : State) :
    (s.modSlip n f).port q = s.port q := rfl
@[simp] theorem State.port_setMenu (menu : List MenuEntry) (q : PortId) (s : State) :
    (s.setMenu menu).port q = s.port q := rfl
@[simp] theorem State.port_setOutBoard (out : List ItemCode) (q : PortId) (s : State) :
    (s.setOutBoard out).port q = s.port q := rfl
@[simp] theorem State.station_mapPorts (f : PortId → PortUnit → PortUnit) (d : StationId) (s : State) :
    (s.mapPorts f).station d = s.station d := rfl
@[simp] theorem State.station_modPort (p : PortId) (f : PortUnit → PortUnit) (d : StationId) (s : State) :
    (s.modPort p f).station d = s.station d := rfl
@[simp] theorem State.station_modWave (w : WaveId) (f : Wave → Wave) (d : StationId) (s : State) :
    (s.modWave w f).station d = s.station d := rfl
@[simp] theorem State.station_modTicket (n : Nat) (f : Ticket → Ticket) (d : StationId) (s : State) :
    (s.modTicket n f).station d = s.station d := rfl
@[simp] theorem State.station_modLine (n i : Nat) (f : Line → Line) (d : StationId) (s : State) :
    (s.modLine n i f).station d = s.station d := rfl
@[simp] theorem State.station_modSlip (n : Nat) (f : Slip → Slip) (d : StationId) (s : State) :
    (s.modSlip n f).station d = s.station d := rfl
@[simp] theorem State.station_setMenu (menu : List MenuEntry) (d : StationId) (s : State) :
    (s.setMenu menu).station d = s.station d := rfl
@[simp] theorem State.station_setOutBoard (out : List ItemCode) (d : StationId) (s : State) :
    (s.setOutBoard out).station d = s.station d := rfl
@[simp] theorem State.wave_mapPorts (f : PortId → PortUnit → PortUnit) (v : WaveId) (s : State) :
    (s.mapPorts f).wave v = s.wave v := rfl
@[simp] theorem State.wave_modPort (p : PortId) (f : PortUnit → PortUnit) (v : WaveId) (s : State) :
    (s.modPort p f).wave v = s.wave v := rfl
@[simp] theorem State.wave_mapStations (f : StationUnit → StationUnit) (v : WaveId) (s : State) :
    (s.mapStations f).wave v = s.wave v := rfl
@[simp] theorem State.wave_modStation (st : StationId) (f : StationUnit → StationUnit) (v : WaveId) (s : State) :
    (s.modStation st f).wave v = s.wave v := rfl
@[simp] theorem State.wave_modTicket (n : Nat) (f : Ticket → Ticket) (v : WaveId) (s : State) :
    (s.modTicket n f).wave v = s.wave v := rfl
@[simp] theorem State.wave_modLine (n i : Nat) (f : Line → Line) (v : WaveId) (s : State) :
    (s.modLine n i f).wave v = s.wave v := rfl
@[simp] theorem State.wave_modSlip (n : Nat) (f : Slip → Slip) (v : WaveId) (s : State) :
    (s.modSlip n f).wave v = s.wave v := rfl
@[simp] theorem State.wave_setMenu (menu : List MenuEntry) (v : WaveId) (s : State) :
    (s.setMenu menu).wave v = s.wave v := rfl
@[simp] theorem State.wave_setOutBoard (out : List ItemCode) (v : WaveId) (s : State) :
    (s.setOutBoard out).wave v = s.wave v := rfl

end Sys2Proof.Machine
end

