-- ==== Sys2Proof/Laws/PortUnits.lean ====
section
/-! SUPPORT. What the shared operations do to one port unit: notices appended and replies placed. -/

namespace Sys2Proof.Machine

/-! ## The attention line -/

@[simp] theorem PortUnit.assertLine_attention (u : PortUnit) : u.assertLine.attention = .asserted := rfl
@[simp] theorem PortUnit.assertLine_slot (u : PortUnit) : u.assertLine.slot = u.slot := rfl
@[simp] theorem PortUnit.assertLine_notices (u : PortUnit) : u.assertLine.notices = u.notices := rfl
@[simp] theorem PortUnit.assertLine_overrun (u : PortUnit) : u.assertLine.overrun = u.overrun := rfl
@[simp] theorem PortUnit.assertLine_stretch (u : PortUnit) : u.assertLine.stretch = u.stretch := rfl
@[simp] theorem PortUnit.assertLine_reading (u : PortUnit) : u.assertLine.reading = u.reading := rfl
@[simp] theorem PortUnit.assertLine_errors (u : PortUnit) : u.assertLine.errors = u.errors := rfl
@[simp] theorem PortUnit.assertLine_muted (u : PortUnit) : u.assertLine.muted = u.muted := rfl
@[simp] theorem PortUnit.assertLine_relTimer (u : PortUnit) : u.assertLine.relTimer = none := rfl
@[simp] theorem PortUnit.assertLine_absTimer (u : PortUnit) : u.assertLine.absTimer = none := rfl

/-- A timer started with a delay runs exactly where the delay is not 0 (R160). -/
theorem startTimer_isSome (d : Nat) : (startTimer d).isSome = true ↔ d ≠ 0 := by
  unfold startTimer; split <;> simp_all

/-- What a non-urgent notice can do to a port unit (R162): nothing but the attention state and its timers. -/
theorem PortUnit.waitLine_spec (u : PortUnit) :
    u.waitLine = u ∨ u.waitLine = u.assertLine ∨
      (u.attention ≠ .asserted ∧ ∃ r a, u.waitLine = { u with attention := .waiting, relTimer := r, absTimer := a } ∧
        (u.attention = .released → r.isSome = true ∨ a.isSome = true) ∧
        (u.attention = .waiting → r.isSome = true)) := by
  unfold PortUnit.waitLine
  cases h : u.attention with
  | released =>
    by_cases hd : u.relDelay = 0 ∧ u.absDelay = 0
    · simp [hd]
    · refine .inr (.inr ⟨by simp, startTimer u.relDelay, startTimer u.absDelay, by simp only [hd, if_false], ?_, by simp⟩)
      intro _
      simp only [startTimer_isSome]
      by_contra hc
      push Not at hc
      exact hd hc
  | waiting =>
    by_cases hd : u.relDelay = 0
    · simp [hd]
    · exact .inr (.inr ⟨by simp, some u.relDelay, u.absTimer, by simp only [hd, if_false, ← h], by simp, by simp⟩)
  | asserted => simp

/-! ## Notices and replies -/

/-- What handing a copy of a notice to a port can do to its queue and overrun flag (R154). -/
theorem PortUnit.append_spec (n : Notice) (u : PortUnit) :
    (u.overrun = true ∧ u.append n = u) ∨
      (u.overrun = false ∧ u.notices.length < Config.noticeCapacity ∧
        ((n.body.urgent = true ∧ u.append n = { u with notices := u.notices ++ [n] }.assertLine) ∨
          (n.body.urgent = false ∧ u.append n = { u with notices := u.notices ++ [n] }.waitLine))) ∨
      (u.overrun = false ∧ Config.noticeCapacity ≤ u.notices.length ∧ u.append n = { u with overrun := true }.assertLine) := by
  unfold PortUnit.append
  cases ho : u.overrun with
  | true => simp
  | false =>
    by_cases hl : u.notices.length < Config.noticeCapacity
    · cases n.body.urgent <;> simp [hl]
    · simp [hl, not_lt.mp hl]

/-- What `placeReply` leaves (R141, R145, R161). -/
theorem PortUnit.placeReply_spec (b : Bool) (r : Reply) (u : PortUnit) :
    (u.stretch = none ∧ u.placeReply b r = { u with slot := .ready r }.assertLine) ∨
      (u.stretch.isSome = true ∧ u.placeReply b r = ({ u with slot := .ready r }.assertLine).makeUp b) := by
  unfold PortUnit.placeReply
  cases u.stretch <;> simp

@[simp] theorem PortUnit.makeUp_stretch (b : Bool) (u : PortUnit) : (u.makeUp b).stretch = none := rfl
@[simp] theorem PortUnit.makeUp_slot (b : Bool) (u : PortUnit) : (u.makeUp b).slot = u.slot := rfl
@[simp] theorem PortUnit.makeUp_notices (b : Bool) (u : PortUnit) : (u.makeUp b).notices = u.notices := rfl
@[simp] theorem PortUnit.makeUp_attention (b : Bool) (u : PortUnit) : (u.makeUp b).attention = u.attention := rfl
@[simp] theorem PortUnit.makeUp_relTimer (b : Bool) (u : PortUnit) : (u.makeUp b).relTimer = u.relTimer := rfl
@[simp] theorem PortUnit.makeUp_absTimer (b : Bool) (u : PortUnit) : (u.makeUp b).absTimer = u.absTimer := rfl
@[simp] theorem PortUnit.makeUp_errors (b : Bool) (u : PortUnit) : (u.makeUp b).errors = u.errors := rfl
@[simp] theorem PortUnit.makeUp_muted (b : Bool) (u : PortUnit) : (u.makeUp b).muted = u.muted := rfl

/-- The slot holds the reply placed. -/
@[simp] theorem PortUnit.placeReply_slot (b : Bool) (r : Reply) (u : PortUnit) : (u.placeReply b r).slot = .ready r := by
  rcases u.placeReply_spec b r with ⟨_, h⟩ | ⟨_, h⟩ <;> rw [h] <;> rfl

/-! ## What the board and the stations can do to a port unit -/

/-- A port unit after some notices handed to it and some replies placed in its slot. -/
inductive PortReach : PortUnit → PortUnit → Prop where
  | refl (u : PortUnit) : PortReach u u
  | append {u v : PortUnit} (n : Notice) (h : PortReach u v) : PortReach u (v.append n)
  | reply {u v : PortUnit} (b : Bool) (r : Reply) (h : PortReach u v) : PortReach u (v.placeReply b r)

theorem PortReach.trans {u v w : PortUnit} (h : PortReach u v) (k : PortReach v w) : PortReach u w := by
  induction k with
  | refl => exact h
  | append n _ ih => exact ih.append n
  | reply b r _ ih => exact ih.reply b r

/-- What a port samples or is set to, which no notice and no reply changes. -/
structure SamePort (u v : PortUnit) : Prop where
  role : v.role = u.role
  address : v.address = u.address
  stretchMode : v.stretchMode = u.stretchMode
  relDelay : v.relDelay = u.relDelay
  absDelay : v.absDelay = u.absDelay
  errors : v.errors = u.errors
  muted : v.muted = u.muted

theorem SamePort.trans {u v w : PortUnit} (h : SamePort u v) (k : SamePort v w) : SamePort u w :=
  ⟨k.role.trans h.role, k.address.trans h.address, k.stretchMode.trans h.stretchMode, k.relDelay.trans h.relDelay,
    k.absDelay.trans h.absDelay, k.errors.trans h.errors, k.muted.trans h.muted⟩

theorem PortUnit.append_same (n : Notice) (u : PortUnit) : SamePort u (u.append n) := by
  rcases u.append_spec n with ⟨_, h⟩ | ⟨_, _, ⟨_, h⟩ | ⟨_, h⟩⟩ | ⟨_, _, h⟩
  · rw [h]; exact ⟨rfl, rfl, rfl, rfl, rfl, rfl, rfl⟩
  · rw [h]; exact ⟨rfl, rfl, rfl, rfl, rfl, rfl, rfl⟩
  · rw [h]
    rcases PortUnit.waitLine_spec { u with notices := u.notices ++ [n] } with k | k | ⟨_, _, _, k, _, _⟩ <;> rw [k] <;>
      exact ⟨rfl, rfl, rfl, rfl, rfl, rfl, rfl⟩
  · rw [h]; exact ⟨rfl, rfl, rfl, rfl, rfl, rfl, rfl⟩

theorem PortUnit.placeReply_same (b : Bool) (r : Reply) (u : PortUnit) : SamePort u (u.placeReply b r) := by
  rcases u.placeReply_spec b r with ⟨_, h⟩ | ⟨_, h⟩ <;> rw [h] <;> exact ⟨rfl, rfl, rfl, rfl, rfl, rfl, rfl⟩

theorem PortReach.same {u v : PortUnit} (h : PortReach u v) : SamePort u v := by
  induction h with
  | refl => exact ⟨rfl, rfl, rfl, rfl, rfl, rfl, rfl⟩
  | append n _ ih => exact ih.trans (PortUnit.append_same n _)
  | reply b r _ ih => exact ih.trans (PortUnit.placeReply_same b r _)

/-! ## Copies handed over -/

/-- What a notice handed over leaves of the queue: as it was with the overrun flag set, or longer by the copy (R154). -/
theorem PortUnit.append_queue (n : Notice) (u : PortUnit) :
    (u.append n).notices = u.notices ∧ (u.append n).overrun = true ∨
      (u.append n).notices = u.notices ++ [n] ∧ u.overrun = false ∧ (u.append n).overrun = false := by
  rcases u.append_spec n with ⟨o, h⟩ | ⟨o, _, ⟨_, h⟩ | ⟨_, h⟩⟩ | ⟨_, _, h⟩
  · rw [h]; exact .inl ⟨rfl, o⟩
  · rw [h]; exact .inr ⟨rfl, o, o⟩
  · rw [h]
    rcases PortUnit.waitLine_spec { u with notices := u.notices ++ [n] } with k | k | ⟨_, _, _, k, _, _⟩ <;> rw [k] <;> exact .inr ⟨rfl, o, o⟩
  · rw [h]; exact .inl ⟨rfl, rfl⟩

/-- The copy just handed over is the last. -/
theorem PortUnit.toldLast_append (n : Notice) (u : PortUnit) : (u.append n).ToldLast n := by
  rcases u.append_queue n with ⟨_, h⟩ | ⟨h, _, _⟩
  · exact .inl h
  · exact .inr ⟨_, h⟩

theorem PortUnit.ToldLast.told {n : Notice} {u : PortUnit} (h : u.ToldLast n) : u.Told n := by
  rcases h with h | ⟨before, h⟩
  · exact .inl h
  · exact .inr (by rw [h]; simp)

/-- A port told of a notice stays so told through every later copy. -/
theorem PortUnit.Told.append {n : Notice} {u : PortUnit} (h : u.Told n) (m : Notice) : (u.append m).Told n := by
  rcases u.append_queue m with ⟨_, k⟩ | ⟨k, o, _⟩
  · exact .inl k
  · rcases h with h | h
    · rw [o] at h; cases h
    · exact .inr (by rw [k]; simp [h])

theorem PortUnit.Told.placeReply {n : Notice} {u : PortUnit} (h : u.Told n) (b : Bool) (r : Reply) : (u.placeReply b r).Told n := by
  rcases u.placeReply_spec b r with ⟨_, k⟩ | ⟨_, k⟩ <;> rw [k] <;> exact h

theorem PortUnit.ToldLast.placeReply {n : Notice} {u : PortUnit} (h : u.ToldLast n) (b : Bool) (r : Reply) :
    (u.placeReply b r).ToldLast n := by
  rcases u.placeReply_spec b r with ⟨_, k⟩ | ⟨_, k⟩ <;> rw [k] <;> exact h

/-- A port told of a notice stays so told through copies and replies. -/
theorem PortReach.told {u v : PortUnit} (h : PortReach u v) {n : Notice} (k : u.Told n) : v.Told n := by
  induction h with
  | refl => exact k
  | append m _ ih => exact ih.append m
  | reply b r _ ih => exact ih.placeReply b r

end Sys2Proof.Machine
end

