-- ==== Sys2Proof/Laws/Kept.lean ====
section
/-! SUPPORT. What every shared operation of the board and the stations keeps, said once per operation. -/

namespace Sys2Proof.Machine

/-- The parts of the state no shared operation changes: those it may change are blanked. -/
def State.still (s : State) : State :=
  { s with
    service := .closed
    secondTimer := none
    waves := Vector.replicate 32 freeWave
    tickets := []
    slips := []
    stations := Vector.replicate 12 (stationAtStart stationConfigAtPowerOn .unused)
    ports := Vector.ofFn (portAtReset strapsAtReset) }

/-- From `s` to `t`: the counters, the clock, the menu, the marks, the diversions and the queue as they were; ports only handed notices
and replies; station configurations kept; no ticket or slip created and none renumbered, no member added. -/
structure Kept (s t : State) : Prop where
  still : t.still = s.still
  ports : ∀ p, PortReach (s.port p) (t.port p)
  configs : ∀ st, (t.station st).config = (s.station st).config
  tickets : (t.tickets.map Ticket.number).Sublist (s.tickets.map Ticket.number)
  slips : (t.slips.map Slip.number).Sublist (s.slips.map Slip.number)
  members : ∀ y ∈ t.slips, ∃ x ∈ s.slips, x.number = y.number ∧ y.members ⊆ x.members

theorem Kept.refl (s : State) : Kept s s :=
  ⟨rfl, fun _ => .refl _, fun _ => rfl, .refl _, .refl _, fun y hy => ⟨y, hy, rfl, fun _ h => h⟩⟩

theorem Kept.trans {s t u : State} (h : Kept s t) (k : Kept t u) : Kept s u where
  still := k.still.trans h.still
  ports p := (h.ports p).trans (k.ports p)
  configs st := (k.configs st).trans (h.configs st)
  tickets := k.tickets.trans h.tickets
  slips := k.slips.trans h.slips
  members z hz := by
    obtain ⟨y, hy, hn, hm⟩ := k.members z hz
    obtain ⟨x, hx, hn', hm'⟩ := h.members y hy
    exact ⟨x, hx, hn'.trans hn, fun _ hh => hm' (hm hh)⟩

/-- A fold of steps that each keep. -/
theorem Kept.foldl {α : Type} {f : State → α → State} (hf : ∀ s a, Kept s (f s a)) (l : List α) (s : State) :
    Kept s (l.foldl f s) := by
  induction l generalizing s with
  | nil => exact .refl s
  | cons a l ih => exact (hf s a).trans (ih _)

/-! ## Updates -/

theorem Kept.of_ports {s : State} {f : PortId → PortUnit → PortUnit} (hf : ∀ p, PortReach (s.port p) (f p (s.port p))) :
    Kept s (s.mapPorts f) :=
  ⟨rfl, fun p => by rw [State.port_mapPorts]; exact hf p, fun _ => rfl, .refl _, .refl _, fun y hy => ⟨y, hy, rfl, fun _ h => h⟩⟩

theorem Kept.modPort {s : State} {p : PortId} {f : PortUnit → PortUnit} (hf : PortReach (s.port p) (f (s.port p))) :
    Kept s (s.modPort p f) :=
  ⟨rfl, fun q => by
    rw [State.port_modPort]
    split
    · next h => rw [h]; exact hf
    · exact .refl _, fun _ => rfl, .refl _, .refl _, fun y hy => ⟨y, hy, rfl, fun _ h => h⟩⟩

theorem Kept.modStation {s : State} {st : StationId} {f : StationUnit → StationUnit}
    (hf : (f (s.station st)).config = (s.station st).config) : Kept s (s.modStation st f) :=
  ⟨rfl, fun _ => .refl _, fun d => by
    rw [State.station_modStation]
    split
    · next h => rw [h]; exact hf
    · rfl, .refl _, .refl _, fun y hy => ⟨y, hy, rfl, fun _ h => h⟩⟩

theorem Kept.modWave (s : State) (w : WaveId) (f : Wave → Wave) : Kept s (s.modWave w f) :=
  ⟨rfl, fun _ => .refl _, fun _ => rfl, .refl _, .refl _, fun y hy => ⟨y, hy, rfl, fun _ h => h⟩⟩

theorem Kept.modTicket {s : State} {n : Nat} {f : Ticket → Ticket} (hf : ∀ t, (f t).number = t.number) :
    Kept s (s.modTicket n f) := by
  refine ⟨rfl, fun _ => .refl _, fun _ => rfl, ?_, .refl _, fun y hy => ⟨y, hy, rfl, fun _ h => h⟩⟩
  have : (s.modTicket n f).tickets.map Ticket.number = s.tickets.map Ticket.number := by
    simp only [State.modTicket_tickets, List.map_map]
    refine List.map_congr_left fun t _ => ?_
    simp only [Function.comp]
    split <;> simp [hf]
  rw [this]

theorem Kept.modLine (s : State) (n i : Nat) (f : Line → Line) : Kept s (s.modLine n i f) :=
  Kept.modTicket fun _ => rfl

theorem Kept.modSlip {s : State} {n : Nat} {f : Slip → Slip} (hf : ∀ x, x.number = n → (f x).number = n)
    (hm : ∀ x ∈ s.slips, x.number = n → (f x).members ⊆ x.members) : Kept s (s.modSlip n f) := by
  refine ⟨rfl, fun _ => .refl _, fun _ => rfl, .refl _, ?_, ?_⟩
  · have : (s.modSlip n f).slips.map Slip.number = s.slips.map Slip.number := by
      simp only [State.modSlip_slips, List.map_map]
      refine List.map_congr_left fun x _ => ?_
      simp only [Function.comp]
      split
      · next h => rw [hf x h, h]
      · rfl
    rw [this]
  · intro y hy
    simp only [State.modSlip_slips, List.mem_map] at hy
    obtain ⟨x, hx, rfl⟩ := hy
    refine ⟨x, hx, ?_, ?_⟩
    · split
      · next h => rw [hf x h, h]
      · rfl
    · split
      · next h => exact hm x hx h
      · exact fun _ h => h

/-! ## Ops.lean -/

/-- A posted notice changes ports only, each by at most one copy (R153, R154). -/
theorem Kept.post (r : PortId → Bool) (b : NoticeBody) (s : State) : Kept s (s.post r b) :=
  Kept.of_ports fun p => by
    split
    · exact (PortReach.refl _).append _
    · exact .refl _

theorem Kept.reply (p : PortId) (r : Reply) (s : State) : Kept s (s.reply p r) :=
  Kept.modPort ((PortReach.refl _).reply _ _)

theorem Kept.answer (p : PortId) (c : Cmd) (st : Status) (d : ReplyData) (s : State) : Kept s (s.answer p c st d) :=
  Kept.reply p _ s

/-! ## Board.lean -/

theorem Kept.workOut (n : Nat) (s : State) : Kept s (s.workOut n) := by
  unfold State.workOut
  split
  · exact .refl s
  · have h : Kept s (s.modTicket n fun t => { t with state := t.workedState }) := Kept.modTicket fun _ => rfl
    dsimp only
    split
    · exact h.trans (.post _ _ _)
    · exact h

theorem Kept.workOutAll (ms : List Member) (s : State) : Kept s (s.workOutAll ms) := by
  unfold State.workOutAll
  exact Kept.foldl (fun s m => .workOut m.ticket s) ms s

theorem Kept.setMembers (ms : List Member) (ls : LineState) (s : State) : Kept s (s.setMembers ms ls) := by
  unfold State.setMembers
  exact Kept.foldl (fun s m => .modLine s m.ticket m.line _) ms s

theorem Kept.markLeft (w : WaveId) (n : Nat) (s : State) : Kept s (s.markLeft w n) := .modWave s w _

theorem Kept.unlist (w : WaveId) (n : Nat) (s : State) : Kept s (s.unlist w n) := .modWave s w _

theorem Kept.endDelay (w : WaveId) (d : Delay) (s : State) : Kept s (s.endDelay w d) :=
  (Kept.modWave s w _).trans (.answer _ _ _ _ _)

theorem Kept.endDelayOf (w : WaveId) (s : State) : Kept s (s.endDelayOf w) := by
  unfold State.endDelayOf
  split
  · exact .endDelay w _ s
  · exact .refl s

theorem Kept.freeIfDone (w : WaveId) (s : State) : Kept s (s.freeIfDone w) := by
  unfold State.freeIfDone
  split
  · exact ((Kept.endDelayOf w s).trans (.modWave _ w _)).trans (.post _ _ _)
  · exact .refl s

theorem Kept.endEvacuation (st : StationId) (c : StationCause) (n : Nat) (s : State) : Kept s (s.endEvacuation st c n) :=
  (Kept.modStation rfl).trans (.post _ _ _)

theorem Kept.finishEvacuation (st : StationId) (s : State) : Kept s (s.finishEvacuation st) := by
  unfold State.finishEvacuation
  split
  · exact .endEvacuation st _ _ s
  · exact .refl s

/-- The slips kept where only some leave the store. -/
theorem Kept.filterSlips (s : State) (f : Slip → Bool) : Kept s { s with slips := s.slips.filter f } :=
  ⟨rfl, fun _ => .refl _, fun _ => rfl, .refl _, List.filter_sublist.map _,
    fun y hy => ⟨y, List.mem_of_mem_filter hy, rfl, fun _ h => h⟩⟩

theorem Kept.filterTickets (s : State) (f : Ticket → Bool) : Kept s { s with tickets := s.tickets.filter f } :=
  ⟨rfl, fun _ => .refl _, fun _ => rfl, List.filter_sublist.map _, .refl _, fun y hy => ⟨y, hy, rfl, fun _ h => h⟩⟩

theorem Kept.dropSlip (x : Slip) (s : State) : Kept s (s.dropSlip x) := by
  have h : Kept s (({ s.markLeft x.wave x.number with
      slips := (s.markLeft x.wave x.number).slips.filter fun y => y.number != x.number } : State).freeIfDone x.wave) :=
    ((Kept.markLeft _ _ s).trans (.filterSlips _ _)).trans (.freeIfDone _ _)
  unfold State.dropSlip
  dsimp only
  split
  · exact h.trans (.finishEvacuation _ _)
  · exact h

theorem Kept.emptySlip (x : Slip) (s : State) : Kept s (s.emptySlip x) := by
  unfold State.emptySlip
  split
  · exact (Kept.post _ _ s).trans (.dropSlip x _)
  · exact .dropSlip x s

/-- A member leaving a slip changes no number and adds no member; `x` is the slip as it stands in the store. -/
theorem Kept.removeMember {x : Slip} {s : State} (hx : ∀ y ∈ s.slips, y.number = x.number → x.members ⊆ y.members) (n i : Nat) :
    Kept s (s.removeMember x n i) := by
  unfold State.removeMember
  split
  · exact .emptySlip x s
  · have h : Kept s (s.modSlip x.number fun _ => { x with members := x.without n i, portions := x.portions - x.portionsOf n i }) :=
      Kept.modSlip (fun _ _ => rfl) fun y hy e _ hm => hx y hy e (List.mem_of_mem_filter hm)
    dsimp only
    split
    · exact h.trans (.post _ _ _)
    · exact h

theorem Kept.detachMember {x : Slip} {s : State} (hx : ∀ y ∈ s.slips, y.number = x.number → x.members ⊆ y.members) (n i : Nat) :
    Kept s (s.detachMember x n i) :=
  Kept.modSlip (fun _ h => h) fun y hy e _ hm => hx y hy e (List.mem_of_mem_filter hm)

theorem Kept.discard (s : State) (x : Slip) : Kept s (s.discard x) := (Kept.post _ _ s).trans (.dropSlip x _)

theorem Kept.toClosed (s : State) : Kept s s.toClosed :=
  ⟨rfl, fun _ => .refl _, fun st => by unfold State.toClosed; rw [State.station_mapStations]; rfl, .refl _, .refl _,
    fun y hy => ⟨y, hy, rfl, fun _ h => h⟩⟩

theorem Kept.endDraining (s : State) : Kept s s.endDraining :=
  ((Kept.foldl Kept.discard s.slips s).trans (.toClosed _)).trans (.post _ _ _)

theorem Kept.endIfDrained (s : State) : Kept s s.endIfDrained := by
  unfold State.endIfDrained
  split
  · exact .endDraining s
  · exact .refl s

theorem Kept.leaveTable (t : Ticket) (s : State) : Kept s (s.leaveTable t) :=
  ((Kept.filterTickets s _).trans (.freeIfDone _ _)).trans (.endIfDrained _)

theorem Kept.setLate (n i : Nat) (s : State) : Kept s (s.setLate n i) := by
  unfold State.setLate
  dsimp only
  split
  · split
    · exact .modLine s n i _
    · refine .trans ?_ (.post _ _ _)
      refine .trans ?_ (.modTicket fun _ => rfl)
      exact .modLine s n i _
  · exact .modLine s n i _

/-! ## Floor.lean -/

theorem Kept.preview (st : StationId) (x : Slip) (s : State) : Kept s (s.preview st x) := by
  unfold State.preview
  refine .trans ?_ (.post _ _ _)
  exact .modSlip (fun _ h => h) fun _ _ _ _ h => h

theorem Kept.previewPass (st : StationId) (s : State) : Kept s (s.previewPass st) := by
  unfold State.previewPass
  refine .foldl (fun s x => ?_) _ s
  split
  · exact .preview st x s
  · exact .refl s

theorem Kept.callSlip (st : StationId) (x : Slip) (s : State) : Kept s (s.callSlip st x) := by
  unfold State.callSlip
  refine .trans ?_ (.post _ _ _)
  refine .trans ?_ (.workOutAll _ _)
  refine .trans ?_ (.setMembers _ _ _)
  refine .trans ?_ (.modSlip (fun _ h => h) fun _ _ _ _ h => h)
  exact .markLeft _ _ s

theorem Kept.callPass (st : StationId) (k : Nat) (s : State) : Kept s (s.callPass st k) := by
  induction k generalizing s with
  | zero => exact .refl s
  | succ k ih =>
    unfold State.callPass
    split
    · exact (Kept.callSlip st _ s).trans (ih _)
    · exact .refl s

theorem Kept.consider (st : StationId) (s : State) : Kept s (s.consider st) := by
  unfold State.consider
  split
  · exact (Kept.previewPass st s).trans (.callPass st _ _)
  · exact .previewPass st s
  · exact .refl s
  · exact .refl s

theorem Kept.considerAll (sel : StationId → Bool) (s : State) : Kept s (s.considerAll sel) := by
  unfold State.considerAll
  refine .foldl (fun s st => ?_) _ s
  split
  · exact .consider st s
  · exact .refl s

theorem Kept.returnSlip (x : Slip) (r : WithdrawReason) (s : State) : Kept s (s.returnSlip x r) := by
  unfold State.returnSlip State.postWithdrawn
  refine .trans ?_ (.post _ _ _)
  refine .trans ?_ (.workOutAll _ _)
  refine .trans ?_ (.setMembers _ _ _)
  exact .modSlip (fun _ h => h) fun _ _ _ _ h => h

theorem Kept.loseBackup (b : StationId) (s : State) (d : StationId) : Kept s (s.loseBackup b d) := by
  unfold State.loseBackup
  split
  · exact .endEvacuation d _ _ s
  · exact .refl s

/-- The return of a list of CALLED slips, each with a reason. -/
theorem Kept.returnSlips (l : List Slip) (r : WithdrawReason) (s : State) : Kept s (l.foldl (fun s x => s.returnSlip x r) s) :=
  Kept.foldl (f := fun s x => s.returnSlip x r) (fun s x => Kept.returnSlip x r s) l s

theorem Kept.loseBackups (st : StationId) (s : State) : Kept s (allStations.foldl (State.loseBackup st) s) :=
  Kept.foldl (Kept.loseBackup st) allStations s

theorem Kept.setEvacuating (st : StationId) (b : Bool) (s : State) :
    Kept s (s.modStation st fun u => { u with evacuating := b }) := .modStation rfl

theorem Kept.goDown (st : StationId) (c : StationCause) (s : State) : Kept s (s.goDown st c) := by
  unfold State.goDown
  extract_lets s1 s2 backup left s3 s4
  have h1 : Kept s s1 := .modStation rfl
  have h2 : Kept s1 s2 := .returnSlips _ _ s1
  have h3 : Kept s2 s3 := .post _ _ s2
  have h4 : Kept s3 s4 := .loseBackups st s3
  have h := ((h1.trans h2).trans h3).trans h4
  clear_value s4
  split
  · exact h.trans (.setEvacuating st true s4)
  · exact h

theorem Kept.timeoutSlip (x : Slip) (s : State) : Kept s (s.timeoutSlip x) := by
  have h : Kept s ((s.returnSlip x .timeout).modStation x.station fun u => { u with missed := u.missed + 1 }) :=
    (Kept.returnSlip x _ s).trans (.modStation rfl)
  unfold State.timeoutSlip
  dsimp only
  split
  · exact h.trans (.goDown _ _ _)
  · exact h

/-- A CALLED slip of a station with its take timer lowered (R110). -/
def Slip.lowered (st : StationId) (x : Slip) : Slip :=
  match x.state with
  | .called t timer => if x.station = st then { x with state := .called t (timer - 1) } else x
  | .pending | .taken _ => x

theorem State.lowerTimers_slips (st : StationId) (s : State) : (s.lowerTimers st).slips = s.slips.map (Slip.lowered st) := rfl

/-- Lowering changes the take timer alone. -/
theorem Slip.lowered_spec (st : StationId) (x : Slip) : ∃ r, Slip.lowered st x = { x with state := r } ∧
    ((r = x.state) ∨ ∃ t k, x.state = .called t k ∧ x.station = st ∧ r = .called t (k - 1)) := by
  unfold Slip.lowered
  split
  · next t k h =>
    split
    · next e => exact ⟨_, rfl, .inr ⟨t, k, h, e, rfl⟩⟩
    · exact ⟨x.state, rfl, .inl rfl⟩
  · exact ⟨x.state, rfl, .inl rfl⟩
  · exact ⟨x.state, rfl, .inl rfl⟩

theorem Kept.lowerTimers (st : StationId) (s : State) : Kept s (s.lowerTimers st) := by
  refine ⟨rfl, fun _ => .refl _, fun _ => rfl, .refl _, ?_, ?_⟩
  · rw [State.lowerTimers_slips, List.map_map]
    have : s.slips.map (Slip.number ∘ Slip.lowered st) = s.slips.map Slip.number :=
      List.map_congr_left fun x _ => by obtain ⟨r, h, _⟩ := x.lowered_spec st; simp [Function.comp, h]
    rw [this]
  · intro y hy
    rw [State.lowerTimers_slips, List.mem_map] at hy
    obtain ⟨x, hx, rfl⟩ := hy
    obtain ⟨r, h, _⟩ := x.lowered_spec st
    exact ⟨x, hx, by rw [h], by rw [h]; exact fun _ h => h⟩

theorem Kept.timeoutAll (st : StationId) (l : List Slip) (s : State) : Kept s (s.timeoutAll st l) := by
  induction l generalizing s with
  | nil => exact .refl s
  | cons x l ih =>
    unfold State.timeoutAll
    dsimp only
    split
    · exact .timeoutSlip x s
    · exact (Kept.timeoutSlip x s).trans (ih _)

theorem Kept.secondAt (st : StationId) (s : State) : Kept s (s.secondAt st) := by
  unfold State.secondAt
  dsimp only
  split
  · exact ((Kept.lowerTimers st s).trans (.timeoutAll st _ _)).trans (.consider st _)
  · exact .refl s

theorem Kept.finishSlip (x : Slip) (s : State) : Kept s (s.finishSlip x) := by
  unfold State.finishSlip
  refine .trans ?_ (.dropSlip x _)
  refine .trans ?_ (.workOutAll _ _)
  exact .setMembers _ _ s

end Sys2Proof.Machine
end

