-- ==== Sys2Proof/Laws/Calls.lean ====
section
/-! SUPPORT. What the operations that call, preview, return and work out leave of the records: lines change state alone, tickets their
state and lines, slips their state and previewed flag, waves the marks of their delay lists. -/

namespace Sys2Proof.Machine

/-! ## Record by record -/

/-- A line whose state alone may have changed. -/
def Line.Same (l m : Line) : Prop := m = { l with state := m.state }

/-- A ticket whose state and lines' states alone may have changed. -/
structure Ticket.Same (k j : Ticket) : Prop where
  fields : j = { k with state := j.state, lines := j.lines }
  lines : List.Forall₂ Line.Same k.lines j.lines

/-- A slip whose state may have changed and whose previewed flag may have been set. -/
structure Slip.Same (x y : Slip) : Prop where
  fields : y = { x with state := y.state, previewed := y.previewed }
  previewed : x.previewed = true → y.previewed = true

/-- A delay list with more slips marked left-PENDING (R26). -/
def marked (marks : Nat → Bool) (l : List (Nat × Bool)) : List (Nat × Bool) := l.map fun e => (e.1, e.2 || marks e.1)

/-- A wave whose delay list alone may have changed, by marks. -/
def Wave.Same (v w : Wave) : Prop :=
  ∃ marks, w = { v with delay := v.delay.map fun d => { d with slips := marked marks d.slips } }

theorem Line.Same.refl (l : Line) : l.Same l := rfl

theorem Line.Same.trans {l m n : Line} (h : l.Same m) (k : m.Same n) : l.Same n := by
  unfold Line.Same at *; rw [k, h]

theorem Ticket.Same.refl (k : Ticket) : k.Same k := ⟨rfl, List.forall₂_same.mpr fun l _ => .refl l⟩

theorem forall₂_trans {α : Type} {r : α → α → Prop} (hr : ∀ a b c, r a b → r b c → r a c) :
    ∀ {l m n : List α}, List.Forall₂ r l m → List.Forall₂ r m n → List.Forall₂ r l n
  | _, _, _, .nil, .nil => .nil
  | _, _, _, .cons h hs, .cons k ks => .cons (hr _ _ _ h k) (forall₂_trans hr hs ks)

theorem Ticket.Same.trans {i j k : Ticket} (h : i.Same j) (g : j.Same k) : i.Same k :=
  ⟨by rw [g.fields, h.fields], forall₂_trans (r := Line.Same) (fun _ _ _ => Line.Same.trans) h.lines g.lines⟩

theorem Slip.Same.refl (x : Slip) : x.Same x := ⟨rfl, id⟩

theorem Slip.Same.trans {x y z : Slip} (h : x.Same y) (k : y.Same z) : x.Same z :=
  ⟨by rw [k.fields, h.fields], fun hx => k.previewed (h.previewed hx)⟩

theorem Wave.Same.refl (v : Wave) : v.Same v := by
  refine ⟨fun _ => false, ?_⟩
  rcases v with ⟨_, _, _, _ | d⟩
  · rfl
  · simp [marked]

theorem Wave.Same.trans {u v w : Wave} (h : u.Same v) (k : v.Same w) : u.Same w := by
  obtain ⟨m, rfl⟩ := h
  obtain ⟨n, rfl⟩ := k
  refine ⟨fun i => m i || n i, ?_⟩
  rcases u with ⟨_, _, _, _ | d⟩
  · rfl
  · simp [marked, Bool.or_assoc]

/-! ## State by state -/

/-- From `s` to `t`: the records in the same places, each the same in the sense above, and ports only handed notices and replies. -/
structure Quiet (s t : State) : Prop where
  frame : t = { s with waves := t.waves, tickets := t.tickets, slips := t.slips, ports := t.ports }
  waves : ∀ w, (s.wave w).Same (t.wave w)
  tickets : List.Forall₂ Ticket.Same s.tickets t.tickets
  slips : List.Forall₂ Slip.Same s.slips t.slips
  ports : ∀ p, PortReach (s.port p) (t.port p)

theorem Quiet.refl (s : State) : Quiet s s :=
  ⟨rfl, fun _ => .refl _, List.forall₂_same.mpr fun k _ => .refl k, List.forall₂_same.mpr fun x _ => .refl x, fun _ => .refl _⟩

theorem Quiet.trans {s t u : State} (h : Quiet s t) (k : Quiet t u) : Quiet s u :=
  ⟨by rw [k.frame, h.frame], fun w => (h.waves w).trans (k.waves w), forall₂_trans (r := Ticket.Same) (fun _ _ _ => Ticket.Same.trans) h.tickets k.tickets,
    forall₂_trans (r := Slip.Same) (fun _ _ _ => Slip.Same.trans) h.slips k.slips, fun p => (h.ports p).trans (k.ports p)⟩

/-- No station unit changes. -/
theorem Quiet.station {s t : State} (h : Quiet s t) (st : StationId) : t.station st = s.station st := by rw [h.frame]; rfl

/-- The clock stands. -/
theorem Quiet.clock {s t : State} (h : Quiet s t) : t.clock = s.clock := by rw [h.frame]

/-- The same ticket numbers in the same order. -/
theorem Quiet.ticket_numbers {s t : State} (h : Quiet s t) : t.tickets.map Ticket.number = s.tickets.map Ticket.number := by
  have := h.tickets
  generalize s.tickets = l at this ⊢
  generalize t.tickets = m at this ⊢
  induction this with
  | nil => rfl
  | cons h _ ih => simp only [List.map_cons, ih]; rw [h.fields]

/-- The same slip numbers in the same order. -/
theorem Quiet.slip_numbers {s t : State} (h : Quiet s t) : t.slips.map Slip.number = s.slips.map Slip.number := by
  have := h.slips
  generalize s.slips = l at this ⊢
  generalize t.slips = m at this ⊢
  induction this with
  | nil => rfl
  | cons h _ ih => simp only [List.map_cons, ih]; rw [h.fields]

theorem Quiet.foldl {α : Type} {f : State → α → State} (hf : ∀ s a, Quiet s (f s a)) (l : List α) (s : State) :
    Quiet s (l.foldl f s) := by
  induction l generalizing s with
  | nil => exact .refl s
  | cons a l ih => exact (hf s a).trans (ih _)

/-! ## Operation by operation -/

theorem Quiet.post (r : PortId → Bool) (b : NoticeBody) (s : State) : Quiet s (s.post r b) :=
  ⟨rfl, fun _ => .refl _, List.forall₂_same.mpr fun k _ => .refl k, List.forall₂_same.mpr fun x _ => .refl x,
    (Kept.post r b s).ports⟩

theorem forall₂_map_self {α : Type} {r : α → α → Prop} {f : α → α} (l : List α) (h : ∀ a, r a (f a)) :
    List.Forall₂ r l (l.map f) := by
  induction l with
  | nil => exact .nil
  | cons a l ih => exact .cons (h a) ih

theorem Quiet.modTicket {s : State} {n : Nat} {f : Ticket → Ticket} (hf : ∀ k : Ticket, k.Same (f k)) : Quiet s (s.modTicket n f) :=
  ⟨rfl, fun _ => .refl _, forall₂_map_self s.tickets fun k => by split; exacts [hf k, .refl k],
    List.forall₂_same.mpr fun x _ => .refl x, fun _ => .refl _⟩

theorem Quiet.modSlip {s : State} {n : Nat} {f : Slip → Slip} (hf : ∀ x : Slip, x.Same (f x)) : Quiet s (s.modSlip n f) :=
  ⟨rfl, fun _ => .refl _, List.forall₂_same.mpr fun k _ => .refl k,
    forall₂_map_self s.slips fun x => by split; exacts [hf x, .refl x], fun _ => .refl _⟩

/-- Line `i` of ticket `n` given a line state (R52 to R54). -/
theorem Quiet.lineState (s : State) (n i : Nat) (ls : LineState) :
    Quiet s (s.modLine n i fun l => { l with state := ls }) := by
  refine Quiet.modTicket fun k => ⟨rfl, ?_⟩
  dsimp only
  generalize k.lines = l
  induction l generalizing i with
  | nil => cases i <;> exact .nil
  | cons a l ih =>
    cases i with
    | zero => exact .cons rfl (List.forall₂_same.mpr fun l _ => .refl l)
    | succ i => exact .cons rfl (ih i)

theorem Quiet.workOut (n : Nat) (s : State) : Quiet s (s.workOut n) := by
  have h : Quiet s (s.modTicket n fun t => { t with state := t.workedState }) :=
    Quiet.modTicket fun k => ⟨rfl, List.forall₂_same.mpr fun l _ => .refl l⟩
  unfold State.workOut
  split
  · exact .refl s
  · dsimp only
    split
    · exact h.trans (.post _ _ _)
    · exact h

theorem Quiet.workOutAll (ms : List Member) (s : State) : Quiet s (s.workOutAll ms) :=
  Quiet.foldl (fun s (m : Member) => .workOut m.ticket s) ms s

theorem Quiet.setMembers (ms : List Member) (ls : LineState) (s : State) : Quiet s (s.setMembers ms ls) :=
  Quiet.foldl (fun s (m : Member) => .lineState s m.ticket m.line ls) ms s

/-- A slip that leaves PENDING is marked on its wave's delay list (R26). -/
theorem Quiet.markLeft (w : WaveId) (n : Nat) (s : State) : Quiet s (s.markLeft w n) := by
  refine ⟨rfl, fun v => ?_, List.forall₂_same.mpr fun k _ => .refl k, List.forall₂_same.mpr fun x _ => .refl x, fun _ => .refl _⟩
  unfold State.markLeft
  rw [State.wave_modWave]
  split
  · next h =>
    subst h
    have h (l : List (Nat × Bool)) : (l.map fun e => if e.1 = n then (e.1, true) else e) = marked (fun i => i == n) l := by
      refine List.map_congr_left fun e _ => ?_
      by_cases h : e.1 = n
      · simp [h]
      · simp [h, beq_eq_false_iff_ne.mpr h]
    exact ⟨fun i => i == n, by simp only [h]⟩
  · exact .refl _

theorem Quiet.preview (st : StationId) (x : Slip) (s : State) : Quiet s (s.preview st x) :=
  (Quiet.modSlip fun _ => ⟨rfl, fun _ => rfl⟩).trans (.post _ _ _)

theorem Quiet.previewPass (st : StationId) (s : State) : Quiet s (s.previewPass st) := by
  unfold State.previewPass
  refine Quiet.foldl (fun s x => ?_) _ s
  split
  · exact .preview st x s
  · exact .refl s

/-- A call (R108) changes nothing but states, marks and ports. -/
theorem Quiet.callSlip (st : StationId) (x : Slip) (s : State) : Quiet s (s.callSlip st x) := by
  unfold State.callSlip
  refine .trans ?_ (.post _ _ _)
  refine .trans ?_ (.workOutAll _ _)
  refine .trans ?_ (.setMembers _ _ _)
  exact (Quiet.markLeft _ _ s).trans (Quiet.modSlip fun _ => ⟨rfl, id⟩)

theorem Quiet.callPass (st : StationId) (k : Nat) (s : State) : Quiet s (s.callPass st k) := by
  induction k generalizing s with
  | zero => exact .refl s
  | succ k ih =>
    unfold State.callPass
    split
    · exact (Quiet.callSlip st _ s).trans (ih _)
    · exact .refl s

/-- A consideration (R107) changes nothing but states, previewed flags, marks and ports. -/
theorem Quiet.consider (st : StationId) (s : State) : Quiet s (s.consider st) := by
  unfold State.consider
  split
  · exact (Quiet.previewPass st s).trans (.callPass st _ _)
  · exact .previewPass st s
  · exact .refl s
  · exact .refl s

theorem Quiet.considerAll (sel : StationId → Bool) (s : State) : Quiet s (s.considerAll sel) := by
  unfold State.considerAll
  refine Quiet.foldl (fun s st => ?_) _ s
  split
  · exact .consider st s
  · exact .refl s

/-- A CALLED slip returned to PENDING (R53). -/
theorem Quiet.returnSlip (x : Slip) (r : WithdrawReason) (s : State) : Quiet s (s.returnSlip x r) := by
  unfold State.returnSlip State.postWithdrawn
  refine .trans ?_ (.post _ _ _)
  refine .trans ?_ (.workOutAll _ _)
  refine .trans ?_ (.setMembers _ _ _)
  exact Quiet.modSlip fun _ => ⟨rfl, id⟩

/-! ## What a consideration may make of a slip -/

theorem State.Considers.refl (s : State) (x : Slip) : s.Considers x x := ⟨rfl, .inl rfl, .inl rfl⟩

/-- Considerations at one state compose: what the second finds of a slip is as the first left it. -/
theorem State.Considers.trans {s : State} {x y z : Slip} (h : s.Considers x y) (k : s.Considers y z) : s.Considers x z := by
  have station : y.station = x.station := by rw [h.kept]
  have wave : y.wave = x.wave := by rw [h.kept]
  have fire : y.fire = x.fire := by rw [h.kept]
  refine ⟨by rw [k.kept, h.kept], ?_, ?_⟩
  · rcases k.previewed with e | ⟨e, f, rest⟩
    · rw [e]; exact h.previewed
    · rcases h.previewed with g | ⟨_, _, g, _⟩
      · rcases h.called with a | ⟨_, a, _⟩
        · rw [station, fire] at rest
          exact .inr ⟨g ▸ e, a ▸ f, rest⟩
        · rw [a] at f; cases f
      · rw [g] at e; cases e
  · rcases k.called with e | ⟨e, rest⟩
    · rw [e]; exact h.called
    · rcases h.called with a | ⟨_, a, _⟩
      · rw [station, fire, wave] at rest
        exact .inr ⟨a ▸ e, rest⟩
      · rw [a] at e; cases e

theorem Line.Considers.refl (l : Line) : l.Considers l := .inl rfl

theorem Line.Considers.trans {l m n : Line} (h : l.Considers m) (k : m.Considers n) : l.Considers n := by
  rcases h with rfl | ⟨c, hc, rfl⟩
  · exact k
  · rcases k with rfl | ⟨_, hd, _⟩
    · exact .inr ⟨c, hc, rfl⟩
    · cases hd

theorem Ticket.Considers.refl (k : Ticket) : k.Considers k := ⟨rfl, List.forall₂_same.mpr fun l _ => .refl l⟩

theorem Ticket.Considers.trans {i j k : Ticket} (h : i.Considers j) (g : j.Considers k) : i.Considers k :=
  ⟨by rw [g.kept, h.kept], forall₂_trans (r := Line.Considers) (fun _ _ _ => Line.Considers.trans) h.lines g.lines⟩

/-- A station that is DOWN or UNUSED is settled, since it calls and previews nothing (R107). -/
theorem State.Settled.of_not_running {s : State} {st : StationId} (h : s.isRunning st = false) : s.Settled st := by
  refine ⟨fun ho => ?_, fun x _ => by simp [State.previewable, h]⟩
  simp [State.isRunning, ho] at h

/-! ## The queue -/

/-- A slip is in a station's queue exactly where it is one of its PENDING slips in the store (R104). -/
@[simp] theorem State.mem_queue {s : State} {st : StationId} {x : Slip} :
    x ∈ s.queue st ↔ x ∈ s.slips ∧ x.station = st ∧ x.isPending = true := by
  unfold State.queue
  rw [List.mem_insertionSort]
  simp

/-- A slip is in a station's busy set exactly where it is one of its CALLED and TAKEN slips (R104). -/
@[simp] theorem State.mem_busySet {s : State} {st : StationId} {x : Slip} :
    x ∈ s.busySet st ↔ x ∈ s.slips ∧ x.station = st ∧ x.isPending = false := by
  unfold State.busySet
  simp

end Sys2Proof.Machine
end

