-- ==== Sys2Proof/Laws/Frames.lean ====
section
/-! SUPPORT. What a written frame does, case by case, and the reply to a frame that its port took. -/

namespace Sys2Proof.Machine

/-- `s` with a frame of command `c` handed over at port `p` (R141). -/
def State.handed (c : Cmd) (p : PortId) (s : State) : State := s.modPort p fun u => u.endRead.handOver c.code

@[simp] theorem State.handed_port (c : Cmd) (p : PortId) (s : State) :
    (s.handed c p).port p = (s.port p).endRead.handOver c.code := by
  simp [State.handed]

@[simp] theorem State.handed_service (c : Cmd) (p : PortId) (s : State) : (s.handed c p).service = s.service := rfl
@[simp] theorem State.handed_clock (c : Cmd) (p : PortId) (s : State) : (s.handed c p).clock = s.clock := rfl
@[simp] theorem State.handed_secondTimer (c : Cmd) (p : PortId) (s : State) : (s.handed c p).secondTimer = s.secondTimer := rfl
@[simp] theorem State.handed_nextTicket (c : Cmd) (p : PortId) (s : State) : (s.handed c p).nextTicket = s.nextTicket := rfl
@[simp] theorem State.handed_ticketsExhausted (c : Cmd) (p : PortId) (s : State) : (s.handed c p).ticketsExhausted = s.ticketsExhausted := rfl
@[simp] theorem State.handed_nextSlip (c : Cmd) (p : PortId) (s : State) : (s.handed c p).nextSlip = s.nextSlip := rfl
@[simp] theorem State.handed_slipsExhausted (c : Cmd) (p : PortId) (s : State) : (s.handed c p).slipsExhausted = s.slipsExhausted := rfl
@[simp] theorem State.handed_refireLimit (c : Cmd) (p : PortId) (s : State) : (s.handed c p).refireLimit = s.refireLimit := rfl
@[simp] theorem State.handed_waves (c : Cmd) (p : PortId) (s : State) : (s.handed c p).waves = s.waves := rfl
@[simp] theorem State.handed_menu (c : Cmd) (p : PortId) (s : State) : (s.handed c p).menu = s.menu := rfl
@[simp] theorem State.handed_outBoard (c : Cmd) (p : PortId) (s : State) : (s.handed c p).outBoard = s.outBoard := rfl
@[simp] theorem State.handed_diversions (c : Cmd) (p : PortId) (s : State) : (s.handed c p).diversions = s.diversions := rfl
@[simp] theorem State.handed_tickets (c : Cmd) (p : PortId) (s : State) : (s.handed c p).tickets = s.tickets := rfl
@[simp] theorem State.handed_slips (c : Cmd) (p : PortId) (s : State) : (s.handed c p).slips = s.slips := rfl
@[simp] theorem State.handed_stations (c : Cmd) (p : PortId) (s : State) : (s.handed c p).stations = s.stations := rfl
@[simp] theorem State.handed_tenthDivider (c : Cmd) (p : PortId) (s : State) : (s.handed c p).tenthDivider = s.tenthDivider := rfl
@[simp] theorem State.handed_freeCount (c : Cmd) (p : PortId) (s : State) : (s.handed c p).freeCount = s.freeCount := rfl
@[simp] theorem State.handed_pending (c : Cmd) (p : PortId) (s : State) : (s.handed c p).pending = s.pending := rfl
@[simp] theorem State.handed_wave (c : Cmd) (p : PortId) (s : State) (v : WaveId) : (s.handed c p).wave v = s.wave v := rfl
@[simp] theorem State.handed_station (c : Cmd) (p : PortId) (s : State) (st : StationId) :
    (s.handed c p).station st = s.station st := rfl

/-- Every port stands as before but the one that handed the frame over. -/
theorem State.handed_port_ne {p q : PortId} (h : q ≠ p) (c : Cmd) (s : State) : (s.handed c p).port q = s.port q :=
  State.port_modPort_ne h _ s

/-- No role changes where a frame is handed over. -/
@[simp] theorem State.handed_role (c : Cmd) (p q : PortId) (s : State) : ((s.handed c p).port q).role = (s.port q).role := by
  by_cases h : q = p
  · rw [h, State.handed_port]; rfl
  · rw [State.handed_port_ne h]

/-- A number given as its byte is read as itself, below any bound a byte reaches. -/
theorem below_byte {n : Nat} (i : Fin n) (h : n ≤ 256) : below n (byte i.val).toNat = some i := by
  have := i.isLt
  simp [below, byte, Nat.mod_eq_of_lt (show i.val < 256 by omega)]

/-- CLAMPED exactly where the stored value differs from the one given (0.7). -/
theorem clampStatus_bne {α : Type} [DecidableEq α] (a b : α) : clampStatus (a != b) = if a = b then .ok else .clamped := by
  by_cases h : a = b <;> simp [h, clampStatus]

/-- The verdict on a frame, check by check (R135, R137 to R140). -/
theorem PortUnit.check_spec {α : Type} (c : Cmd) (parse : List Byte → Option α) (w : Written) (u : PortUnit) :
    (w.address ≠ u.address ∧ u.check c parse w = .ignored) ∨
    (w.address = u.address ∧ u.slot ≠ .empty ∧ u.check c parse w = .collision) ∨
    (w.address = u.address ∧ u.slot = .empty ∧ (paramsOf w.body).bind parse = none ∧ u.check c parse w = .malformed) ∨
    (∃ a, w.address = u.address ∧ u.slot = .empty ∧ (paramsOf w.body).bind parse = some a ∧
      ((u.muted = true ∧ passesMute c = false ∧ u.check c parse w = .muted) ∨
        ((u.muted = false ∨ passesMute c = true) ∧
          ((permits c u.role = true ∧ u.check c parse w = .accepted a) ∨
            (permits c u.role = false ∧ u.check c parse w = .notPermitted))))) := by
  unfold PortUnit.check
  by_cases ha : w.address = u.address
  · by_cases hs : u.slot = .empty
    · cases hp : (paramsOf w.body).bind parse with
      | none => simp [ha, hs]
      | some a => cases u.muted <;> cases passesMute c <;> cases permits c u.role <;> simp [ha, hs]
    · simp [ha, hs]
  · simp [ha]

/-- A frame its port takes is handed to its owner. -/
theorem State.frame_of_takes {α : Type} {c : Cmd} {parse : List Byte → Option α} {owner : PortId → α → State → State}
    {w : Written} {s : State} {a : α} (h : Takes c w s) (hp : (paramsOf w.body).bind parse = some a) :
    s.frame c parse owner w = owner w.port a (s.handed c w.port) := by
  have hm : ((s.port w.port).muted && !passesMute c) = false := by
    rcases h.heard with h | h | h <;> simp [h, passesMute]
  have : (s.port w.port).check c parse w = .accepted a := by
    simp [PortUnit.check, h.addressed, h.free, hp, hm, h.permitted]
  simp only [State.frame, this, State.handed]

/-- The reply to a frame handed over where no read was held: the port unit as `PortUnit.answered` says. -/
theorem PortUnit.placeReply_handOver {u : PortUnit} (h : u.stretch = none) (b : Bool) (c : Byte) (r : Reply) :
    (u.endRead.handOver c).placeReply b r = u.answered r := by
  simp [PortUnit.placeReply, PortUnit.handOver, PortUnit.endRead, PortUnit.assertLine, PortUnit.answered, PortUnit.errorsAfter, h]

/-- The answer from a state whose issuing port stands as the frame left it. -/
theorem State.answer_of_port {s t : State} {p : PortId} {c : Cmd} (hs : (s.port p).stretch = none)
    (ht : t.port p = (s.port p).endRead.handOver c.code) (st : Status) (d : ReplyData) :
    t.answer p c st d = { t with ports := t.ports.set p ((s.port p).answered ⟨c.code, st, d⟩) } := by
  simp only [State.answer, State.reply, State.modPort, ht, PortUnit.placeReply_handOver hs]

/-- The answer to a frame whose owner changed nothing. -/
theorem State.answer_handed {s : State} {p : PortId} {c : Cmd} (hs : (s.port p).stretch = none) (st : Status) (d : ReplyData) :
    (s.handed c p).answer p c st d = s.answered p ⟨c.code, st, d⟩ := by
  rw [State.answer_of_port hs (State.handed_port c p s)]
  simp [State.handed, State.modPort, State.answered]

/-- The answer to a frame whose owner changed no port. -/
theorem State.answer_of_ports {s t : State} {p : PortId} {c : Cmd} (hs : (s.port p).stretch = none)
    (ht : t.ports = (s.handed c p).ports) (st : Status) (d : ReplyData) :
    t.answer p c st d = { t with ports := s.ports }.answered p ⟨c.code, st, d⟩ := by
  have h : t.port p = (s.port p).endRead.handOver c.code := by
    rw [← State.handed_port c p s]; simp only [State.port, ht]
  rw [State.answer_of_port hs h]
  simp only [State.answered, ht, State.handed, State.modPort, Vector.set_set]
  rfl

end Sys2Proof.Machine
end

