-- ==== Sys2Proof/Laws/Exec.lean ====
section
/-! SUPPORT. Every command that is a written frame goes through the one frame check, whatever its owner does. -/

namespace Sys2Proof.Machine

/-- A row that is a written frame of command `c` runs `State.frame` with the command's own parser and owner. -/
theorem exec_frame {i : Instr} {c : Cmd} {w : Written} (h : i.frame? = some (c, w)) :
    ∃ (α : Type) (parse : List Byte → Option α) (owner : PortId → α → State → State),
      ((paramsOf w.body).bind parse).isSome = formed c w.body ∧ ∀ s, exec i s = .next (s.frame c parse owner w) := by
  cases i <;> simp only [Instr.frame?, Option.some.injEq, Prod.mk.injEq, reduceCtorEq] at h <;> obtain ⟨rfl, rfl⟩ := h <;>
    exact ⟨_, _, _, by unfold formed; cases paramsOf _ <;> rfl, fun _ => rfl⟩

end Sys2Proof.Machine
end

