-- ==== Sys2Proof/Laws/Marks.lean ====
section
/-! SUPPORT. The left-PENDING marks that an event sets on the delay list of a wave. -/

namespace Sys2Proof.Machine

@[simp] theorem State.waveMarked_state (s t : State) (v : WaveId) : (s.waveMarked t v).state = (s.wave v).state := rfl
@[simp] theorem State.waveMarked_sweep (s t : State) (v : WaveId) : (s.waveMarked t v).sweep = (s.wave v).sweep := rfl
@[simp] theorem State.waveMarked_hold (s t : State) (v : WaveId) : (s.waveMarked t v).hold = (s.wave v).hold := rfl

/-- A wave with no delay in flight has no marks. -/
theorem State.waveMarked_of_none {s : State} {v : WaveId} (h : (s.wave v).delay = none) (t : State) : s.waveMarked t v = s.wave v := by
  simp only [State.waveMarked, h, Option.map_none]
  rw [← h]

/-- Marks depend on the slips after the event alone. -/
theorem State.waveMarked_congr {t u : State} (h : t.slips = u.slips) (s : State) (v : WaveId) : s.waveMarked t v = s.waveMarked u v := by
  simp only [State.waveMarked, h]

/-- An event that leaves every slip as it was sets no mark. -/
theorem State.waveMarked_of_slips {s t : State} (h : t.slips = s.slips) (v : WaveId) : s.waveMarked t v = s.wave v := by
  have (e : Nat × Bool) : (s.slips.any (fun x => decide (x.number = e.1 ∧ x.wave = v ∧ x.isPending = true)) &&
      !s.slips.any fun y => decide (y.number = e.1 ∧ y.isPending = true)) = false := by
    simp only [Bool.and_eq_false_imp, List.any_eq_true, decide_eq_true_eq, Bool.not_eq_false', forall_exists_index, and_imp]
    exact fun x hx hn _ hp => ⟨x, hx, hn, hp⟩
  simp only [State.waveMarked, h, this, Bool.or_false, List.map_id']
  cases hd : (s.wave v).delay <;> simp [← hd]

end Sys2Proof.Machine
end

