-- ==== Sys2Proof/Laws/Parsers.lean ====
section
/-! SUPPORT. What the parsers of a frame's parameter bytes read: which values a field admits, and the line entries of SUBMIT TICKET. -/

namespace Sys2Proof.Machine

/-- A field below `n` admits exactly the values below `n`, each as itself (the table after R138). -/
theorem below_eq_some {n v : Nat} {i : Fin n} : below n v = some i ↔ i.val = v := by
  unfold below
  split
  · simp [Fin.ext_iff, eq_comm]
  · have := i.isLt
    simp only [reduceCtorEq, false_iff]; omega

theorem below_isSome {n v : Nat} : (below n v).isSome = true ↔ v < n := by
  unfold below; split <;> simp_all

/-- An item code field admits exactly the two-byte numbers below 4096, each as itself (R33). -/
theorem itemField_eq_some {hi lo : Byte} {c : ItemCode} : itemField hi lo = some c ↔ c.toNat = word16 hi lo := by
  have := c.isLt
  unfold itemField
  split
  · simp only [Option.some.injEq, ← BitVec.toNat_inj, BitVec.toNat_ofNat]; omega
  · simp only [reduceCtorEq, false_iff]; omega

theorem itemField_isSome {hi lo : Byte} : (itemField hi lo).isSome = true ↔ word16 hi lo < 4096 := by
  unfold itemField; split <;> simp_all

/-- A field that may name none: FFh is none, and every other byte below `n` is itself (R100). -/
theorem optionalField_eq_some {n : Nat} (h : n ≤ 255) {b : Byte} {o : Option (Fin n)} :
    optionalField n b = some o ↔ (o = none ∧ b = 0xFF) ∨ ∃ i, o = some i ∧ i.val = b.toNat := by
  unfold optionalField
  split
  · next hb =>
    subst hb
    constructor
    · intro e; exact .inl ⟨(Option.some.inj e).symm, rfl⟩
    · rintro (⟨rfl, -⟩ | ⟨i, rfl, e⟩)
      · rfl
      · have := i.isLt; have : (0xFF : Byte).toNat = 255 := rfl; omega
  · next hb =>
    simp only [Option.map_eq_some_iff, below_eq_some]
    constructor
    · rintro ⟨i, e, rfl⟩; exact .inr ⟨i, rfl, e⟩
    · rintro (⟨-, e⟩ | ⟨i, rfl, e⟩)
      · exact absurd e hb
      · exact ⟨i, e, rfl⟩

/-- What the line entries of SUBMIT TICKET are read from: four bytes each, in line-index order (10.2). -/
theorem parseLines_spec : ∀ {bytes : List Byte} {es : List LineEntry}, parseLines bytes = some es →
    bytes.length = 4 * es.length ∧ ∀ i e, es[i]? = some e → ∃ i1 i0 qty mods : Byte,
      bytes[4 * i]? = some i1 ∧ bytes[4 * i + 1]? = some i0 ∧ bytes[4 * i + 2]? = some qty ∧ bytes[4 * i + 3]? = some mods ∧
        e.item.toNat = word16 i1 i0 ∧ e.qty = qty.toNat ∧ e.modifiers = mods
  | [], es, h => by cases h; simp
  | i1 :: i0 :: q :: m :: rest, es, h => by
    rw [parseLines] at h
    split at h
    · next c fs hc hr =>
      cases h
      obtain ⟨hl, he⟩ := parseLines_spec hr
      refine ⟨by simp [hl]; omega, fun i e h => ?_⟩
      cases i with
      | zero => cases h; exact ⟨i1, i0, q, m, rfl, rfl, rfl, rfl, itemField_eq_some.mp hc, rfl, rfl⟩
      | succ i => exact he i e h
    · cases h
  | [_], _, h | [_, _], _, h | [_, _, _], _, h => by cases h

/-- Line entries are read wherever the bytes are a multiple of four and every item code is below 4096. -/
theorem parseLines_isSome : ∀ {n : Nat} {bytes : List Byte}, bytes.length = 4 * n →
    (∀ i i1 i0, bytes[4 * i]? = some i1 → bytes[4 * i + 1]? = some i0 → word16 i1 i0 < 4096) → (parseLines bytes).isSome = true
  | 0, [], _, _ => rfl
  | n + 1, i1 :: i0 :: q :: m :: rest, h, hc => by
    obtain ⟨c, hi⟩ := Option.isSome_iff_exists.mp (itemField_isSome.mpr (hc 0 i1 i0 rfl rfl))
    obtain ⟨es, hr⟩ := Option.isSome_iff_exists.mp
      (parseLines_isSome (n := n) (bytes := rest) (by simp at h; omega) fun i a b ha hb => hc (i + 1) a b ha hb)
    rw [parseLines, hi, hr]; rfl
  | n + 1, [], h, _ | n + 1, [_], h, _ | n + 1, [_, _], h, _ | n + 1, [_, _, _], h, _ => by simp at h <;> omega
  | 0, _ :: _, h, _ => by simp at h

end Sys2Proof.Machine
end

