-- ==== Sys2Proof/Tests/Slice0.lean ====
section
/-! SUPPORT. Tests of single steps, with the values the manual works out, and for every statement a state that meets its hypotheses. -/

namespace Sys2Proof.Tests

set_option Elab.async false

open Sys2Proof.Machine

/-! ## Terms no frame and no timer can make -/

theorem test_wellformed_refuses_known_code : (Instr.unknownCommand ⟨2, 0x48, [0x01, 0x00]⟩).wellFormed = false := by decide
theorem test_wellformed_refuses_slip_zero : (Instr.takeTimeout 0).wellFormed = false := by decide
theorem test_wellformed_refuses_slip_above : (Instr.takeTimeout 65536).wellFormed = false := by decide
theorem test_wellformed_admits : (Instr.unknownCommand ⟨2, 0x48, [0x00]⟩).wellFormed = true ∧
    (Instr.unknownCommand ⟨2, 0x48, []⟩).wellFormed = true ∧ (Instr.takeTimeout 65535).wellFormed = true := by decide

/-! ## A kitchen -/

/-- A frame's bytes after the code, written at a port: the length and the parameters. -/
def frame (p : PortId) (params : List Byte) : Written := ⟨p, 0x48, BitVec.ofNat 8 params.length :: params⟩

/-- The state after a command. -/
def after (i : Instr) (s : State) : State :=
  match exec i s with
  | .next t => t
  | .fault _ => s
  | .refused _ => s

/-- A station on a port: K 2, R 1, P 45, take timeout 30, H 300, B 60, initial lag 0, G 30 (S2 of 5.5 but for K and R). -/
def unit (p : PortId) (backup : Option StationId) : StationUnit :=
  ⟨⟨some p, 2, 1, 45, 30, backup, 300, 60, 0⟩, .opened, 30, 0, false, 0⟩

/-- A configured kitchen in CLOSED: S2 on P3 with backup S3 and S3 on P4, the salmon on S2 and the pear tart on S3. -/
def closed : State :=
  { State.reset with
    menu := [⟨0, 310, 2, 480, 12⟩, ⟨1, 780, 3, 60, 4⟩]
    stations := (State.reset.stations.set 2 (unit 3 (some 3))).set 3 (unit 4 none) }

/-- Wave W3 of 2.5. -/
def w3 : Wave := ⟨.opened, ⟨40, 10, .up, true, 1800, 20⟩, false, none⟩

/-- A line of salmon at S2. -/
def salmon (qty : Nat) (state : LineState) : Line := ⟨310, qty, 0, some 2, state, false⟩

/-- Ticket 21 of table 41 of W3, target 1900, with one line of salmon. -/
def t21 (line : LineState) (state : TicketState) : Ticket :=
  ⟨21, 0, 3, 41, 5, false, state, false, false, 0, 900, [salmon 4 line]⟩

/-- Slip 16 at S2, of W3, with the line of ticket 21. -/
def x16 (state : SlipState) : Slip := ⟨16, 2, 310, 3, .normal, state, false, 1345, 4, [⟨21, 0, 4⟩]⟩

/-- A service in progress at clock 1000. -/
def running (tickets : List Ticket) (slips : List Slip) : State :=
  { closed with
    service := .opened, clock := 1000, secondTimer := some 0, nextTicket := 30, nextSlip := 20
    waves := State.reset.waves.set 3 w3, tickets := tickets, slips := slips }

/-- Ticket 21 waiting in slip 16. -/
def waiting : State := running [t21 (.waiting 16) .planned] [x16 .pending]

/-- Slip 16 called at 990. -/
def called : State := running [t21 (.called 16) .firing] [x16 (.called 990 20)]

/-- Slip 16 taken, called at 990. -/
def taken : State := running [t21 (.cooking 16) .firing] [x16 (.taken 990)]

/-- Ticket 21 UP. -/
def ready : State := running [t21 (.ready 995) .up] []

/-- The status of the reply READY at a port. -/
def status (p : PortId) (s : State) : Option Status :=
  match (s.port p).slot with
  | .ready r => some r.status
  | .empty | .busy _ => none

/-! ## Figures of the manual -/

/-- The table of nine tables, interlace on (2.5). -/
theorem test_sweep_up : (List.range 9).map (fun i => (Sweep.mk 100 9 .up true 3000 30).position (100 + i)) = [0, 5, 1, 6, 2, 7, 3, 8, 4] := by
  decide
theorem test_sweep_down :
    (List.range 9).map (fun i => (Sweep.mk 100 9 .down true 3000 30).position (100 + i)) = [4, 8, 3, 7, 2, 6, 1, 5, 0] := by
  decide

/-- Saturation (2.5). -/
theorem test_target_saturates :
    (Wave.mk .opened ⟨0, 64, .up, false, 60000, 100⟩ false none).target 55 = 65500 ∧
      (Wave.mk .opened ⟨0, 64, .up, false, 60000, 100⟩ false none).target 56 = 65535 := by decide

/-- The lag figures (6.9): Z and G' in each row. -/
theorem test_lag_figures :
    [(lagSample 1912 1345 480 45, lagAfter 30 42), (lagSample 2480 2000 600 30, lagAfter 5 (-120)), (lagSample 2333 2000 300 30, lagAfter 0 3),
      (lagSample 2337 2000 300 30, lagAfter 10 7), (lagSample 3000 1000 900 60, lagAfter 580 600),
      (lagSample 65535 64000 5400 300, lagAfter 200 (-120))] =
    [(42, 33), (-120, 0), (3, 0), (7, 10), (600, 585), (-120, 120)] := by decide

/-- The evening's diversions (3.4). -/
def evening : State :=
  { waiting with
    menu := [⟨0, 310, 2, 480, 12⟩, ⟨1, 780, 5, 60, 4⟩]
    diversions := ((waiting.diversions.set 0 ⟨true, 0, 0, 0x08, 7⟩).set 1 ⟨true, 0x136, 0xFFF, 0, 3⟩).set 2 ⟨false, 0x300, 0xF00, 0, 2⟩ }

theorem test_routing_figures :
    [evening.chosenStation 310 0, evening.chosenStation 310 0x08, evening.chosenStation 310 0x22, evening.chosenStation 780 0,
      evening.chosenStation 780 0x08] = [some 3, some 7, some 3, some 5, some 7] := by decide +kernel

/-- The figures of 3.4 go on: S3 DOWN with S2 as its backup, then S2 DOWN too, its own backup S5 OPEN; and S7, with no bound port. -/
theorem test_redirect_figures :
    let lost := evening.modStation 3 fun u => { u with state := .down, config := { u.config with backup := some 2 } }
    let both := (lost.modStation 2 fun u => { u with state := .down, config := { u.config with backup := some 5 } }).modStation 5 fun _ => unit 1 none
    [evening.route 310 0, lost.route 310 0, both.route 310 0, evening.route 310 0x08] = [some 3, some 2, some 3, none] := by decide +kernel

/-- One read of a CALL (10.6): L 19, and the bytes of its fields. -/
theorem test_call_bytes :
    (Notice.mk 1345 (.call 16 2 310 .normal 10 1345 [(21, 4), (22, 6)])).bytes =
      [19, 0x02, 0x05, 0x41, 0, 16, 2, 0x01, 0x36, 0, 10, 0x05, 0x41, 2, 0, 21, 4, 0, 22, 6] := by decide

/-- A two's complement amount (10.1): -30 is FFE2h. -/
theorem test_signed : signed16 0xFF 0xE2 = -30 ∧ signedBytes (-30) = [0xFF, 0xE2] := by decide

/-- A SUBMIT TICKET of 13 lines agrees with a length of 57; a count that disagrees is refused at the port (R167). -/
theorem test_submit_length :
    ((paramsOf (57 :: 3 :: 0 :: 40 :: 0 :: 13 :: (List.replicate 13 [0x01, 0x36, 1, 0]).flatten)).bind parseSubmit).isSome = true ∧
      ((paramsOf [5, 3, 0, 40, 0, 1]).bind parseSubmit).isSome = false := by decide

/-- A burst at a station port (9.6): the first notice starts both timers, the next restarts the relative timer alone. -/
theorem test_attention_burst :
    let u := PortUnit.append ⟨1, .up 1 0 0 0 false⟩ (portAtReset strapsAtReset 3)
    (u.attention, u.relTimer, u.absTimer) = (.waiting, some 5, some 20) ∧
      (let v := PortUnit.append ⟨1, .up 1 0 0 0 false⟩ { u with relTimer := some 2, absTimer := some 17 }
       (v.relTimer, v.absTimer) = (some 5, some 17)) := by decide

/-- An overrun (9.6): the copy that finds 24 notices is dropped and asserts the line; the next is dropped. -/
theorem test_overrun :
    let u := { portAtReset strapsAtReset 1 with notices := List.replicate 24 ⟨1, .waveFree 0⟩ }
    let v := u.append ⟨2, .waveFree 1⟩
    (v.overrun, v.notices.length, v.attention) = (true, 24, .asserted) ∧ v.append ⟨3, .waveFree 2⟩ = v := by decide

/-- A tenth tick at which both timers run out asserts the line (9.6 after tick 120). -/
theorem test_tenth_tick :
    let u := { portAtReset strapsAtReset 3 with attention := .waiting, relTimer := some 1, absTimer := some 1 }
    (u.tenthTick.attention, u.tenthTick.relTimer, u.tenthTick.absTimer) = (.asserted, none, none) := by decide

/-! ## One step of each command -/

theorem test_openService : (after (.openService (frame 2 [])) closed).service = .opened ∧
    status 2 (after (.openService (frame 2 [])) State.reset) = some .noStation := by decide +kernel

theorem test_closeService : (after (.closeService (frame 2 [])) waiting).service = .draining ∧
    (after (.closeService (frame 2 [])) (running [] [])).service = .closed := by decide +kernel

theorem test_serviceReset :
    let t := after (.serviceReset (frame 2 [])) waiting
    (t.tickets, t.slips, t.clock, (t.port 0).notices) = ([], [], 0, [⟨0, .service .closed .reset⟩]) := by decide +kernel

theorem test_setLimits : (after (.setLimits (frame 2 [8])) closed).refireLimit = 7 ∧
    status 2 (after (.setLimits (frame 2 [8])) closed) = some .clamped := by decide +kernel

theorem test_status_counts :
    ((after (.status (frame 5 [])) waiting).port 5).slot =
      .ready ⟨0x05, .ok, .status ⟨.opened, 1000, 1, 1, 1, 2, 65506, 65516, false, false, false, 0⟩⟩ := by decide +kernel

/-- R17: a count of 40 from first table 1000 is stored as 24. -/
theorem test_defineWave :
    let t := after (.defineWave (frame 2 [7, 0x03, 0xE8, 40, 0, 0, 0, 0, 0])) closed
    ((t.wave 7).state, (t.wave 7).sweep, status 2 t) = (.opened, ⟨1000, 24, .up, false, 0, 0⟩, some .clamped) := by decide +kernel

theorem test_sealWave_frees : ((after (.sealWave (frame 2 [3])) (running [] [])).wave 3).state = .free ∧
    ((after (.sealWave (frame 2 [3])) waiting).wave 3).state = .sealed := by decide +kernel

theorem test_holdWave : ((after (.holdWave (frame 2 [3])) waiting).wave 3).hold = true := by decide +kernel

/-- A held slip that is due is called when its wave is released (R24). -/
theorem test_releaseWave :
    let s := { waiting with clock := 1345, waves := waiting.waves.set 3 { w3 with hold := true } }
    ((after (.releaseWave (frame 2 [3])) s).slips.map Slip.state) = [.called 1345 30] := by decide +kernel

theorem test_delayWave :
    let t := after (.delayWave (frame 2 [3, 0, 120])) waiting
    ((t.wave 3).sweep.start, (t.wave 3).delay.map Delay.slips, (t.port 2).slot) = (1920, some [(16, false)], .busy 0x14) := by
  decide +kernel

theorem test_delayReach :
    let t := after (.delayReach 3) (after (.delayWave (frame 2 [3, 0, 120])) waiting)
    (t.slips.map Slip.fire, (t.wave 3).delay, (t.port 2).slot) = ([1465], none, .ready ⟨0x14, .ok, .delay 3 1920 120 1 0 0⟩) := by
  decide +kernel

/-- A slip shifted earlier becomes due at the reach and is called there (R26). -/
theorem test_delayReach_calls :
    (after (.delayReach 3) (after (.delayWave (frame 2 [3, 0xFE, 0x0C])) waiting)).slips.map (fun x => (x.fire, x.state)) =
      [(1000, .called 1000 30)] := by decide +kernel

theorem test_fireWave :
    let t := after (.fireWave (frame 2 [3])) waiting
    (t.slips.map fun x => (x.fire, x.state)) = [(1000, .called 1000 30)] := by decide +kernel

theorem test_queryWave : status 0 (after (.queryWave (frame 0 [3])) waiting) = some .ok ∧
    ((after (.queryWave (frame 0 [4])) waiting).port 0).slot = .ready ⟨0x16, .ok, .freeWave⟩ := by decide +kernel

/-- R35: a cook time of 6000 is stored as 5400; R34: the lowest free index. -/
theorem test_setItem : (after (.setItem (frame 2 [0, 9, 2, 0x17, 0x70, 5])) closed).menu.map (fun e => (e.index, e.cook)) =
    [(0, 480), (1, 60), (2, 5400)] := by decide +kernel

theorem test_clearItem : (after (.clearItem (frame 2 [0x01, 0x36])) closed).menu.map MenuEntry.item = [780] := by decide +kernel
theorem test_clearMenu : (after (.clearMenu (frame 2 [])) closed).menu = [] := by decide +kernel

theorem test_queryItem : ((after (.queryItem (frame 5 [0x01, 0x36])) closed).port 5).slot =
    .ready ⟨0x23, .ok, .item 310 (some ⟨0, 310, 2, 480, 12⟩) false 2⟩ := by decide +kernel

theorem test_diversion :
    let t := after (.setDiversion (frame 2 [1, 1, 0x01, 0x36, 0x0F, 0xFF, 0, 3])) closed
    (t.diversions[(1 : DiversionId)], ((after (.queryDiversion (frame 0 [1])) t).port 0).slot) =
      (⟨true, 0x136, 0xFFF, 0, 3⟩, .ready ⟨0x25, .ok, .diversion 1 ⟨true, 0x136, 0xFFF, 0, 3⟩⟩) := by decide +kernel

/-- A mark voids the WAITING line and, its ticket being all void, retires it (R40, R70). -/
theorem test_markOut :
    let t := after (.markOut (frame 2 [0x01, 0x36])) waiting
    (t.tickets, t.slips, t.outBoard) = ([], [], [310]) := by decide +kernel

theorem test_markIn : (after (.markIn (frame 3 [0x01, 0x36])) { waiting with outBoard := [310, 780] }).outBoard = [780] := by
  decide +kernel

/-- Table 43 of W3 has target 1920 (2.5); the lead at S2 is 480 + 45 + 30, so the line joins slip 16, due 1345, with fire time 1345. -/
theorem test_submit_joins :
    let t := after (.submitTicket (frame 0 [3, 0, 43, 0, 1, 0x01, 0x36, 6, 0])) waiting
    (t.slips.map fun x => (x.fire, x.portions, x.members)) = [(1345, 10, [⟨21, 0, 4⟩, ⟨30, 0, 6⟩])] := by decide +kernel

/-- A rush ticket takes a PRIORITY slip of its own, due at once and called (R84). -/
theorem test_submit_rush :
    let t := after (.submitTicket (frame 0 [3, 0, 43, 1, 1, 0x01, 0x36, 6, 0])) waiting
    (t.slips.map fun x => (x.number, x.cls, x.state)) = [(16, .normal, .pending), (20, .priority, .called 1000 30)] := by decide +kernel

theorem test_voidTicket : (after (.voidTicket (frame 2 [0, 21])) called).slips = [] ∧
    status 0 (after (.voidTicket (frame 0 [0, 21])) called) = some .badState := by decide +kernel

theorem test_pickup : (after (.pickup (frame 2 [0, 21])) ready).tickets = [] ∧
    status 2 (after (.pickup (frame 2 [0, 21])) called) = some .notUp := by decide +kernel

theorem test_refire :
    let t := after (.refire (frame 2 [0, 21, 0])) ready
    (t.tickets.map fun k => (k.refires, k.state), t.slips.map fun x => (x.number, x.cls, x.state)) =
      ([(1, .firing)], [(20, .priority, .called 1000 30)]) := by decide +kernel

theorem test_queryTicket : status 5 (after (.queryTicket (frame 5 [0, 21, 0])) waiting) = some .ok ∧
    status 5 (after (.queryTicket (frame 5 [0, 22, 0])) waiting) = some .unknownTicket := by decide +kernel

theorem test_querySlip : status 3 (after (.querySlip (frame 3 [0, 16, 15])) waiting) = some .ok ∧
    status 3 (after (.querySlip (frame 3 [0, 16, 16])) waiting) = some .malformed := by decide +kernel

/-- R101: K 0 is stored as 1, and the reserve then as 0. -/
theorem test_setStation :
    let t := after (.setStation (frame 2 [4, 3, 0, 5, 0, 30, 30, 4, 0, 0, 0, 0, 0, 7])) closed
    (t.station 4, status 2 t) = (⟨⟨some 3, 1, 0, 30, 30, none, 0, 0, 7⟩, .opened, 7, 0, false, 0⟩, some .clamped) := by decide +kernel

theorem test_pauseStation : ((after (.pauseStation (frame 3 [2])) waiting).station 2).state = .paused ∧
    status 3 (after (.pauseStation (frame 3 [3])) waiting) = some .wrongStation := by decide +kernel

theorem test_resumeStation :
    ((after (.resumeStation (frame 2 [2])) (after (.pauseStation (frame 3 [2])) waiting)).station 2).state = .opened := by decide +kernel

theorem test_queryStation : status 4 (after (.queryStation (frame 4 [11])) waiting) = some .ok ∧
    status 4 (after (.queryStation (frame 4 [12])) waiting) = some .malformed := by decide +kernel

/-- Going DOWN returns the CALLED slip and starts the evacuation to the running backup (R123, R126). -/
theorem test_stationDown :
    let t := after (.stationDown (frame 2 [2])) called
    (t.slips.map Slip.state, (t.station 2).evacuating, (t.port 2).slot) =
      ([.pending], true, .ready ⟨0x44, .ok, .stationDown .down (some 3) 1⟩) := by decide +kernel

/-- The move gives the slip a fire time from the ticket's target 1900 and the backup's lead 480 + 45 + 30 (R127). -/
theorem test_evacuationMove :
    let t := after (.evacuationMove 2) (after (.stationDown (frame 2 [2])) called)
    (t.slips.map fun x => (x.station, x.fire), (t.station 2).evacuating, t.tickets.map fun k => k.lines.map Line.station) =
      ([(3, 1345)], false, [[some 3]]) := by decide +kernel

theorem test_stationOpen :
    let t := after (.stationOpen (frame 3 [2])) (after (.stationDown (frame 2 [2])) called)
    ((t.station 2).state, (t.station 2).evacuating, (t.port 3).slot) = (.opened, false, .ready ⟨0x45, .ok, .stationOpen .opened 1⟩) := by
  decide +kernel

theorem test_take : (after (.take (frame 3 [0, 16])) called).slips.map Slip.state = [.taken 990] ∧
    status 4 (after (.take (frame 4 [0, 16])) called) = some .wrongStation := by decide +kernel

/-- Bumped at 1000, called at 990: Z is -120 after the clamp, the step (-120 - 30) / 4 is -37, and G' is 0 (R117). -/
theorem test_bump :
    let t := after (.bump (frame 3 [0, 16])) taken
    (t.slips, (t.station 2).lag, t.tickets.map Ticket.state) = ([], 0, [.up]) := by decide +kernel

theorem test_forceBump :
    let t := after (.forceBump (frame 2 [0, 16])) waiting
    (t.slips, (t.station 2).lag, t.tickets.map Ticket.state) = ([], 30, [.up]) := by decide +kernel

theorem test_setPortMode : ((after (.setPortMode (frame 0 [2, 0, 9])) closed).port 0).absDelay = 9 ∧
    status 0 (after (.setPortMode (frame 0 [2, 0, 9])) closed) = some .clamped := by decide +kernel

/-- A console going astray (8.10): the sixteenth refusal mutes the port, and PORT RESTART reports the counter of 16. -/
theorem test_mute_and_restart :
    let s := closed.modPort 5 fun u => { u with role := .monitor, errors := 15 }
    let t := after (.markOut (frame 5 [0x01, 0x36])) s
    let t' := after (.portRestart (frame 5 [])) (t.modPort 5 fun u => { u with slot := .empty })
    (status 5 t, (t.port 5).muted, (t'.port 5).slot, (t'.port 5).errors) =
      (some .notPermitted, true, .ready ⟨0x51, .ok, .restarted 16 true⟩, 0) := by decide +kernel

theorem test_list : ((after (.list (frame 0 [0, 0])) waiting).port 0).slot =
    .ready ⟨0x52, .ok, .list false false 1000 [.ticket 21 3 .planned false false]⟩ := by decide +kernel

/-- Code 00h is in no row (10.2). -/
theorem test_unknownCommand : ((after (.unknownCommand ⟨5, 0x48, [0]⟩) closed).port 5).slot = .ready ⟨0, .unknownCommand, .empty⟩ ∧
    ((after (.unknownCommand ⟨5, 0x48, [0]⟩) closed).port 5).errors = 1 := by decide +kernel

theorem test_powerOnReset : ((after (.powerOnReset ⟨0b111111, 0b111111, 0b101⟩) waiting).port 0).role = .monitor ∧
    ((after (.powerOnReset ⟨0b111111, 0b111111, 0b101⟩) waiting).port 0).address = 0x4D ∧
    (after (.powerOnReset ⟨0b111111, 0b111111, 0b101⟩) waiting).menu = [] := by decide +kernel

theorem test_resetPin : (after (.resetPin strapsAtReset) waiting).menu.length = 2 ∧
    ((after (.resetPin strapsAtReset) waiting).station 2).state = .opened ∧ (after (.resetPin strapsAtReset) waiting).tickets = [] := by
  decide +kernel

theorem test_secondTimerExpiry : (after .secondTimerExpiry waiting).clock = 1001 ∧
    ((after .secondTimerExpiry waiting).station 11).due = 1 ∧ (after .secondTimerExpiry { waiting with clock := 65535 }).clock = 65535 := by
  decide +kernel

/-- A second event brings the slip, due at 1345, into the horizon of 300 at clock 1045, and calls it at 1345. -/
theorem test_stationSecondEvent :
    ((after (.stationSecondEvent 2) (after .secondTimerExpiry { waiting with clock := 1044 })).slips.map Slip.previewed) = [true] ∧
    ((after (.stationSecondEvent 2) (after .secondTimerExpiry { waiting with clock := 1344 })).slips.map Slip.state) = [.called 1345 30] := by
  decide +kernel

theorem test_takeTimeout : (after (.takeTimeout 16) called).slips.map Slip.state = [.pending] ∧
    ((after (.takeTimeout 16) called).station 2).missed = 1 := by decide +kernel

/-- A read with nothing to send (10.3): status byte 40h in service, then FFh; and a held read (R145). -/
theorem test_readTransaction :
    (((after (.readTransaction 0 0x48) waiting).port 0).reading.map fun r => (r.status, r.byteAt 1)) = some (0x40, 0xFF) ∧
    ((after (.readTransaction 2 0x48) (after (.delayWave (frame 2 [3, 0, 120])) waiting)).port 2).stretch = some 0 := by decide +kernel

theorem test_recordDelivery :
    let t := after (.recordDelivery 0) (after (.readTransaction 0 0x48) (after (.status (frame 0 [])) waiting))
    ((t.port 0).slot, (t.port 0).attention) = (.empty, .released) := by decide +kernel

/-- The stretch limit (R145): busy set, bit 1, and no record. -/
theorem test_stretchTimerExpiry :
    let t := after (.stretchTimerExpiry 2) (after (.readTransaction 2 0x48) (after (.delayWave (frame 2 [3, 0, 120])) waiting))
    ((t.port 2).stretch, (t.port 2).reading) = (none, some ⟨0x42, .nothing, false⟩) := by decide +kernel

theorem test_attentionTimers :
    let s := closed.modPort 0 fun u => { u with attention := .waiting, relTimer := some 3, absTimer := some 3 }
    ((after (.relativeTimerExpiry 0) s).port 0).attention = .asserted ∧ ((after (.absoluteTimerExpiry 0) s).port 0).relTimer = none := by
  decide +kernel

/-! ## States that meet the hypotheses of the statements -/

/-- `Takes`, as a check. -/
def takesNow (c : Cmd) (w : Written) (s : State) : Bool :=
  decide (w.address = (s.port w.port).address) && decide ((s.port w.port).slot = .empty) && decide ((s.port w.port).stretch = none) &&
    (decide ((s.port w.port).muted = false) || decide (c = .status) || decide (c = .portRestart)) && permits c (s.port w.port).role

theorem takes_of {c : Cmd} {w : Written} {s : State} (h : takesNow c w s = true) : Takes c w s := by
  simp only [takesNow, Bool.and_eq_true, Bool.or_eq_true, decide_eq_true_eq] at h
  exact ⟨h.1.1.1.1, h.1.1.1.2, h.1.1.2, by simpa [or_assoc] using h.1.2, h.2⟩

/-- `State.RecordsSound`, as a check. -/
def recordsNow (s : State) : Bool :=
  decide (s.clock ≤ 65535 ∧ (s.secondTimer = none ↔ s.service = .closed) ∧ (s.service = .closed → s.tickets = [] ∧ s.slips = []) ∧
    (1 ≤ s.nextTicket ∧ s.nextTicket ≤ 65535) ∧ (1 ≤ s.nextSlip ∧ s.nextSlip ≤ 65535) ∧ (s.ticketsExhausted = true → s.nextTicket = 65535) ∧
    (s.slipsExhausted = true → s.nextSlip = 65535) ∧ s.tickets.Pairwise (fun t u => t.number < u.number) ∧
    s.slips.Pairwise (fun x y => x.number < y.number) ∧
    (∀ t ∈ s.tickets, 1 ≤ t.number ∧ (t.number < s.nextTicket ∨ s.ticketsExhausted = true ∧ t.number = 65535)) ∧
    (∀ x ∈ s.slips, 1 ≤ x.number ∧ (x.number < s.nextSlip ∨ s.slipsExhausted = true ∧ x.number = 65535)) ∧
    ∀ x ∈ s.slips, ∀ m ∈ x.members, 1 ≤ m.ticket ∧ (m.ticket < s.nextTicket ∨ s.ticketsExhausted = true ∧ m.ticket = 65535))

theorem records_of {s : State} (h : recordsNow s = true) : s.RecordsSound := by
  obtain ⟨h1, h2, h3, h4, h5, h6, h7, h8, h9, h10, h11, h12⟩ := of_decide_eq_true h
  exact ⟨h1, h2, h3, h4, h5, h6, h7, h8, h9, h10, h11, h12⟩

/-- `State.StationsSound`, as a check. -/
def stationsNow (s : State) : Bool :=
  decide (∀ st : StationId,
    ((1 ≤ (s.station st).config.slots ∧ (s.station st).config.slots ≤ 32) ∧ (s.station st).config.reserve < (s.station st).config.slots ∧
      (s.station st).config.plate ≤ 300 ∧ (5 ≤ (s.station st).config.timeout ∧ (s.station st).config.timeout ≤ 120) ∧
      (s.station st).config.horizon ≤ 900 ∧ (s.station st).config.window ≤ 300 ∧ (s.station st).config.initialLag ≤ 600 ∧
      (s.station st).config.backup ≠ some st) ∧
    (s.station st).lag ≤ 600 ∧ s.busyCount st ≤ (s.station st).config.slots ∧ (s.station st).missed ≤ 3 ∧
    (s.isRunning st = true → (s.station st).missed < 3) ∧
    ((s.station st).evacuating = true →
      (s.station st).state = .down ∧ s.queue st ≠ [] ∧ ∃ b, (s.station st).config.backup = some b ∧ s.isRunning b = true)) &&
  decide (∀ x ∈ s.slips, x.isCalled = true → s.isRunning x.station = true)

theorem stations_of {s : State} (h : stationsNow s = true) : s.StationsSound := by
  simp only [stationsNow, Bool.and_eq_true, decide_eq_true_eq] at h
  obtain ⟨h, hc⟩ := h
  exact ⟨fun st => by obtain ⟨⟨a, b, c, d, e, f, g, i⟩, _⟩ := h st; exact ⟨a, b, c, d, e, f, g, i⟩, fun st => (h st).2.1, fun st => (h st).2.2.1,
    hc, fun st => (h st).2.2.2.1, fun st => (h st).2.2.2.2.1, fun st => (h st).2.2.2.2.2⟩

/-- `State.MembersSound`, as a check. -/
def membersNow (s : State) : Bool :=
  decide (∀ x ∈ s.slips, ∀ m ∈ x.members, ∃ t ∈ s.tickets, t.number = m.ticket ∧
    ∃ l ∈ (t.lines[m.line]?).toList, l.state = LineState.follows x.number x.state ∧ l.qty = m.qty) &&
  decide (∀ t ∈ s.tickets, ∀ i < t.lines.length, ∀ l ∈ (t.lines[i]?).toList, ∀ n ∈ l.state.slipNumber.toList,
    ∃ x ∈ s.slips, x.number = n ∧ ∃ m ∈ x.members, m.ticket = t.number ∧ m.line = i) &&
  decide (∀ x ∈ s.slips, (x.members.map fun m => (m.ticket, m.line)).Nodup) &&
  decide (∀ x ∈ s.slips, x.isTaken = false → x.members ≠ [] ∧ x.portions = (x.members.map Member.qty).sum) &&
  decide (∀ t ∈ s.tickets, t.state = t.workedState ∧ t.allVoid = false)

theorem members_of {s : State} (h : membersNow s = true) : s.MembersSound := by
  simp only [membersNow, Bool.and_eq_true, decide_eq_true_eq] at h
  obtain ⟨⟨⟨⟨h1, h2⟩, h3⟩, h4⟩, h5⟩ := h
  refine ⟨fun x hx m hm => ?_, fun t ht i l n hl hn => ?_, h3, h4, h5⟩
  · obtain ⟨t, ht, hn, l, hl, hs⟩ := h1 x hx m hm
    exact ⟨t, ht, hn, l, by simpa using hl, hs⟩
  · exact h2 t ht i (List.getElem?_eq_some_iff.mp hl).1 l (by simpa using hl) n (by simpa using hn)

theorem sound_menu : closed.MenuSound := ⟨by decide, by decide, by decide, by decide⟩
theorem sound_menu_waiting : waiting.MenuSound := ⟨by decide, by decide, by decide, by decide⟩
theorem sound_records : waiting.RecordsSound ∧ called.RecordsSound ∧ taken.RecordsSound ∧ ready.RecordsSound :=
  ⟨records_of (by decide +kernel), records_of (by decide +kernel), records_of (by decide +kernel), records_of (by decide +kernel)⟩
theorem sound_stations : waiting.StationsSound ∧ called.StationsSound :=
  ⟨stations_of (by decide +kernel), stations_of (by decide +kernel)⟩

/-- The ports of a kitchen are as reset leaves them. -/
theorem waiting_ports (p : PortId) : waiting.port p = portAtReset strapsAtReset p := by revert p; decide +kernel

theorem sound_ports : waiting.PortsSound := fun p => by
  rw [waiting_ports]
  exact ⟨by simp [portAtReset], by simp [portAtReset], by simp [portAtReset], by simp [portAtReset], by simp [portAtReset, ReplySlot.isReady],
    by simp [portAtReset]⟩

/-- `State.WavesSound`, as a check. -/
def wavesNow (s : State) : Bool :=
  decide (∀ w, (s.wave w).state = .free → s.ticketCount w = 0 ∧ s.slipCount w = 0 ∧ (s.wave w).delay = none) &&
  decide (∀ w, (s.wave w).state = .sealed → ¬(s.ticketCount w = 0 ∧ s.slipCount w = 0)) &&
  decide (s.service = .draining → ∀ w, (s.wave w).state ≠ .opened) &&
  decide (∀ w, ∀ d ∈ (s.wave w).delay.toList, d.slips.Pairwise (fun e f => e.1 < f.1) ∧
    ∀ e ∈ d.slips, e.2 = false → ∃ x ∈ s.slips, x.number = e.1 ∧ x.wave = w ∧ x.isPending = true)

theorem waves_of {s : State} (h : wavesNow s = true) : s.WavesSound := by
  simp only [wavesNow, Bool.and_eq_true, decide_eq_true_eq] at h
  obtain ⟨⟨⟨h1, h2⟩, h3⟩, h4⟩ := h
  exact ⟨h1, h2, h3, fun w d hd => ⟨(h4 w d (by simp [hd])).1, fun n hn => (h4 w d (by simp [hd])).2 (n, false) hn rfl⟩⟩

theorem sound_waves : waiting.WavesSound := waves_of (by decide +kernel)

theorem sound_members : waiting.MembersSound ∧ called.MembersSound ∧ taken.MembersSound ∧ ready.MembersSound :=
  ⟨members_of (by decide +kernel), members_of (by decide +kernel), members_of (by decide +kernel), members_of (by decide +kernel)⟩

/-! ### The step, the resets, the invariants -/

theorem witness_FrontCommandRuns : { waiting with pending := [.secondTimerExpiry] }.pending = .secondTimerExpiry :: [] := rfl

/-- `waiting` with the counters of the part's clocks at given values. -/
def ticking (second : Option Nat) (tenth stretch : Nat) : State :=
  { waiting with secondTimer := second, tenthDivider := tenth }.modPort 2 fun u => { u with slot := .busy 0x14, stretch := some stretch }

/-- At the port's clocks: a stretch that runs on and one at its limit; at a tenth tick an attention timer about to run out, and two that run on. -/
theorem witness_IdleStepCountsOneCycle :
    (ticking none 399998 99998).pending = [] ∧ (ticking none 399998 99998).secondTimer = none ∧
    (ticking (some 3999998) 399998 99998).secondTimer = some 3999998 ∧ 3999998 + 1 < 4000000 ∧
    (ticking (some 3999999) 399999 0).secondTimer = some 3999999 ∧ 4000000 ≤ 3999999 + 1 ∧
    (ticking none 399998 99998).tenthDivider + 1 < 400000 ∧ 400000 ≤ (ticking none 399999 0).tenthDivider + 1 ∧
    ((ticking none 399998 99998).port 2).slot.isBusy = true ∧ ((ticking none 399998 99998).port 0).stretch = none ∧
    ((ticking none 399998 99998).port 2).stretch = some 99998 ∧ 99998 + 1 < 100000 ∧
    ((ticking none 399999 99999).port 2).stretch = some 99999 ∧ 100000 ≤ 99999 + 1 ∧
    (let s := (ticking none 399999 0).modPort 0 fun u => { u with attention := .waiting, relTimer := some 1, absTimer := some 1 }
     (s.port 0).stretch = none ∧ (s.port 0).attention = .waiting ∧ (s.port 0).relTimer = some 1 ∧ 400000 ≤ s.tenthDivider + 1) ∧
    (let s := (ticking none 399999 0).modPort 0 fun u => { u with attention := .waiting, relTimer := some 2, absTimer := some 255 }
     (s.port 0).attention = .waiting ∧ (s.port 0).relTimer = some 2 ∧ (s.port 0).absTimer = some 255) := by decide

theorem witness_StepKeeps : waiting.PortsSound ∧ waiting.MenuSound ∧ waiting.RecordsSound ∧ waiting.StationsSound ∧ waiting.WavesSound ∧
    waiting.MembersSound ∧ (∃ t, step waiting = .next t) ∧
    ∃ t, step { waiting with pending := [.stationDown (frame 2 [2])] } = .next t :=
  ⟨sound_ports, sound_menu_waiting, sound_records.1, sound_stations.1, sound_waves, sound_members.1, ⟨_, rfl⟩, _, rfl⟩

theorem witness_EveryCommandAnswers : (Instr.takeTimeout 1).wellFormed = true ∧ (Instr.unknownCommand ⟨0, 0, [0xFF]⟩).wellFormed = true ∧
    (Instr.bump (frame 3 [0, 16])).wellFormed = true := by decide

/-! ### A frame at its port -/

/-- `waiting` with port 0 changed. -/
def at0 (f : PortUnit → PortUnit) : State := waiting.modPort 0 f

theorem witness_ForeignAndCollidingFrames :
    (Instr.status ⟨0, 0x4F, [0]⟩).frame? = some (.status, ⟨0, 0x4F, [0]⟩) ∧ (0x4F : BitVec 7) ≠ (waiting.port 0).address ∧
    (Instr.status (frame 0 [])).frame? = some (.status, frame 0 []) ∧
    (frame 0 []).address = ((at0 fun u => { u with slot := .busy 0x14 }).port 0).address ∧
    ((at0 fun u => { u with slot := .busy 0x14 }).port 0).slot ≠ .empty := by decide +kernel

theorem witness_MalformedFrameRefused :
    (Instr.status (frame 0 [1])).frame? = some (.status, frame 0 [1]) ∧ (frame 0 [1]).address = (waiting.port 0).address ∧
    (waiting.port 0).slot = .empty ∧ (waiting.port 0).stretch = none ∧ formed .status (frame 0 [1]).body = false := by decide +kernel

/-- Parameter bytes with their length in front. -/
def withLength (ps : List Byte) : List Byte := byte ps.length :: ps

/-- One line of SUBMIT TICKET, the salmon. -/
def line1 : List Byte := [0x01, 0x36, 1, 0]

/-- The last encodable value of every field, and the first value outside it (the table after R138); a length one off; line counts of 0
and 13 (R167). -/
theorem witness_MalformedFrameRefused_values :
    let taken : List (Cmd × List Byte) :=
      [(.status, []), (.setLimits, [255]), (.take, [255, 255]), (.setPortMode, [255, 255, 255]), (.queryWave, [31]), (.delayWave, [31, 128, 0]),
        (.defineWave, [31, 255, 255, 255, 255, 255, 255, 255, 255]), (.markOut, [0x0F, 255]), (.setItem, [0x0F, 255, 11, 255, 255, 255]),
        (.queryDiversion, [7]), (.setDiversion, [7, 255, 0x0F, 255, 0x0F, 255, 255, 11]), (.refire, [255, 255, 11]), (.queryTicket, [0, 0, 11]),
        (.querySlip, [0, 0, 15]), (.queryStation, [11]), (.setStation, [11, 5, 0, 0, 255, 255, 0, 11, 255, 255, 255, 255, 255, 255]),
        (.setStation, [11, 255, 0, 0, 0, 0, 0, 255, 0, 0, 0, 0, 0, 0]), (.submitTicket, [31, 3, 255, 255, 0]),
        (.submitTicket, [31, 3, 255, 0, 13] ++ (List.replicate 13 line1).flatten), (.submitTicket, [0, 0, 0, 0, 1, 0x0F, 255, 255, 255])]
    let refused : List (Cmd × List Byte) :=
      [(.status, [0]), (.setLimits, []), (.take, [0, 16, 0]), (.setPortMode, [0, 0]), (.queryWave, [32]), (.delayWave, [32, 0, 0]),
        (.defineWave, [32, 0, 0, 0, 0, 0, 0, 0, 0]), (.markOut, [0x10, 0]), (.setItem, [0x10, 0, 0, 0, 0, 0]), (.setItem, [0, 0, 12, 0, 0, 0]),
        (.queryDiversion, [8]), (.setDiversion, [8, 0, 0, 0, 0, 0, 0, 0]), (.setDiversion, [0, 0, 0x10, 0, 0, 0, 0, 0]),
        (.setDiversion, [0, 0, 0, 0, 0x10, 0, 0, 0]), (.setDiversion, [0, 0, 0, 0, 0, 0, 0, 12]), (.refire, [0, 21, 12]), (.queryTicket, [0, 21, 12]),
        (.querySlip, [0, 16, 16]), (.queryStation, [12]), (.setStation, [12, 0, 0, 0, 0, 0, 0, 0, 0, 0, 0, 0, 0, 0]),
        (.setStation, [0, 6, 0, 0, 0, 0, 0, 0, 0, 0, 0, 0, 0, 0]), (.setStation, [0, 0, 0, 0, 0, 0, 0, 12, 0, 0, 0, 0, 0, 0]),
        (.submitTicket, [32, 0, 0, 0, 1] ++ line1), (.submitTicket, [0, 4, 0, 0, 1] ++ line1), (.submitTicket, [0, 0, 0, 0, 2] ++ line1),
        (.submitTicket, [0, 0, 0, 0, 14] ++ (List.replicate 13 line1).flatten), (.submitTicket, [0, 0, 0, 0, 2] ++ line1 ++ [0x10, 0, 1, 0])]
    (∀ e ∈ taken, paramsOf (withLength e.2) = some e.2 ∧ formed e.1 (withLength e.2) = true) ∧
      ∀ e ∈ refused, paramsOf (withLength e.2) = some e.2 ∧ formed e.1 (withLength e.2) = false := by decide +kernel

/-- The length byte (R136, R138): missing, one off either way, 60 and 61; a longer write is judged by its first 62 bytes (assumption 14). -/
theorem witness_MalformedFrameRefused_lengths :
    [paramsOf [], paramsOf [1], paramsOf [0, 7], paramsOf (61 :: List.replicate 61 7), paramsOf (61 :: List.replicate 60 7)] =
      [none, none, none, none, none] ∧
    paramsOf [0] = some [] ∧ paramsOf (60 :: List.replicate 60 7) = some (List.replicate 60 7) ∧
    paramsOf (60 :: List.replicate 60 7 ++ [8]) = some (List.replicate 60 7) ∧ 61 < (60 :: List.replicate 60 (7 : Byte) ++ [8]).length ∧
    formed .status [] = false := by decide +kernel

/-- Byte positions (10.2), with a different value in every byte. -/
theorem witness_MalformedFrameRefused_positions :
    parseSubmit ([3, 2, 1, 0xFD, 2] ++ [4, 5, 6, 7, 8, 9, 10, 11]) = some ⟨3, 513, true, [⟨0x405, 6, 7⟩, ⟨0x809, 10, 11⟩]⟩ ∧
    parseSubmit ([3, 2, 1, 0xFE, 0] ++ []) = some ⟨3, 513, false, []⟩ ∧
    parseSetStation [9, 5, 30, 31, 1, 2, 33, 8, 3, 4, 5, 6, 7, 10] = some (9, ⟨some 5, 30, 31, 258, 33, some 8, 772, 1286, 1802⟩) ∧
    parseSetStation [9, 255, 30, 31, 1, 2, 33, 255, 3, 4, 5, 6, 7, 10] = some (9, ⟨none, 30, 31, 258, 33, none, 772, 1286, 1802⟩) := by
  decide +kernel

theorem witness_MutedFrameRefused :
    let s := at0 fun u => { u with errors := 16, muted := true }
    (Instr.queryWave (frame 0 [31])).frame? = some (.queryWave, frame 0 [31]) ∧ (frame 0 [31]).address = (s.port 0).address ∧
    (s.port 0).slot = .empty ∧ (s.port 0).stretch = none ∧ formed .queryWave (frame 0 [31]).body = true ∧ (s.port 0).muted = true ∧
    Cmd.queryWave ≠ .status ∧ Cmd.queryWave ≠ .portRestart := by decide +kernel

/-- The commands of the ORDER, MONITOR, STATION and PASS roles (8.4). -/
def orderCmds : List Cmd := [.status, .queryWave, .queryItem, .queryDiversion, .submitTicket, .voidTicket, .queryTicket, .querySlip, .queryStation,
  .setPortMode, .portRestart, .list]
def monitorCmds : List Cmd := [.status, .queryWave, .queryItem, .queryDiversion, .queryTicket, .querySlip, .queryStation, .setPortMode,
  .portRestart, .list]
def stationCmds : List Cmd := [.status, .queryWave, .queryItem, .queryDiversion, .markOut, .markIn, .queryTicket, .querySlip, .pauseStation,
  .resumeStation, .queryStation, .stationOpen, .take, .bump, .setPortMode, .portRestart, .list]
def passCmds : List Cmd := Cmd.all.filter fun c => c != .take && c != .bump

/-- Each role with a command of its list and one that is not on it: TAKE and VOID TICKET, but at STATION. -/
theorem witness_RoleRefused :
    (∀ p : PortId, p = 0 ∨ p = 2 ∨ p = 3 → (frame p [0, 21]).address = (waiting.port p).address ∧ (waiting.port p).slot = .empty ∧
      (waiting.port p).stretch = none ∧ (waiting.port p).muted = false ∧ formed .take (frame p [0, 21]).body = true ∧
      formed .voidTicket (frame p [0, 21]).body = true ∧ (Instr.take (frame p [0, 21])).frame? = some (.take, frame p [0, 21]) ∧
      (Instr.voidTicket (frame p [0, 21])).frame? = some (.voidTicket, frame p [0, 21])) ∧
    (waiting.port 0).role = .order ∧ Cmd.take ∉ orderCmds ∧ Cmd.voidTicket ∈ orderCmds ∧
    (waiting.port 2).role = .pass ∧ Cmd.take ∉ passCmds ∧ Cmd.voidTicket ∈ passCmds ∧ (∀ d, d ∈ passCmds ↔ d ≠ Cmd.take ∧ d ≠ .bump) ∧
    (waiting.port 3).role = .station ∧ Cmd.voidTicket ∉ stationCmds ∧ Cmd.take ∈ stationCmds ∧
    ((at0 fun u => { u with role := .monitor }).port 0).role = .monitor ∧ Cmd.take ∉ monitorCmds ∧ Cmd.list ∈ monitorCmds ∧
    formed .list (frame 0 [0, 21]).body = true :=
  ⟨by decide +kernel, by decide +kernel, by decide, by decide, by decide +kernel, by decide, by decide, fun d => by cases d <;> decide,
    by decide +kernel, by decide, by decide, by decide +kernel, by decide, by decide, by decide⟩

theorem witness_UnknownCodeRefused :
    (∀ code ∈ [(0x00 : Byte), 0x06, 0xFF], ∀ c ∈ Cmd.all, c.code ≠ code) ∧ (∀ c : Cmd, c ∈ Cmd.all) ∧
    (0x48 : BitVec 7) = (waiting.port 0).address ∧ (waiting.port 0).slot = .empty ∧ (waiting.port 0).stretch = none ∧
    (0x4F : BitVec 7) ≠ (waiting.port 0).address ∧ ((at0 fun u => { u with slot := .busy 0x14 }).port 0).slot ≠ .empty :=
  ⟨by decide, fun c => by cases c <;> decide, by decide +kernel, by decide +kernel, by decide +kernel, by decide +kernel, by decide +kernel⟩

/-! ### The service controller -/

theorem witness_OpenServiceOpens :
    Takes .openService (frame 2 []) closed ∧ paramsOf (frame 2 []).body = some [] ∧ closed.service = .closed ∧ (∃ st, closed.Bound st) ∧
    Takes .openService (frame 2 []) State.reset ∧ (¬∃ st, State.reset.Bound st) ∧
    Takes .openService (frame 2 []) waiting ∧ waiting.service ≠ .closed := by
  refine ⟨takes_of (by decide +kernel), by decide, rfl, ⟨2, 3, by decide +kernel, by decide +kernel⟩, takes_of (by decide +kernel), ?_,
    takes_of (by decide +kernel), by decide⟩
  rintro ⟨st, q, h, _⟩
  have none_bound : ∀ st : StationId, (State.reset.station st).config.port = none := by decide +kernel
  rw [none_bound] at h
  cases h

theorem witness_CloseServiceDrains :
    Takes .closeService (frame 2 []) closed ∧ Takes .closeService (frame 2 []) { waiting with service := .draining } ∧
    Takes .closeService (frame 2 []) waiting ∧ waiting.service = .opened ∧ waiting.tickets ≠ [] ∧
    Takes .closeService (frame 2 []) (running [] [x16 (.taken 990)]) ∧ (running [] [x16 (.taken 990)]).tickets = [] ∧
    (running [] [x16 (.taken 990)]).isBound (x16 (.taken 990)).station 3 = true ∧
    (waiting.wave 3).state = .opened ∧ ¬(waiting.ticketCount 3 = 0 ∧ waiting.slipCount 3 = 0) ∧
    (let s := { waiting with waves := waiting.waves.set 31 w3 }
     Takes .closeService (frame 2 []) s ∧ (s.wave 31).state = .opened ∧ s.ticketCount 31 = 0 ∧ s.slipCount 31 = 0 ∧ s.watchers 2 = true) :=
  ⟨takes_of (by decide +kernel), takes_of (by decide +kernel), takes_of (by decide +kernel), rfl, by decide, takes_of (by decide +kernel), rfl,
    by decide +kernel, by decide +kernel, by decide +kernel, takes_of (by decide +kernel), by decide +kernel⟩

theorem witness_CloseServiceDrains_waves :
    let s := running [] [x16 (.taken 990)]
    s.WavesSound ∧ (s.wave 3).state ≠ .free ∧ s.watchers 2 = true ∧ (s.wave 31).state = .free :=
  ⟨waves_of (by decide +kernel), by decide +kernel⟩

theorem witness_ServiceResetDiscards : Takes .serviceReset (frame 2 []) waiting ∧ paramsOf (frame 2 []).body = some [] :=
  ⟨takes_of (by decide +kernel), by decide⟩

/-- At other ports: a command in flight, the same with a read held, and a READY reply. -/
theorem witness_ServiceResetDiscards_ports :
    let s := ((waiting.modPort 0 fun u => { u with slot := .busy 0x14, collided := true }).modPort 3 fun u =>
      { u with slot := .busy 0x14, stretch := some 7, collided := true }).modPort 4 fun u => { u with slot := .ready ⟨0x05, .ok, .empty⟩ }
    Takes .serviceReset (frame 2 []) s ∧ ((s.port 0).slot = .busy 0x14 ∧ (s.port 0).stretch = none ∧ (s.port 0).collided = true) ∧
      ((s.port 3).slot = .busy 0x14 ∧ (s.port 3).stretch ≠ none) ∧ (s.port 4).slot = .ready ⟨0x05, .ok, .empty⟩ ∧
      (s.port 5).slot = .empty :=
  ⟨takes_of (by decide +kernel), by decide +kernel⟩

/-- Reads under way at the reset: a notice, a reply and none, and a held read (R147). -/
theorem witness_ServiceResetDiscards_readings :
    let n : Notice := ⟨990, .waveFree 1⟩
    let w := frame 2 []
    let s := ((waiting.modPort 0 fun u => { u with notices := [n], reading := some ⟨0x44, .notice n, true⟩ }).modPort 3 fun u =>
      { u with slot := .busy 0x14, stretch := some 7 }).modPort 4 fun u =>
        { u with slot := .ready ⟨0x05, .ok, .empty⟩, reading := some ⟨0x41, .reply ⟨0x05, .ok, .empty⟩, true⟩ }
    Takes .serviceReset w s ∧ (s.port 0).stretch = none ∧ (s.port 0).reading = some ⟨0x44, .notice n, true⟩ ∧ (s.port 1).reading = none ∧
      (s.port 3).slot = .busy 0x14 ∧ (s.port 3).stretch ≠ none ∧
      (s.port 4).reading = some ⟨0x41, .reply ⟨0x05, .ok, .empty⟩, true⟩ ∧
      ((after (.recordDelivery 0) (after (.serviceReset w) s)).port 0).notices = [⟨0, .service .closed .reset⟩] :=
  ⟨takes_of (by decide +kernel), by decide +kernel⟩

theorem witness_LimitsAndStatus :
    Takes .setLimits (frame 2 [7]) closed ∧ paramsOf (frame 2 [7]).body = some [7] ∧ Takes .setLimits (frame 2 [8]) waiting ∧
    Takes .status (frame 2 []) (waiting.modPort 2 fun u => { u with errors := 16, muted := true }) :=
  ⟨takes_of (by decide +kernel), by decide, takes_of (by decide +kernel), takes_of (by decide +kernel)⟩

/-! ### The wave table -/

/-- DEFINE WAVE of the highest wave, every limit passed. -/
def define31 : Written := frame 2 [31, 0x04, 0x00, 65, 3, 0xFF, 0xFF, 0x02, 0x59]

theorem witness_DefineWaveClamps :
    Takes .defineWave define31 closed ∧
    paramsOf define31.body = some [byte (31 : WaveId).val, 0x04, 0x00, 65, 3, 0xFF, 0xFF, 0x02, 0x59] ∧ (closed.wave 31).state = .free ∧
    Takes .defineWave define31 { waiting with service := .draining } ∧
    Takes .defineWave (frame 2 [3, 0, 0, 0, 0, 0, 0, 0, 0]) waiting ∧ (waiting.wave 3).state ≠ .free :=
  ⟨takes_of (by decide +kernel), by decide, by decide +kernel, takes_of (by decide +kernel), takes_of (by decide +kernel), by decide +kernel⟩

theorem witness_SweepPositionsPermute :
    let v : Sweep := ⟨1023, 1, .down, true, 0, 0⟩
    1 ≤ v.count ∧ v.first ≤ 1023 ∧ 1023 ≤ v.first + v.count - 1 ∧ 0 < v.count := by decide

/-- One wave command's frame at the pass. -/
def waveFrame (v : WaveId) : Written := frame 2 [byte v.val]

theorem witness_wave_commands (c : Cmd) (h : c ∈ [Cmd.sealWave, .holdWave, .releaseWave, .fireWave, .queryWave]) :
    Takes c (waveFrame 3) waiting ∧ Takes c (waveFrame 31) waiting ∧ paramsOf (waveFrame 3).body = some [byte (3 : WaveId).val] ∧
    paramsOf (waveFrame 31).body = some [byte (31 : WaveId).val] ∧ (waiting.wave 31).state = .free ∧ (waiting.wave 3).state = .opened := by
  have : ∀ c ∈ [Cmd.sealWave, .holdWave, .releaseWave, .fireWave, .queryWave],
      takesNow c (waveFrame 3) waiting = true ∧ takesNow c (waveFrame 31) waiting = true := by decide +kernel
  exact ⟨takes_of (this c h).1, takes_of (this c h).2, by decide, by decide, by decide +kernel, by decide +kernel⟩

theorem witness_SealWaveSeals :
    (let s := { waiting with waves := waiting.waves.set 3 { w3 with state := .sealed } }
     Takes .sealWave (waveFrame 3) s ∧ (s.wave 3).state = .sealed) ∧
    ¬(waiting.ticketCount 3 = 0 ∧ waiting.slipCount 3 = 0) ∧
    Takes .sealWave (waveFrame 3) (running [] []) ∧ ((running [] []).wave 3).state = .opened ∧ (running [] []).ticketCount 3 = 0 ∧
    (running [] []).slipCount 3 = 0 ∧ ((running [] []).wave 3).delay = none ∧
    (let s := ({ running [] [] with waves := State.reset.waves.set 3 { w3 with delay := some ⟨5, [(16, true)], 1, true, 1, 0, 0⟩ } }).modPort 1
       fun u => { u with role := .pass, slot := .busy 0x14 }
     Takes .sealWave (waveFrame 3) s ∧ (s.wave 3).state = .opened ∧ s.ticketCount 3 = 0 ∧ s.slipCount 3 = 0 ∧
      (s.wave 3).delay = some ⟨5, [(16, true)], 1, true, 1, 0, 0⟩ ∧ (1 : PortId) ≠ (waveFrame 3).port ∧ (s.port 1).role = .pass) :=
  ⟨⟨takes_of (by decide +kernel), by decide +kernel⟩, by decide +kernel, takes_of (by decide +kernel), by decide +kernel, by decide +kernel,
    by decide +kernel, by decide +kernel, takes_of (by decide +kernel), by decide +kernel⟩

/-- The board of two waves: slip 16 of W3 at S2 as given, and slip 17 of W4 at S3. -/
def twoWaves (x : Slip) : State :=
  running [t21 (.waiting 16) .planned] [x, ⟨17, 3, 780, 4, .normal, .pending, true, 1000, 1, [⟨20, 0, 1⟩]⟩]

theorem witness_HoldAndRelease :
    let s := { twoWaves (x16 .pending) with waves := waiting.waves.set 3 { w3 with hold := true } }
    (waiting.wave 3).hold = false ∧ Takes .releaseWave (waveFrame 3) s ∧ (s.wave 3).state ≠ .free ∧ (s.wave 3).hold = true ∧
      (s.station 2).state = .opened ∧ (∃ x ∈ s.queue 2, x.wave = 3) ∧ s.RecordsSound ∧ (s.station 11).state ≠ .opened ∧
      (∀ x ∈ s.queue 3, x.wave ≠ 3) ∧ ∃ x ∈ s.slips, x.station = 3 :=
  ⟨by decide +kernel, takes_of (by decide +kernel), by decide +kernel, by decide +kernel, by decide +kernel,
    ⟨x16 .pending, by decide +kernel, rfl⟩, records_of (by decide +kernel), by decide +kernel, by decide +kernel, by decide +kernel⟩

/-- `waiting` with a delay in flight on W3 that has reached all but the given entries. -/
def delayed (amount : Int) (left : List (Nat × Bool)) : State :=
  { waiting with
    waves := waiting.waves.set 3 { w3 with delay := some ⟨amount, left, 2, false, 0, 0, 0⟩ }
    ports := waiting.ports.set 2 { waiting.port 2 with slot := .busy 0x14 } }

theorem witness_FireWaveMovesFireTimes :
    (waiting.wave 3).delay = none ∧ waiting.RecordsSound ∧ x16 .pending ∈ waiting.slips ∧ (x16 .pending).wave = 3 ∧
    (x16 .pending).isPending = true ∧ (∃ x ∈ called.slips, ¬(x.wave = 3 ∧ x.isPending = true)) ∧
    (let x := { x16 .pending with previewed := true }
     let s := twoWaves x
     Takes .fireWave (waveFrame 3) s ∧ s.RecordsSound ∧ x ∈ s.slips ∧ x.previewed = true ∧ x.fire ≠ s.clock ∧ s.isBound x.station 3 = true ∧
       (∃ y ∈ s.queue 2, y.wave = 3) ∧ (∀ y ∈ s.queue 3, y.wave ≠ 3) ∧ ∃ y ∈ s.slips, y.station = 3) ∧
    (let s := (delayed 5 [(16, false)]).modPort 1 fun u => { u with role := .pass }
     Takes .fireWave (frame 1 [3]) s ∧ (s.wave 3).delay ≠ none) :=
  ⟨by decide +kernel, sound_records.1, by decide, rfl, rfl, ⟨x16 (.called 990 20), by decide, by decide⟩,
    ⟨takes_of (by decide +kernel), records_of (by decide +kernel), by decide +kernel⟩, takes_of (by decide +kernel), by decide +kernel⟩

theorem witness_DelayWaveStarts :
    Takes .delayWave (frame 2 [3, 0x80, 0x00]) waiting ∧ paramsOf (frame 2 [3, 0x80, 0x00]).body = some [byte (3 : WaveId).val, 0x80, 0x00] ∧
    (waiting.wave 3).state ≠ .free ∧ (waiting.wave 3).delay = none ∧ max (-600) (min 3600 (-32768 : Int)) ≠ 0 ∧
    (waiting.slips.filter fun x => decide (x.wave = 3) && x.isPending) ≠ [] ∧
    Takes .delayWave (frame 2 [3, 0x7F, 0xFF]) (running [] []) ∧ Takes .delayWave (frame 2 [3, 0, 0]) waiting ∧
    Takes .delayWave (frame 2 [31, 0, 1]) waiting ∧
    (let s := (delayed 5 [(16, false)]).modPort 1 fun u => { u with role := .pass }
     Takes .delayWave (frame 1 [3, 0, 1]) s ∧ (s.wave 3).delay ≠ none) :=
  ⟨takes_of (by decide +kernel), by decide, by decide +kernel, by decide +kernel, by decide, by decide +kernel, takes_of (by decide +kernel),
    takes_of (by decide +kernel), takes_of (by decide +kernel), takes_of (by decide +kernel), by decide +kernel⟩

theorem witness_DelayReachMovesOne :
    (waiting.wave 3).delay = none ∧
    ((delayed 5 [(16, true), (19, false)]).wave 3).delay = some ⟨5, (16, true) :: [(19, false)], 2, false, 0, 0, 0⟩ ∧
    ((delayed 5 [(16, false)]).wave 3).delay = some ⟨5, (16, false) :: [], 2, false, 0, 0, 0⟩ ∧
    ((delayed 5 []).wave 3).delay = some ⟨5, [], 2, false, 0, 0, 0⟩ ∧
    (delayed 5 [(16, false)]).slip? 16 = some (x16 .pending) ∧
    ((1350 : Nat) : Int) = max (max 0 (min 65535 (((x16 .pending).fire : Int) + 5))) (delayed 5 []).clock ∧ 1350 ≠ (x16 .pending).fire ∧
    (let s := { delayed (-600) [(16, false), (19, false)] with clock := 1345 }
     s.slip? 16 = some (x16 .pending) ∧ ((1345 : Nat) : Int) = max (max 0 (min 65535 (((x16 .pending).fire : Int) + -600))) s.clock ∧
      1345 = (x16 .pending).fire ∧ [(19, false)] ≠ ([] : List (Nat × Bool))) ∧
    (let x := { x16 .pending with previewed := true }
     let s := { delayed 5 [(16, false), (19, false)] with slips := [x] }
     s.slip? 16 = some x ∧ s.isBound x.station 3 = true) := by decide +kernel

theorem witness_QueryWaveReports :
    (let s := (delayed 5 [(16, false)])
     Takes .queryWave (frame 0 [3]) s ∧ (s.wave 3).state ≠ .free ∧ (s.wave 3).delay = some ⟨5, [(16, false)], 2, false, 0, 0, 0⟩) ∧
    Takes .queryWave (frame 0 [3]) waiting ∧ (waiting.wave 3).delay = none :=
  ⟨⟨takes_of (by decide +kernel), by decide +kernel, by decide +kernel⟩, takes_of (by decide +kernel), by decide +kernel⟩

/-! ### The menu store -/

/-- A menu with every index taken. -/
def fullMenu : List MenuEntry := (List.range 256).map fun i => ⟨i, BitVec.ofNat 12 (1000 + i), 2, 10, 1⟩

theorem witness_SetItemWrites :
    Takes .setItem (frame 2 [0x0F, 0xFF, 11, 0x15, 0x19, 65]) closed ∧ (0x0F : Byte).toNat * 256 + (0xFF : Byte).toNat = (4095 : ItemCode).toNat ∧
    paramsOf (frame 2 [0x0F, 0xFF, 11, 0x15, 0x19, 65]).body = some [0x0F, 0xFF, byte (11 : StationId).val, 0x15, 0x19, 65] ∧
    Takes .setItem (frame 2 [0x0F, 0xFF, 11, 0x15, 0x19, 65]) waiting ∧ closed.service = .closed ∧ closed.MenuSound ∧
    (∃ e ∈ closed.menu, e.item = 310) ∧ (∀ e ∈ closed.menu, e.item ≠ 4095) ∧ (∀ e ∈ closed.menu, e.index ≠ 2) ∧
    (∀ j, j < 2 → ∃ e ∈ closed.menu, e.index = j) ∧
    (let s := { closed with menu := fullMenu }
     Takes .setItem (frame 2 [0x0F, 0xFF, 11, 0, 0, 0]) s ∧ s.MenuSound ∧ (∀ e ∈ s.menu, e.item ≠ 4095) ∧
      ∀ j, j < 256 → ∃ e ∈ s.menu, e.index = j) := by
  refine ⟨takes_of (by decide +kernel), by decide, by decide, takes_of (by decide +kernel), rfl, sound_menu, by decide, by decide, by decide,
    by decide, takes_of (by decide +kernel), ⟨by decide +kernel, by decide +kernel, by decide +kernel, by decide +kernel⟩, by decide +kernel, ?_⟩
  intro j hj
  exact ⟨⟨j, BitVec.ofNat 12 (1000 + j), 2, 10, 1⟩, List.mem_map.mpr ⟨j, List.mem_range.mpr hj, rfl⟩, rfl⟩

theorem witness_MenuEntriesCleared :
    Takes .clearItem (frame 2 [0x01, 0x36]) closed ∧ (0x01 : Byte).toNat * 256 + (0x36 : Byte).toNat = (310 : ItemCode).toNat ∧
    (∃ e ∈ closed.menu, e.item = 310) ∧ Takes .clearItem (frame 2 [0, 0]) closed ∧ (∀ e ∈ closed.menu, e.item ≠ 0) ∧
    Takes .clearItem (frame 2 [0, 0]) waiting ∧ Takes .clearMenu (frame 2 []) closed ∧ Takes .clearMenu (frame 2 []) waiting :=
  ⟨takes_of (by decide +kernel), by decide, by decide, takes_of (by decide +kernel), by decide, takes_of (by decide +kernel),
    takes_of (by decide +kernel), takes_of (by decide +kernel)⟩

theorem witness_MenuTablesReported :
    Takes .queryItem (frame 5 [0x01, 0x36]) waiting ∧ Takes .queryItem (frame 5 [0x0F, 0xFF]) waiting ∧ waiting.MenuSound ∧
    Takes .setDiversion (frame 2 [7, 0xFF, 0x0F, 0xFF, 0, 0, 0xFF, 11]) closed ∧
    paramsOf (frame 2 [7, 0xFF, 0x0F, 0xFF, 0, 0, 0xFF, 11]).body =
      some [byte (7 : DiversionId).val, 0xFF, 0x0F, 0xFF, 0, 0, 0xFF, byte (11 : StationId).val] ∧
    Takes .setDiversion (frame 2 [7, 0xFF, 0x0F, 0xFF, 0, 0, 0xFF, 11]) waiting ∧ Takes .queryDiversion (frame 5 [7]) waiting ∧
    paramsOf (frame 5 [7]).body = some [byte (7 : DiversionId).val] :=
  ⟨takes_of (by decide +kernel), takes_of (by decide +kernel), sound_menu_waiting, takes_of (by decide +kernel), by decide,
    takes_of (by decide +kernel), takes_of (by decide +kernel), by decide⟩

theorem witness_DiversionMatching :
    (evening.diversions[(1 : DiversionId)]).isMatch 310 0 = true ∧
    (∀ j : DiversionId, j < 1 → (evening.diversions[j]).isMatch 310 0 = false) ∧
    ∀ j : DiversionId, (evening.diversions[j]).isMatch 780 0 = false := by decide +kernel

/-- The salmon's station, S2, in each state, with its backup S3 in each state; and S2 DOWN with no backup. -/
theorem witness_DiversionMatching_routes (state other : StationState) :
    let s := (waiting.modStation 2 fun u => { u with state := state }).modStation 3 fun u => { u with state := other }
    let alone := waiting.modStation 2 fun u => { u with state := .down, config := { u.config with backup := none } }
    s.chosenStation 310 0 = some 2 ∧ (s.station 2).state = state ∧ (s.station 2).config.backup = some 3 ∧ (s.station 3).state = other ∧
      alone.chosenStation 310 0 = some 2 ∧ (alone.station 2).state = .down ∧ (alone.station 2).config.backup = none := by
  cases state <;> cases other <;> decide +kernel

/-- A board for a mark of the salmon: ticket 21 has no other line, ticket 22 has its other line READY, and ticket 23 has its other line in
one previewed slip with the salmon. -/
def marked : State :=
  let tart (state : LineState) : Line := ⟨780, 1, 0, some 3, state, false⟩
  running
    [t21 (.waiting 16) .planned, { t21 (.waiting 16) .firing with number := 22, table := 42, position := 6, lines := [salmon 6 (.waiting 16), tart (.ready 995)] },
      { t21 (.waiting 17) .planned with number := 23, table := 43, position := 2, lines := [salmon 4 (.waiting 17), tart (.waiting 17)] }]
    [{ x16 .pending with previewed := true, portions := 10, members := [⟨21, 0, 4⟩, ⟨22, 0, 6⟩] },
      { x16 .pending with number := 17, previewed := true, portions := 5, members := [⟨23, 0, 4⟩, ⟨23, 1, 1⟩] }]

theorem sound_marked : marked.RecordsSound ∧ marked.MembersSound := ⟨records_of (by decide +kernel), members_of (by decide +kernel)⟩

theorem witness_MarkOutVoidsWaiting :
    Takes .markOut (frame 2 [0x01, 0x36]) marked ∧ (0x01 : Byte).toNat * 256 + (0x36 : Byte).toNat = (310 : ItemCode).toNat ∧
    paramsOf (frame 2 [0x01, 0x36]).body = some [0x01, 0x36] ∧ (310 : ItemCode) ∉ marked.outBoard ∧ marked.service ≠ .closed ∧
    (marked.RecordsSound ∧ marked.MembersSound) ∧ (∀ k ∈ marked.tickets, marked.watchersAnd k.origin 2 = true) ∧
    (marked.tickets.map fun k => (k.lines.any (Line.hit 310), decide (∀ l ∈ (k.markedOut 310).lines, l.state = .void),
      decide (k.state ≠ .up ∧ (k.markedOut 310).state = .up))) = [(true, true, false), (true, false, true), (true, false, false)] ∧
    (marked.slips.map fun x => (x.isPending && x.previewed && x.members.any (marked.hitMember 310) && marked.isBound x.station 3,
      (marked.slipMarkedOut 310 x).members)) = [(true, []), (true, [⟨23, 1, 1⟩])] ∧
    ({ waiting with service := .draining }).RecordsSound ∧ ({ waiting with service := .draining }).MembersSound ∧
    Takes .markOut (frame 2 [0x01, 0x36]) { waiting with service := .draining } ∧
    Takes .markOut (frame 2 [0x0F, 0xFF]) closed ∧ (4095 : ItemCode) ∉ closed.outBoard ∧
    (let s := { waiting with outBoard := [0] }
     Takes .markOut (frame 2 [0, 0]) s ∧ (0 : ItemCode) ∈ s.outBoard) :=
  ⟨takes_of (by decide +kernel), by decide, by decide, by decide, by decide, sound_marked, by decide +kernel, by decide +kernel,
    by decide +kernel, records_of (by decide +kernel), members_of (by decide +kernel), takes_of (by decide +kernel), takes_of (by decide +kernel),
    by decide, takes_of (by decide +kernel), by decide⟩

/-- Not at the end of draining: W3 sealed, its one ticket all VOID, its slip on a delay list and the whole queue of a station whose
evacuation is in flight; and a delay list of two slips, one of which the mark empties. -/
theorem witness_MarkOutVoidsWaiting_freeing :
    let w := frame 2 [0x01, 0x36]
    (let d := delayed 5 [(16, false)]
     let s := ({ d with waves := d.waves.set 3 { d.wave 3 with state := .sealed } }.modStation 2 fun u =>
       { u with state := .down, evacuating := true }).modPort 2 fun u => { u with slot := .empty }
     let t := after (.markOut w) s
     Takes .markOut w s ∧ s.RecordsSound ∧ s.MembersSound ∧ s.service = .opened ∧ (s.wave 3).state = .sealed ∧ t.ticketCount 3 = 0 ∧
       t.slipCount 3 = 0 ∧ ¬(s.ticketCount 3 = 0 ∧ s.slipCount 3 = 0) ∧ s.watchers 2 = true ∧ (s.station 2).evacuating = true ∧
       (t.station 2).evacuating = false ∧ s.watchersOf 2 3 = true ∧ (s.wave 31).state = .free) ∧
    (let s := { marked with waves := (delayed 5 [(16, false), (17, false)]).waves }
     Takes .markOut w s ∧ s.RecordsSound ∧ s.MembersSound ∧ (s.wave 3).state ≠ .sealed ∧
       (((after (.markOut w) s).wave 3).delay.map Delay.slips) = some [(16, true), (17, false)]) :=
  ⟨⟨takes_of (by decide +kernel), records_of (by decide +kernel), members_of (by decide +kernel), by decide +kernel⟩,
    takes_of (by decide +kernel), records_of (by decide +kernel), members_of (by decide +kernel), by decide +kernel⟩

/-- At the end of draining, with a TAKEN slip left that has no member. -/
theorem witness_MarkOutVoidsWaiting_ending :
    let w := frame 2 [0x01, 0x36]
    let x := { x16 (.taken 990) with number := 17, members := [] }
    let s := { waiting with service := .draining, waves := waiting.waves.set 3 { w3 with state := .sealed }, slips := [x16 .pending, x] }
    Takes .markOut w s ∧ s.RecordsSound ∧ s.MembersSound ∧ s.WavesSound ∧ x ∈ s.slips ∧ x.isTaken = true ∧ s.isBound x.station 3 = true ∧
      (s.wave 3).state ≠ .free ∧ s.watchers 2 = true ∧ s.tickets ≠ [] ∧ (after (.markOut w) s).tickets = [] :=
  ⟨takes_of (by decide +kernel), records_of (by decide +kernel), members_of (by decide +kernel), waves_of (by decide +kernel), by decide +kernel⟩

theorem witness_MarkInClears : Takes .markIn (frame 4 [0x0F, 0xFF]) waiting ∧
    (0x0F : Byte).toNat * 256 + (0xFF : Byte).toNat = (4095 : ItemCode).toNat ∧ paramsOf (frame 4 [0x0F, 0xFF]).body = some [0x0F, 0xFF] :=
  ⟨takes_of (by decide +kernel), by decide, by decide⟩

/-! ### The ticket board -/

/-- A submission at P0 for wave `v`, table `table`, with the given line bytes. -/
def submission (v : WaveId) (table flags count : Nat) (lines : List Byte) : Written :=
  frame 0 ([byte v.val] ++ twoBytes table ++ [byte flags, byte count] ++ lines)

/-- `waiting` with the salmon marked out. -/
def short : State := { waiting with outBoard := [310] }
/-- `waiting` with no station in use. -/
def unmanned : State := { waiting with stations := State.reset.stations }
/-- `waiting` with no ticket number left. -/
def noTickets : State := { waiting with ticketsExhausted := true }
/-- `waiting` with no slip number left. -/
def noSlips : State := { waiting with slipsExhausted := true }

/-- Every entry of the line store in use. -/
def crowded : State := { waiting with tickets := [{ t21 (.waiting 16) .planned with lines := List.replicate 2048 (salmon 4 (.ready 1)) }] }

/-- For each of the eleven checks a submission or a state that meets its clause (R60 to R62). -/
theorem witness_SubmitChecksInOrder :
    let one : List Byte := [0x01, 0x36, 1, 0]
    let none0 : List Byte := [0x0F, 0xFF, 1, 0]
    let parsed (w : Written) := (paramsOf w.body).bind parseSubmit
    (takesNow .submitTicket (submission 3 42 0 1 one) waiting = true ∧
      parsed (submission 3 42 0 1 one) = some ⟨3, 42, false, [⟨310, 1, 0⟩]⟩) ∧
    (closed.service ≠ .opened ∧ takesNow .submitTicket (submission 3 42 0 1 one) closed = true) ∧
    (waiting.wave 31).state = .free ∧ ({ waiting with waves := waiting.waves.set 3 { w3 with state := .sealed } }.wave 3).state = .sealed ∧
    ¬(40 ≤ 39) ∧ ¬(50 ≤ 40 + 10 - 1) ∧ (40 ≤ 40 ∧ 49 ≤ 40 + 10 - 1) ∧
    (∃ k ∈ waiting.tickets, k.wave = 3 ∧ k.table = 41) ∧ (∀ k ∈ waiting.tickets, ¬(k.wave = 3 ∧ k.table = 42)) ∧
    parsed (submission 3 42 0 0 []) = some ⟨3, 42, false, []⟩ ∧
    ((parsed (submission 3 42 0 13 (List.replicate 13 one).flatten)).map fun a => a.lines.length) = some 13 ∧
    ((parsed (submission 3 42 0 12 (List.replicate 12 one).flatten)).map fun a => a.lines.length) = some 12 ∧
    parsed (submission 3 42 0 1 [0x01, 0x36, 0, 0]) = some ⟨3, 42, false, [⟨310, 0, 0⟩]⟩ ∧
    parsed (submission 3 42 0 1 [0x01, 0x36, 25, 0]) = some ⟨3, 42, false, [⟨310, 25, 0⟩]⟩ ∧
    parsed (submission 3 42 0 2 (one ++ none0)) = some ⟨3, 42, false, [⟨310, 1, 0⟩, ⟨4095, 1, 0⟩]⟩ ∧
    waiting.entry? 4095 = none ∧ waiting.entry? 310 ≠ none ∧ (310 : ItemCode) ∉ unmanned.outBoard ∧ unmanned.route 310 0 = none ∧
    waiting.route 310 0 ≠ none ∧ (310 : ItemCode) ∈ short.outBoard ∧ noTickets.ticketsExhausted = true ∧
    2048 < (crowded.tickets.map fun k => k.lines.length).sum + 1 ∧ ¬ 2048 < (waiting.tickets.map fun k => k.lines.length).sum + 1 ∧
    noSlips.slipsExhausted = true := by decide +kernel

theorem witness_SubmitEntersTicket :
    Takes .submitTicket (submission 3 49 0 2 [0x01, 0x36, 24, 0xFF, 0x03, 0x0C, 1, 0]) short ∧
    (paramsOf (submission 3 49 0 2 [0x01, 0x36, 24, 0xFF, 0x03, 0x0C, 1, 0]).body).bind parseSubmit =
      some ⟨3, 49, false, [⟨310, 24, 0xFF⟩, ⟨780, 1, 0⟩]⟩ ∧
    short.RecordsSound ∧ short.checkSubmission ⟨3, 49, false, [⟨310, 24, 0xFF⟩, ⟨780, 1, 0⟩]⟩ = none ∧
    Takes .submitTicket (submission 3 40 1 1 [0x01, 0x36, 1, 0]) waiting ∧
    waiting.checkSubmission ⟨3, 40, true, [⟨310, 1, 0⟩]⟩ = none :=
  ⟨takes_of (by decide +kernel), by decide +kernel, records_of (by decide +kernel), by decide +kernel, takes_of (by decide +kernel),
    by decide +kernel⟩

/-- The board of `waiting` with a slip at S3, and a submission whose line joins slip 16 at S2 with no change of its fire time; the same past
its plan, where the line is late. -/
theorem witness_SubmitEntersTicket_joins (clock : Nat) (h : clock = 1000 ∨ clock = 1366) :
    let w := submission 3 43 0 1 [0x01, 0x36, 6, 0]
    let a : Submission := ⟨3, 43, false, [⟨310, 6, 0⟩]⟩
    let s := { waiting with clock := clock, slips := [x16 .pending, { x16 (.taken 990) with number := 17, station := 3, members := [] }] }
    Takes .submitTicket w s ∧ (paramsOf w.body).bind parseSubmit = some a ∧ s.RecordsSound ∧ s.MembersSound ∧ s.checkSubmission a = none ∧
      s.tickets ≠ [] ∧ (310 : ItemCode) ∉ s.outBoard ∧ s.route 310 0 = some 2 ∧ (∃ x ∈ s.slips, x.station ≠ 2) ∧
      (planFire 1920 (s.leadTime 310 2) clock).2 = decide (clock = 1366) ∧
      ((after (.submitTicket w) s).slips.map fun x => (x.members.length, x.fire)) = [(2, 1345), (0, 1345)] := by
  rcases h with rfl | rfl <;>
    exact ⟨takes_of (by decide +kernel), by decide +kernel, records_of (by decide +kernel), members_of (by decide +kernel), by decide +kernel⟩

/-- The line of ticket 21 planned at 1345 in `waiting`: its slip, previewed, qualifies; after a batch of 12 is full none does; at a clock
past its plan the line is late; and the line of a rush ticket. -/
theorem witness_LinePlannedAndPlaced :
    (500 ≤ 1500 ∧ 1000 ≤ 1500 - 500) ∧ (1500 < 1501 ∨ 1500 - 1501 < 0) ∧
    waiting.RecordsSound ∧ t21 (.waiting 16) .planned ∈ waiting.tickets ∧ waiting.route 310 0 = some 2 ∧
    waiting.entry? 310 = some ⟨0, 310, 2, 480, 12⟩ ∧ planFire 1900 (480 + 45 + 30) 1000 = (1345, false) ∧
    (let x := { x16 .pending with previewed := true }
     let s := { waiting with slips := [x] }
     s.RecordsSound ∧ s.qualifies 2 310 3 1345 8 x = true ∧
      (∀ y ∈ s.slips, s.qualifies 2 310 3 1345 8 y = true → x.fire < y.fire ∨ x.fire = y.fire ∧ x.number ≤ y.number) ∧
      s.isBound 2 3 = true) ∧
    (∀ x ∈ waiting.slips, waiting.qualifies 2 310 3 1345 9 x = false) ∧
    (waiting.queue 2).find? (waiting.qualifies 2 310 3 1405 8) = some (x16 .pending) ∧
    (waiting.queue 2).find? (waiting.qualifies 2 310 3 1406 8) = none ∧ waiting.qualifies 2 310 3 1285 8 (x16 .pending) = true ∧
    (let s := { waiting with clock := 1346 }
     s.RecordsSound ∧ planFire 1900 (480 + 45 + 30) s.clock = (1346, true) ∧ (t21 (.waiting 16) .planned).late = false ∧ s.watchers 2 = true) ∧
    (let k := { t21 (.waiting 16) .planned with rush := true }
     let s := { waiting with tickets := [k] }
     s.RecordsSound ∧ k ∈ s.tickets ∧ k.rush = true) :=
  ⟨by decide, by decide, sound_records.1, by decide +kernel, by decide +kernel, by decide +kernel, by decide +kernel,
    ⟨records_of (by decide +kernel), by decide +kernel⟩, by decide +kernel, by decide +kernel, by decide +kernel, by decide +kernel,
    ⟨records_of (by decide +kernel), by decide +kernel⟩, records_of (by decide +kernel), by decide +kernel⟩

/-- A ticket whose lines are READY and whose state is not yet worked out. -/
theorem witness_QueueOrderAndTicketState :
    let s := running [t21 (.ready 995) .firing] []
    s.RecordsSound ∧ t21 (.ready 995) .firing ∈ s.tickets ∧ (t21 (.ready 995) .firing).workedState = .up ∧
      waiting.RecordsSound ∧ t21 (.waiting 16) .planned ∈ waiting.tickets ∧ (t21 (.waiting 16) .planned).workedState = .planned :=
  ⟨records_of (by decide +kernel), by decide +kernel, by decide, sound_records.1, by decide +kernel, by decide⟩

theorem witness_VoidTicketFrees :
    Takes .voidTicket (frame 2 [0, 21]) called ∧ (0 : Byte).toNat * 256 + (21 : Byte).toNat = 21 ∧
    paramsOf (frame 2 [0, 21]).body = some [0, 21] ∧ called.RecordsSound ∧ (∃ k ∈ called.tickets, k.number = 21) ∧
    (called.port 2).role = .pass ∧ Takes .voidTicket (frame 2 [0xFF, 0xFF]) called ∧ (∀ k ∈ called.tickets, k.number ≠ 65535) ∧
    Takes .voidTicket (frame 0 [0, 21]) called ∧ (called.port 0).role = .order ∧
    (∃ k ∈ called.tickets, k.number = 21 ∧ k.origin = 0 ∧ k.state ≠ .planned) ∧ Takes .voidTicket (frame 1 [0, 21]) called ∧
    (∃ k ∈ called.tickets, k.number = 21 ∧ k.origin ≠ 1) ∧ Takes .voidTicket (frame 0 [0, 21]) waiting ∧
    (∃ k ∈ waiting.tickets, k.number = 21 ∧ k.origin = 0 ∧ k.state = .planned) ∧
    (called.MembersSound ∧ taken.MembersSound ∧ Takes .voidTicket (frame 2 [0, 21]) taken ∧ (x16 (.taken 990)).isTaken = true ∧
      (x16 (.called 990 20)).told = true ∧ called.isBound 2 3 = true ∧ (x16 (.called 990 20)).members.all (fun m => m.ticket == 21) = true) ∧
    (marked.MembersSound ∧ Takes .voidTicket (frame 2 [0, 21]) marked ∧ marked.RecordsSound ∧
      ∃ x ∈ marked.slips, x.isTaken = false ∧ x.told = true ∧ x.members.all (fun m => m.ticket == 21) = false ∧
        x.members.any (fun m => m.ticket == 21) = true) :=
  ⟨takes_of (by decide +kernel), by decide, by decide, sound_records.2.1, by decide, by decide +kernel, takes_of (by decide +kernel), by decide,
    takes_of (by decide +kernel), by decide +kernel, by decide, takes_of (by decide +kernel), by decide, takes_of (by decide +kernel), by decide,
    ⟨sound_members.2.1, sound_members.2.2.1, takes_of (by decide +kernel), rfl, rfl, by decide +kernel, by decide⟩,
    sound_marked.2, takes_of (by decide +kernel), sound_marked.1, by decide +kernel⟩

/-- The other tickets of `marked`, and a void that empties the queue of a station whose evacuation is in flight. -/
theorem witness_VoidTicketFrees_others :
    (∃ j ∈ marked.tickets, j.number ≠ 21) ∧
    (let s := waiting.modStation 2 fun u => { u with state := .down, evacuating := true }
     Takes .voidTicket (frame 2 [0, 21]) s ∧ s.RecordsSound ∧ (s.station 2).evacuating = true ∧ s.watchersOf 2 3 = true ∧
      ((after (.voidTicket (frame 2 [0, 21])) s).station 2).evacuating = false) :=
  ⟨by decide +kernel, takes_of (by decide +kernel), records_of (by decide +kernel), by decide +kernel⟩

/-- A void that empties a CALLED slip of S2, where another slip of the same station is due, the slip of another station left alone. -/
theorem witness_VoidTicketFrees_calls :
    let w := frame 2 [0, 21]
    let k := { t21 (.waiting 17) .planned with number := 22, table := 42, position := 6 }
    let j := { t21 (.waiting 18) .planned with number := 23, table := 43, position := 2, lines := [{ salmon 4 (.waiting 18) with station := some 3 }] }
    let y := { x16 .pending with number := 17, fire := 1000, members := [⟨22, 0, 4⟩] }
    let z := { x16 .pending with number := 18, station := 3, members := [⟨23, 0, 4⟩] }
    let s := running [t21 (.called 16) .firing, k, j] [x16 (.called 990 20), y, z]
    Takes .voidTicket w s ∧ s.RecordsSound ∧ s.MembersSound ∧ s.WavesSound ∧ s.StationsSound ∧ x16 (.called 990 20) ∈ s.slips ∧
      (∀ x ∈ s.slips, x.station = 3 → x.isCalled = false) ∧ z ∈ s.slips ∧
      ((after (.voidTicket w) s).slips.map fun x => (x.number, x.isCalled)) = [(17, true), (18, false)] :=
  ⟨takes_of (by decide +kernel), records_of (by decide +kernel), members_of (by decide +kernel), waves_of (by decide +kernel),
    stations_of (by decide +kernel), by decide +kernel⟩

/-- W3 sealed, its last ticket voided with its one slip: in service with a delay in flight, and at the end of draining with a TAKEN slip
left. -/
theorem witness_VoidTicketFrees_waves :
    let w := frame 1 [0, 21]
    let pass (s : State) : State := s.modPort 1 fun u => { u with role := .pass }
    (let d := pass (delayed 5 [(16, false)])
     let s := { d with waves := d.waves.set 3 { d.wave 3 with state := .sealed } }
     let t := after (.voidTicket w) s
     Takes .voidTicket w s ∧ s.RecordsSound ∧ s.WavesSound ∧ (s.wave 3).state = .sealed ∧ ¬(s.ticketCount 3 = 0 ∧ s.slipCount 3 = 0) ∧
       t.ticketCount 3 = 0 ∧ t.slipCount 3 = 0 ∧ (s.wave 3).delay = some ⟨5, [(16, false)], 2, false, 0, 0, 0⟩ ∧ (s.port 2).slot ≠ .empty ∧
       (∀ u, u ≠ 3 → (s.wave u).delay = none) ∧ s.watchers 2 = true ∧ (s.wave 31).state = .free) ∧
    (let x := { x16 (.taken 990) with number := 17, members := [] }
     let s := pass { waiting with service := .draining, waves := waiting.waves.set 3 { w3 with state := .sealed }, slips := [x16 .pending, x] }
     Takes .voidTicket w s ∧ s.RecordsSound ∧ s.MembersSound ∧ s.WavesSound ∧ x ∈ s.slips ∧ x.isTaken = true ∧ s.isBound x.station 3 = true ∧
       (s.wave 3).state ≠ .free ∧ (after (.voidTicket w) s).tickets = []) :=
  ⟨⟨takes_of (by decide +kernel), records_of (by decide +kernel), waves_of (by decide +kernel), by decide +kernel⟩, takes_of (by decide +kernel),
    records_of (by decide +kernel), members_of (by decide +kernel), waves_of (by decide +kernel), by decide +kernel⟩

theorem witness_PickupRetires :
    Takes .pickup (frame 2 [0, 21]) ready ∧ ready.RecordsSound ∧ (∃ k ∈ ready.tickets, k.number = 21 ∧ k.state = .up) ∧
    Takes .pickup (frame 2 [0, 0]) ready ∧ (∀ k ∈ ready.tickets, k.number ≠ 0) ∧
    Takes .pickup (frame 2 [0, 21]) called ∧ (∃ k ∈ called.tickets, k.number = 21 ∧ k.state ≠ .up) ∧
    ({ ready with service := .draining }).RecordsSound :=
  ⟨takes_of (by decide +kernel), sound_records.2.2.2, by decide, takes_of (by decide +kernel), by decide, takes_of (by decide +kernel),
    by decide, records_of (by decide +kernel)⟩

/-- `ready` with W3 sealed, with and without a slip left that has no member. -/
def sealedW3 (service : ServiceState) (slips : List Slip) : State :=
  { ready with service := service, waves := ready.waves.set 3 { w3 with state := .sealed }, slips := slips }

theorem witness_PickupRetires_freeing :
    (let s := sealedW3 .opened []
     Takes .pickup (frame 2 [0, 21]) s ∧ s.RecordsSound ∧ (s.wave 3).state = .sealed ∧
      (after (.pickup (frame 2 [0, 21])) s).ticketCount 3 = 0 ∧ s.slipCount 3 = 0 ∧ s.watchers 2 = true) ∧
    (let x := { x16 (.taken 990) with members := [] }
     let s := sealedW3 .draining [x]
     Takes .pickup (frame 2 [0, 21]) s ∧ s.RecordsSound ∧ s.WavesSound ∧ x ∈ s.slips ∧ s.isBound x.station 3 = true ∧
      (s.wave 3).state ≠ .free ∧ (after (.pickup (frame 2 [0, 21])) s).tickets = []) :=
  ⟨⟨takes_of (by decide +kernel), records_of (by decide +kernel), by decide +kernel⟩, takes_of (by decide +kernel),
    records_of (by decide +kernel), waves_of (by decide +kernel), by decide +kernel⟩

theorem witness_RefireMakesPrioritySlip :
    Takes .refire (frame 2 [0, 21, 0]) ready ∧ paramsOf (frame 2 [0, 21, 0]).body = some [0, 21, byte 0] ∧ ready.RecordsSound ∧
    ready.MembersSound ∧ t21 (.ready 995) .up ∈ ready.tickets ∧ (t21 (.ready 995) .up).lines[0]? = some (salmon 4 (.ready 995)) ∧
    ready.slips.length < 1024 ∧ ready.slipsExhausted = false ∧ ready.route 310 0 = some 2 ∧
    Takes .refire (frame 2 [0, 21, 11]) ready ∧ paramsOf (frame 2 [0, 21, 11]).body = some [0, 21, byte 11] ∧
    (t21 (.ready 995) .up).lines.length ≤ 11 ∧ Takes .refire (frame 2 [0, 21, 0]) called ∧ (∀ time, (salmon 4 (.called 16)).state ≠ .ready time) ∧
    Takes .refire (frame 2 [0, 22, 0]) ready ∧ (∀ k ∈ ready.tickets, k.number ≠ 22) ∧
    (let s := { ready with slipsExhausted := true, nextSlip := 65535 }
     Takes .refire (frame 2 [0, 21, 0]) s ∧ s.RecordsSound ∧ s.slipsExhausted = true) ∧
    (let s := { ready with tickets := [{ t21 (.ready 995) .up with refires := 2 }] }
     Takes .refire (frame 2 [0, 21, 0]) s ∧ s.RecordsSound ∧ s.MembersSound ∧ s.refireLimit = 2 ∧ s.watchers 2 = true) :=
  ⟨takes_of (by decide +kernel), by decide, sound_records.2.2.2, sound_members.2.2.2, by decide, by decide, by decide, rfl, by decide +kernel,
    takes_of (by decide +kernel), by decide, by decide, takes_of (by decide +kernel), by simp [salmon], takes_of (by decide +kernel), by decide,
    ⟨takes_of (by decide +kernel), records_of (by decide +kernel), rfl⟩,
    takes_of (by decide +kernel), records_of (by decide +kernel), members_of (by decide +kernel), by decide +kernel⟩

theorem witness_RefireMakesPrioritySlip_others :
    let s := { ready with slips := [{ x16 (.taken 990) with station := 3, members := [] }] }
    Takes .refire (frame 2 [0, 21, 0]) s ∧ s.RecordsSound ∧ s.MembersSound ∧ s.route 310 0 = some 2 ∧ ∃ y ∈ s.slips, y.station ≠ 2 :=
  ⟨takes_of (by decide +kernel), records_of (by decide +kernel), members_of (by decide +kernel), by decide +kernel⟩

theorem witness_RecordQueries :
    waiting.RecordsSound ∧ Takes .queryTicket (frame 5 [0, 21, 11]) waiting ∧ paramsOf (frame 5 [0, 21, 11]).body = some [0, 21, byte 11] ∧
    (∃ k ∈ waiting.tickets, k.number = 21) ∧ Takes .queryTicket (frame 5 [0xFF, 0xFF, 0]) waiting ∧
    Takes .querySlip (frame 3 [0, 16, 15]) waiting ∧ paramsOf (frame 3 [0, 16, 15]).body = some [0, 16, byte 15] ∧
    (∃ x ∈ waiting.slips, x.number = 16) ∧ Takes .querySlip (frame 3 [0, 0, 0]) waiting ∧ (∀ x ∈ waiting.slips, x.number ≠ 0) ∧
    Takes .queryStation (frame 0 [11]) waiting ∧ paramsOf (frame 0 [11]).body = some [byte (11 : StationId).val] ∧
    (called.RecordsSound ∧ taken.RecordsSound) ∧ waiting.entry? (salmon 4 (.waiting 16)).item = some ⟨0, 310, 2, 480, 12⟩ ∧
    x16 .pending ∈ waiting.slips ∧ x16 (.called 990 20) ∈ called.slips ∧ x16 (.taken 990) ∈ taken.slips ∧
    waiting.projectedReady (salmon 4 (.waiting 16)) = some 1900 ∧ called.projectedReady (salmon 4 (.called 16)) = some 1545 :=
  ⟨sound_records.1, takes_of (by decide +kernel), by decide, by decide, takes_of (by decide +kernel), takes_of (by decide +kernel), by decide,
    by decide, takes_of (by decide +kernel), by decide, takes_of (by decide +kernel), by decide, ⟨sound_records.2.1, sound_records.2.2.1⟩,
    by decide +kernel, by decide, by decide, by decide, by decide +kernel, by decide +kernel⟩

/-! ### The stations -/

theorem witness_SetStationClamps :
    Takes .setStation (frame 2 [11, 3, 0, 0xFF, 1, 0x2D, 4, 11, 3, 0x85, 1, 0x2D, 2, 0x59]) closed ∧
    (paramsOf (frame 2 [11, 3, 0, 0xFF, 1, 0x2D, 4, 11, 3, 0x85, 1, 0x2D, 2, 0x59]).body).bind parseSetStation =
      some (11, ⟨some 3, 0, 255, 301, 4, some 11, 901, 301, 601⟩) ∧ (closed.port 3).role = .station ∧
    Takes .setStation (frame 2 [0, 0, 33, 0, 0, 0, 121, 0xFF, 0, 0, 0, 0, 0, 0]) closed ∧
    (paramsOf (frame 2 [0, 0, 33, 0, 0, 0, 121, 0xFF, 0, 0, 0, 0, 0, 0]).body).bind parseSetStation =
      some (0, ⟨some 0, 33, 0, 0, 121, none, 0, 0, 0⟩) ∧ (closed.port 0).role ≠ .station ∧
    Takes .setStation (frame 2 [0, 0xFF, 33, 0, 0, 0, 121, 0xFF, 0, 0, 0, 0, 0, 0]) waiting :=
  ⟨takes_of (by decide +kernel), by decide +kernel, by decide +kernel, takes_of (by decide +kernel), by decide +kernel, by decide +kernel,
    takes_of (by decide +kernel)⟩

/-- `waiting` with S2 in a given state. -/
def withS2 (state : StationState) : State := waiting.modStation 2 fun u => { u with state := state }

/-- The commands a STATION port may give of its own station, and of another's, S2 in each state. -/
theorem witness_station_commands (c : Cmd) (h : c ∈ [Cmd.pauseStation, .resumeStation, .stationOpen]) (state : StationState) :
    Takes c (frame 3 [2]) (withS2 state) ∧ Takes c (frame 4 [2]) (withS2 state) ∧ Takes c (frame 2 [0]) (withS2 state) ∧
    Takes c (frame 2 [2]) closed ∧ paramsOf (frame 3 [2]).body = some [byte (2 : StationId).val] ∧ (withS2 state).service ≠ .closed ∧
    ((withS2 state).station 2).state = state ∧ ((withS2 state).station 0).state = .unused ∧
    ((withS2 state).station 2).config.port = some 3 ∧ ((withS2 state).station 2).config.port ≠ some 4 ∧
    ((withS2 state).port 4).role = .station ∧ ((withS2 state).port 2).role ≠ .station := by
  have all : ∀ c ∈ [Cmd.pauseStation, .resumeStation, .stationOpen],
      takesNow c (frame 3 [2]) waiting = true ∧ takesNow c (frame 4 [2]) waiting = true ∧ takesNow c (frame 2 [0]) waiting = true ∧
      takesNow c (frame 2 [2]) closed = true := by decide +kernel
  obtain ⟨h1, h2, h3, h4⟩ := all c h
  refine ⟨takes_of h1, takes_of h2, takes_of h3, takes_of h4, by decide, by cases state <;> decide, ?_, ?_, ?_, ?_, ?_, ?_⟩ <;> cases state <;> decide +kernel

/-- S2 DOWN with its evacuation in flight, with a slip due, one within the horizon and one further off, and a slip of S3. -/
theorem witness_StationOpenReopens :
    let line (n : Nat) : Line := salmon 4 (.waiting n)
    let slip (n fire : Nat) : Slip := { x16 .pending with number := n, fire := fire, members := [⟨21, n - 16, 4⟩] }
    let k := { t21 (.waiting 16) .planned with lines := [line 16, line 17, line 18] }
    let s := (running [k] [slip 16 1000, slip 17 1300, slip 18 1301, { x16 (.taken 990) with number := 19, station := 3, members := [] }]).modStation
      2 fun u => { u with state := .down, evacuating := true, missed := 3 }
    Takes .stationOpen (frame 3 [2]) s ∧ s.RecordsSound ∧ s.MembersSound ∧ (s.station 2).state = .down ∧ (s.station 2).evacuating = true ∧
      s.watchersOf 2 2 = true ∧ s.watchersOf 2 3 = true ∧ (∃ x ∈ s.slips, x.station ≠ 2) ∧
      ((after (.stationOpen (frame 3 [2])) s).slips.map fun x => (x.isCalled, x.previewed)) =
        [(true, true), (false, true), (false, false), (false, false)] :=
  ⟨takes_of (by decide +kernel), records_of (by decide +kernel), members_of (by decide +kernel), by decide +kernel⟩

theorem witness_PauseAndResume :
    let s := (running [t21 (.waiting 16) .planned] [x16 .pending, { x16 .pending with number := 17, station := 3 }]).modStation 2 fun u =>
      { u with state := .paused }
    s.RecordsSound ∧ (s.station 2).state = .paused ∧ s.watchersOf 2 3 = true ∧ s.watchersOf 2 2 = true ∧ s.watchersOf 2 0 = false ∧
      ∃ x ∈ s.slips, x.station ≠ 2 :=
  ⟨records_of (by decide +kernel), by decide +kernel⟩

/-- `called` with S3 DOWN and its evacuation to S2 in flight. -/
def evacuated : State :=
  (running [t21 (.called 16) .firing] [x16 (.called 990 20), { x16 .pending with number := 17, station := 3, members := [] }]).modStation 3
    fun u => { u with state := .down, evacuating := true, config := { u.config with backup := some 2 } }

theorem witness_StationDownReturnsCalls :
    Takes .stationDown (frame 2 [2]) called ∧ paramsOf (frame 2 [2]).body = some [byte (2 : StationId).val] ∧ called.service ≠ .closed ∧
    (called.station 2).state = .opened ∧ called.RecordsSound ∧ called.StationsSound ∧ Takes .stationDown (frame 2 [2]) closed ∧
    Takes .stationDown (frame 2 [0]) called ∧ (called.station 0).state = .unused ∧
    Takes .stationDown (frame 2 [2]) (withS2 .down) ∧ ((withS2 .down).station 2).state = .down ∧
    (Takes .stationDown (frame 2 [2]) evacuated ∧ evacuated.RecordsSound ∧ evacuated.StationsSound ∧ (evacuated.station 3).evacuating = true ∧
      (evacuated.station 3).config.backup = some 2 ∧ evacuated.watchersOf 3 4 = true ∧ x16 (.called 990 20) ∈ evacuated.slips ∧
      evacuated.isBound 2 3 = true ∧ ∃ x ∈ evacuated.slips, x.station ≠ 2) :=
  ⟨takes_of (by decide +kernel), by decide, by decide, by decide +kernel, sound_records.2.1, sound_stations.2, takes_of (by decide +kernel),
    takes_of (by decide +kernel), by decide +kernel, takes_of (by decide +kernel), by decide +kernel, takes_of (by decide +kernel),
    records_of (by decide +kernel), stations_of (by decide +kernel), by decide +kernel⟩

theorem witness_TakeStartsCooking :
    Takes .take (frame 3 [0, 16]) called ∧ (0 : Byte).toNat * 256 + (16 : Byte).toNat = 16 ∧ paramsOf (frame 3 [0, 16]).body = some [0, 16] ∧
    called.RecordsSound ∧ x16 (.called 990 20) ∈ called.slips ∧ (called.station 2).config.port = some 3 ∧
    Takes .take (frame 4 [0, 16]) called ∧ (called.station 2).config.port ≠ some 4 ∧ Takes .take (frame 3 [0, 16]) waiting ∧
    (x16 .pending).isCalled = false ∧ Takes .take (frame 3 [0xFF, 0xFF]) called ∧ ∀ x ∈ called.slips, x.number ≠ 65535 :=
  ⟨takes_of (by decide +kernel), by decide, by decide, sound_records.2.1, by decide, by decide +kernel, takes_of (by decide +kernel),
    by decide +kernel, takes_of (by decide +kernel), rfl, takes_of (by decide +kernel), by decide⟩

theorem witness_BumpFreesAndTeaches :
    Takes .bump (frame 3 [0, 16]) taken ∧ taken.RecordsSound ∧ x16 (.taken 990) ∈ taken.slips ∧ (taken.station 2).config.port = some 3 ∧
    (∃ e ∈ taken.menu, e.item = 310) ∧ taken.MenuSound ∧ (taken.station 2).state = .opened ∧ (∀ y ∈ taken.slips, y.number = 16) ∧
    Takes .bump (frame 3 [0, 16]) called ∧ x16 (.called 990 20) ∈ called.slips ∧ Takes .bump (frame 4 [0, 16]) taken ∧
    Takes .bump (frame 3 [0, 16]) waiting ∧ (x16 .pending).isPending = true ∧ Takes .bump (frame 3 [0, 0]) taken ∧
    (∀ x ∈ taken.slips, x.number ≠ 0) ∧
    (∃ k ∈ taken.tickets, ∃ j ∈ (after (.bump (frame 3 [0, 16])) taken).tickets, j.number = k.number ∧ k.state ≠ .up ∧ j.state = .up ∧
      taken.watchersAnd k.origin 0 = true) :=
  ⟨takes_of (by decide +kernel), sound_records.2.2.1, by decide, by decide +kernel, by decide, ⟨by decide, by decide, by decide, by decide⟩, by decide +kernel, by decide,
    takes_of (by decide +kernel), by decide, takes_of (by decide +kernel), takes_of (by decide +kernel), rfl, takes_of (by decide +kernel),
    by decide, by decide +kernel⟩

theorem witness_ForceBumpFrees :
    Takes .forceBump (frame 2 [0, 16]) waiting ∧ waiting.RecordsSound ∧ (∃ x ∈ waiting.slips, x.number = 16) ∧
    Takes .forceBump (frame 2 [0, 16]) taken ∧ Takes .forceBump (frame 2 [0, 0]) waiting ∧ (∀ x ∈ waiting.slips, x.number ≠ 0) ∧
    ((x16 (.taken 990)).state ≠ .pending ∧ taken.isBound 2 3 = true) ∧
    ∃ k ∈ waiting.tickets, ∃ j ∈ (after (.forceBump (frame 2 [0, 16])) waiting).tickets, j.number = k.number ∧ k.state ≠ .up ∧ j.state = .up ∧
      waiting.watchersAnd k.origin 0 = true :=
  ⟨takes_of (by decide +kernel), sound_records.1, by decide, takes_of (by decide +kernel), takes_of (by decide +kernel), by decide, by decide +kernel, by decide +kernel⟩

theorem witness_ForceBumpFrees_others :
    (taken.station 2).state = .opened ∧
    (let s := twoWaves (x16 .pending)
     Takes .forceBump (frame 2 [0, 16]) s ∧ s.RecordsSound ∧ (x16 .pending).state = .pending ∧ ∃ y ∈ s.slips, y.number ≠ 16 ∧ y.station ≠ 2) :=
  ⟨by decide +kernel, takes_of (by decide +kernel), records_of (by decide +kernel), by decide +kernel⟩

/-- W3 sealed with no ticket and one TAKEN slip, which has no member: the bump and the forced bump of it free the wave. Another slip is due
at the station, and one stands at another. -/
theorem witness_Bumps_free_the_wave :
    let x := { x16 (.taken 990) with members := [] }
    let k := { t21 (.waiting 17) .planned with wave := 4 }
    let y := { x16 .pending with number := 17, wave := 4, fire := 1000 }
    let z := { x16 (.taken 990) with number := 18, wave := 4, station := 3, members := [] }
    let s := { running [k] [x, y, z] with waves := (waiting.waves.set 3 { w3 with state := .sealed }).set 4 w3 }
    Takes .bump (frame 3 [0, 16]) s ∧ Takes .forceBump (frame 2 [0, 16]) s ∧ s.RecordsSound ∧ s.WavesSound ∧ s.MembersSound ∧ s.MenuSound ∧
      x ∈ s.slips ∧ (s.station 2).config.port = some 3 ∧ (s.station 2).state = .opened ∧ y ∈ s.slips ∧ z.station ≠ 2 ∧
      (s.wave 3).state = .sealed ∧ ¬(s.ticketCount 3 = 0 ∧ s.slipCount 3 = 0) ∧ s.watchers 2 = true ∧ (s.wave 4).state = .opened ∧
      ((after (.bump (frame 3 [0, 16])) s).wave 3).state = .free ∧
      ((after (.bump (frame 3 [0, 16])) s).slips.map fun x => (x.number, x.isCalled)) = [(17, true), (18, false)] :=
  ⟨takes_of (by decide +kernel), takes_of (by decide +kernel), records_of (by decide +kernel), waves_of (by decide +kernel),
    members_of (by decide +kernel), ⟨by decide, by decide, by decide, by decide⟩, by decide +kernel⟩

/-- A forced bump of a slip on its wave's delay list, the last of the queue of a station whose evacuation is in flight. -/
theorem witness_ForceBumpFrees_listed :
    let w := frame 1 [0, 16]
    let s := ((delayed 5 [(16, false)]).modStation 2 fun u => { u with state := .down, evacuating := true }).modPort 1 fun u =>
      { u with role := .pass }
    Takes .forceBump w s ∧ s.RecordsSound ∧ s.WavesSound ∧ s.MembersSound ∧ (s.station 2).evacuating = true ∧ s.queue 2 = [x16 .pending] ∧
      s.watchersOf 2 3 = true ∧ ((after (.forceBump w) s).wave 3).delay.map Delay.slips = some [(16, true)] :=
  ⟨takes_of (by decide +kernel), records_of (by decide +kernel), waves_of (by decide +kernel), members_of (by decide +kernel), by decide +kernel⟩

/-- At 1050 the slip is previewed, at 1345 it is called. -/
theorem witness_ConsiderationCallsAllEligible :
    (called.station 2).state = .opened ∧ called.RecordsSound ∧ called.busyCount 2 ≤ (called.station 2).config.slots ∧
    ((withS2 .paused).station 2).state = .paused ∧ ((withS2 .down).station 2).state = .down ∧ (called.station 11).state = .unused ∧
    (let s := { waiting with clock := 1050 }
     s.RecordsSound ∧ x16 .pending ∈ s.slips ∧ { x16 .pending with previewed := true } ∈ (s.consider 2).slips ∧ s.isBound 2 3 = true) ∧
    (let s := { waiting with clock := 1345 }
     s.RecordsSound ∧ s.MembersSound ∧ x16 .pending ∈ s.slips ∧ { x16 (.called 1345 30) with previewed := true } ∈ (s.consider 2).slips ∧
      ∃ k ∈ (s.consider 2).tickets, k.number = 21 ∧ k.lines[0]? = some (salmon 4 (.called 16))) := by
  refine ⟨by decide +kernel, sound_records.2.1, by decide +kernel, by decide +kernel, by decide +kernel, by decide +kernel,
    ⟨records_of (by decide +kernel), by decide +kernel⟩, records_of (by decide +kernel), members_of (by decide +kernel), by decide +kernel⟩

theorem witness_SecondEventsReachStations :
    closed.secondTimer = none ∧ waiting.secondTimer ≠ none ∧ (waiting.station 2).due = 0 ∧
    (let s := called.modStation 2 fun u => { u with due := 1 }
     (s.station 2).due ≠ 0 ∧ (s.station 2).state = .opened ∧ s.RecordsSound ∧ x16 (.called 990 20) ∈ s.slips ∧ 2 ≤ 20) ∧
    (let s := (running [t21 (.called 16) .firing] [x16 (.called 990 1)]).modStation 2 fun u => { u with due := 1 }
     s.RecordsSound ∧ x16 (.called 990 1) ∈ s.slips) ∧
    (let s := (withS2 .down).modStation 2 fun u => { u with due := 1 }
     (s.station 2).due ≠ 0 ∧ (s.station 2).state = .down) := by
  refine ⟨rfl, by decide, by decide +kernel, ⟨by decide +kernel, by decide +kernel, records_of (by decide +kernel), by decide, by decide⟩,
    ⟨records_of (by decide +kernel), by decide⟩, by decide +kernel⟩

/-- Two CALLED slips of S2, the first at its last second: it times out, as the second or as the third missed take in a row. -/
theorem witness_SecondEventsReachStations_timeouts (missed : Nat) (h : missed = 1 ∨ missed = 2) :
    let late (x : Slip) : Bool := decide (x.station = 2) &&
      match x.state with | .called _ timer => decide (timer ≤ 1) | .pending | .taken _ => false
    let s := (running [t21 (.called 16) .firing] [x16 (.called 990 1), { x16 (.called 991 20) with number := 17, members := [] }]).modStation 2
      fun u => { u with due := 1, missed := missed }
    s.RecordsSound ∧ (s.station 2).due ≠ 0 ∧ (s.station 2).state = .opened ∧ (s.station 2).missed = missed ∧
      (s.slips.filter late).map Slip.number = [16] ∧ (missed = 2 → 3 ≤ missed + (s.slips.filter late).length) ∧
      (missed = 1 → missed + (s.slips.filter late).length < 3) ∧ s.isBound 2 3 = true ∧ ∃ x ∈ s.slips, x.isCalled = true ∧ x.number = 17 := by
  rcases h with rfl | rfl <;> exact ⟨records_of (by decide +kernel), by decide +kernel⟩

/-- Slip 16 of S2 CALLED at its last second with the count of missed takes at 2, a TAKEN slip beside it; S3, DOWN, evacuates into S2. -/
def lastTake : State :=
  let line := { salmon 4 (.waiting 17) with station := some 3 }
  ((running [t21 (.called 16) .firing, { t21 (.waiting 17) .planned with number := 22, table := 42, position := 6, lines := [line] }]
    [x16 (.called 990 1), { x16 .pending with number := 17, station := 3, members := [⟨22, 0, 4⟩] },
      { x16 (.taken 990) with number := 18, members := [] }]).modStation 2 fun u => { u with due := 1, missed := 2 }).modStation 3
    fun u => { u with state := .down, evacuating := true, config := { u.config with backup := some 2 } }

/-- The third missed take in a row: no evacuation starts from S2, whose backup S3 is DOWN; with backup S4, OPEN, one does. -/
theorem witness_third_missed_take :
    let s := (lastTake.modStation 4 fun _ => unit 3 none).modStation 2 fun u => { u with config := { u.config with backup := some 4 } }
    (lastTake.RecordsSound ∧ lastTake.StationsSound ∧ lastTake.MembersSound ∧ lastTake.WavesSound) ∧ (lastTake.station 2).missed = 2 ∧
      (lastTake.station 2).due ≠ 0 ∧ x16 (.called 990 1) ∈ lastTake.slips ∧ lastTake.isBound 2 3 = true ∧ lastTake.watchersOf 3 4 = true ∧
      ((after (.stationSecondEvent 2) lastTake).station 3).evacuating = false ∧
      ((after (.stationSecondEvent 2) lastTake).station 2).evacuating = false ∧ s.RecordsSound ∧ s.StationsSound ∧
      ((after (.stationSecondEvent 2) s).station 2).evacuating = true ∧ ((after (.takeTimeout 16) s).station 2).evacuating = true :=
  ⟨⟨records_of (by decide +kernel), stations_of (by decide +kernel), members_of (by decide +kernel), waves_of (by decide +kernel)⟩,
    by decide +kernel, by decide +kernel, by decide +kernel, by decide +kernel, by decide +kernel, by decide +kernel, by decide +kernel,
    records_of (by decide +kernel), stations_of (by decide +kernel), by decide +kernel⟩

/-- A first missed take, of `called`. -/
theorem witness_TakeTimeoutReturns_first :
    called.RecordsSound ∧ called.MembersSound ∧ x16 (.called 990 20) ∈ called.slips ∧ (called.station 2).missed < 2 ∧
      called.isBound 2 3 = true ∧ (after (.takeTimeout 16) called).tickets = [t21 (.waiting 16) .planned] :=
  ⟨records_of (by decide +kernel), members_of (by decide +kernel), by decide +kernel⟩

theorem witness_TakeTimeoutReturns :
    (∀ x ∈ waiting.slips, x.number = 16 → x.isCalled = false) ∧ called.RecordsSound ∧ x16 (.called 990 20) ∈ called.slips ∧
    (x16 (.called 990 20)).isCalled = true ∧ (called.station 2).missed < 2 ∧
    (let s := called.modStation 2 fun u => { u with missed := 2 }
     s.RecordsSound ∧ (s.station 2).missed = 2) :=
  ⟨by decide, sound_records.2.1, by decide, rfl, by decide +kernel, records_of (by decide +kernel), by decide +kernel⟩

theorem witness_EvacuationMoveRehomes :
    let s := (withS2 .down).modStation 2 fun u => { u with evacuating := true }
    (waiting.station 2).evacuating = false ∧ s.RecordsSound ∧ (s.station 2).evacuating = true ∧ (s.station 2).config.backup = some 3 ∧
    (3 : StationId) ≠ 2 ∧ s.queue 2 = x16 .pending :: [] ∧
    (∃ m ∈ (x16 .pending).members, ∃ k, s.ticket? m.ticket = some k ∧ s.target k = 1900) ∧
    ∀ m ∈ (x16 .pending).members, ∀ k, s.ticket? m.ticket = some k → 1900 ≤ s.target k := by
  refine ⟨by decide +kernel, records_of (by decide +kernel), by decide +kernel, by decide +kernel, by decide, by decide +kernel,
    ⟨⟨21, 0, 4⟩, by decide, t21 (.waiting 16) .planned, by decide +kernel, by decide +kernel⟩, ?_⟩
  intro m hm k hk
  have hm : m = ⟨21, 0, 4⟩ := by simpa [x16] using hm
  subst hm
  have : k = t21 (.waiting 16) .planned := Option.some.inj (hk.symm.trans (by decide +kernel))
  subst this
  decide +kernel

/-- The move of a previewed slip on its wave's delay list, another slip behind it, and one of a third station. -/
theorem witness_EvacuationMoveRehomes_listed :
    let x := { x16 .pending with previewed := true }
    let y := { x16 .pending with number := 17 }
    let s := { (delayed 5 [(16, false), (17, false)]).modStation 2 fun u => { u with state := .down, evacuating := true } with
      slips := [x, y, { x16 (.taken 990) with number := 18, station := 4 }] }
    s.RecordsSound ∧ (s.station 2).evacuating = true ∧ (s.station 2).config.backup = some 3 ∧ s.queue 2 = x :: [y] ∧
      s.isBound 2 3 = true ∧ (s.wave 3).delay = some ⟨5, [(16, false), (17, false)], 2, false, 0, 0, 0⟩ ∧
      (∃ z ∈ s.slips, z.number ≠ 16 ∧ z.station ≠ 3) ∧ (withS2 .down).watchersOf 2 3 = true :=
  ⟨records_of (by decide +kernel), by decide +kernel⟩

/-- The move of the one slip left on its wave's delay list leaves the delay in flight (assumption 7). -/
theorem witness_EvacuationMoveRehomes_last_listed :
    let s := (delayed 5 [(16, false)]).modStation 2 fun u => { u with state := .down, evacuating := true }
    s.RecordsSound ∧ (s.station 2).evacuating = true ∧ (s.station 2).config.backup = some 3 ∧ s.queue 2 = x16 .pending :: [] ∧
      (s.wave 3).delay = some ⟨5, [(16, false)], 2, false, 0, 0, 0⟩ ∧
      ((after (.evacuationMove 2) s).wave 3).delay.map Delay.slips = some [] :=
  ⟨records_of (by decide +kernel), by decide +kernel⟩

/-! ### The port units -/

theorem witness_PortModeAndRestart :
    Takes .setPortMode (frame 5 [0xFF, 0, 0xFF]) waiting ∧ paramsOf (frame 5 [0xFF, 0, 0xFF]).body = some [0xFF, 0, 0xFF] ∧
    (let s := at0 fun u => { u with errors := 16, muted := true }
     (frame 0 []).address = (s.port 0).address ∧ (s.port 0).slot = .empty ∧ (s.port 0).stretch = none ∧
      paramsOf (frame 0 []).body = some []) :=
  ⟨takes_of (by decide +kernel), by decide, by decide +kernel⟩

theorem witness_ListPages (p : PortId) (h : p = 0 ∨ p = 2 ∨ p = 3) :
    Takes .list (frame p [0xFF, 0xFF]) waiting ∧ Takes .list (frame p [0, 0]) waiting ∧
    (0xFF : Byte).toNat * 256 + (0xFF : Byte).toNat = 65535 ∧ paramsOf (frame p [0, 0]).body = some [0, 0] := by
  have all : ∀ p : PortId, p = 0 ∨ p = 2 ∨ p = 3 →
      takesNow .list (frame p [0xFF, 0xFF]) waiting = true ∧ takesNow .list (frame p [0, 0]) waiting = true := by decide +kernel
  exact ⟨takes_of (all p h).1, takes_of (all p h).2, by decide, by rcases h with rfl | rfl | rfl <;> decide⟩

/-- A port unit with a full or nearly full queue, in each attention state, with each kind of delays. -/
theorem witness_NoticesAndAttention :
    let u := portAtReset strapsAtReset 0
    let n : Nat → List Notice := fun k => List.replicate k ⟨1, .waveFree 0⟩
    ({ u with overrun := true }.overrun = true) ∧ (24 ≤ ({ u with notices := n 24 }).notices.length ∧ ({ u with notices := n 24 }).overrun = false) ∧
    (({ u with notices := n 23 }).notices.length < 24) ∧ u.attention = .released ∧
    ({ u with relDelay := 0, absDelay := 0 }.relDelay = 0 ∧ { u with relDelay := 0, absDelay := 0 }.absDelay = 0) ∧
    ¬(u.relDelay = 0 ∧ u.absDelay = 0) ∧ { u with attention := .waiting }.attention = .waiting ∧
    (∃ a b, NoticeBody.service .closed .reset = .service a b) ∧ (∃ a, NoticeBody.waveFree 3 = .waveFree a) ∧
    (waiting.isBound 2 3 = true ∧ waiting.watchersOf 2 2 = true ∧ waiting.watchersOf 2 0 = false ∧ (waiting.station 2).evacuating = false) ∧
    ((ticking none 0 99999).port 2).stretch ≠ none := by
  refine ⟨by decide, by decide, by decide, by decide, by decide, by decide, by decide, ⟨_, _, rfl⟩, ⟨_, rfl⟩, by decide +kernel, by decide +kernel⟩

/-- A read under way at port 0 of a record of each kind. -/
def readingAt0 (slot : ReplySlot) (notices : List Notice) (record : Record) (live : Bool) : State :=
  at0 fun u => { u with slot := slot, notices := notices, attention := .asserted, reading := some ⟨0x41, record, live⟩ }

theorem witness_ReadsAndDeliveries :
    let r : Reply := ⟨0x05, .ok, .empty⟩
    let n : Notice := ⟨1, .waveFree 0⟩
    ((0x4F : BitVec 7) ≠ (waiting.port 0).address) ∧ (0x48 : BitVec 7) = (waiting.port 0).address ∧ (waiting.port 0).stretch = none ∧
    (((delayed 5 []).port 2).slot = .busy 0x14 ∧ ((delayed 5 []).port 2).stretchMode = true) ∧
    ¬((waiting.port 0).slot.isBusy = true ∧ (waiting.port 0).stretchMode = true) ∧
    ((readingAt0 (.ready r) [n] .nothing false).port 0).slot = .ready r ∧
    ((at0 fun u => { u with slot := .busy 0x14, stretchMode := false }).port 0).slot = .busy 0x14 ∧
    (((readingAt0 .empty [n] .nothing false).port 0).slot = .empty ∧ ((readingAt0 .empty [n] .nothing false).port 0).notices = n :: []) ∧
    (waiting.port 0).notices = [] ∧ (waiting.port 0).reading = none ∧
    ((readingAt0 .empty [] .nothing false).port 0).reading = some ⟨0x41, .nothing, false⟩ ∧
    ((readingAt0 (.ready r) [n] (.reply r) true).port 0).reading = some ⟨0x41, .reply r, true⟩ ∧
    ((readingAt0 (.ready r) [n] (.reply r) true).port 0).notices ≠ [] ∧ ((readingAt0 (.ready r) [] (.reply r) true).port 0).notices = [] ∧
    ((readingAt0 .empty [n] (.notice n) true).port 0).reading = some ⟨0x41, .notice n, true⟩ ∧
    ((readingAt0 .empty [n] (.notice n) true).port 0).slot.isReady = false ∧
    ((readingAt0 .empty [n] (.notice n) true).port 0).notices.tail = [] ∧
    ((readingAt0 .empty [n, n] (.notice n) true).port 0).notices.tail ≠ [] := by decide +kernel

theorem witness_PortTimersExpire :
    let s := at0 fun u => { u with attention := .waiting, relTimer := some 1, absTimer := some 255 }
    ((s.port 0).attention = .waiting ∧ (s.port 0).relTimer ≠ none ∧ (s.port 0).absTimer ≠ none) ∧
    ((waiting.port 0).attention ≠ .waiting ∧ (waiting.port 0).relTimer = none ∧ (waiting.port 0).absTimer = none ∧
      (waiting.port 0).stretch = none) ∧
    (let t := at0 fun u => { u with slot := .busy 0x14, stretch := some 99999 }
     (t.port 0).slot = .busy 0x14 ∧ (t.port 0).stretch ≠ none) := by decide +kernel

theorem witness_RecordsOnTheWire :
    (∀ slip st item cls portions fire members,
      (NoticeBody.call 16 2 310 .normal 10 1345 (List.replicate 16 (21, 4))) = .call slip st item cls portions fire members →
        members.length ≤ 16) ∧
    (∀ more cleared clock entries,
      (ReplyData.list true false 0 (List.replicate 14 (.slip 1 2 .pending))) = .list more cleared clock entries → entries.length ≤ 14) ∧
    (-32768 ≤ (-30 : Int) ∧ (-30 : Int) ≤ 32767) ∧ (∀ l ∈ [salmon 24 .void, salmon 31 (.ready 1)], l.qty < 32) ∧
    (waiting.station 2).config.port = some 3 ∧ (waiting.station 2).config.backup = some 3 ∧ (State.reset.station 0).config.port = none ∧
    (State.reset.station 0).config.backup = none := by
  refine ⟨?_, ?_, by decide, by decide, by decide +kernel⟩
  · intro _ _ _ _ _ _ members h
    simp only [NoticeBody.call.injEq] at h
    simp [← h.2.2.2.2.2.2]
  · intro _ _ _ entries h
    simp only [ReplyData.list.injEq] at h
    simp [← h.2.2.2]

end Sys2Proof.Tests
end

section
/-! SUPPORT. DEFINE WAVE (R16, R17): what its owner does, case by case, and the sweep it stores. -/

namespace Sys2Proof.Machine

/-- The sweep that the sweep bytes of a DEFINE WAVE give, before any clamping (R16, R167). -/
def givenSweep (f1 f0 n flags s1 s0 i1 i0 : Byte) : Sweep :=
  ⟨word16 f1 f0, n.toNat, if flag0 flags then .down else .up, flag1 flags, word16 s1 s0, word16 i1 i0⟩

/-- The parser reads the nine bytes as the wave named and the sweep as given. -/
theorem parseDefine_byte (v : WaveId) (f1 f0 n flags s1 s0 i1 i0 : Byte) :
    parseDefine [byte v.val, f1, f0, n, flags, s1, s0, i1, i0] = some (v, givenSweep f1 f0 n flags s1 s0 i1 i0) := by
  simp only [parseDefine, waveField, below_byte v (by decide), Option.map_some, givenSweep]

/-- The four limits of R17 in their order, the third on the first table and the count already clamped. -/
theorem Sweep.clamp_eq (g : Sweep) :
    g.clamp = ⟨min g.first 1023, min (max 1 (min 64 g.count)) (1024 - min g.first 1023), g.direction, g.interlace, g.start,
      min g.interval 600⟩ := rfl

section Owner

variable {p : PortId} {v : WaveId} {g : Sweep} {s : State}

theorem ownDefineWave_of_draining (hd : s.service = .draining) :
    ownDefineWave p (v, g) s = s.answer p .defineWave .notOpen .empty := by
  rw [ownDefineWave, if_pos hd, State.refuse]

theorem ownDefineWave_of_not_free (hd : s.service ≠ .draining) (hw : (s.wave v).state ≠ .free) :
    ownDefineWave p (v, g) s = s.answer p .defineWave .badState .empty := by
  rw [ownDefineWave, if_neg hd, if_pos hw, State.refuse]

theorem ownDefineWave_of_free (hd : s.service ≠ .draining) (hw : (s.wave v).state = .free) :
    ownDefineWave p (v, g) s =
      (s.modWave v fun _ => ⟨.opened, g.clamp, false, none⟩).answer p .defineWave (if g.clamp = g then .ok else .clamped)
        (.sweep g.clamp) := by
  rw [ownDefineWave, if_neg hd, if_neg (not_not.mpr hw), clampStatus_bne]

end Owner

/-- The owner's answer to a wave it opened, on the state before the frame. -/
theorem State.answer_modWave_handed {s : State} {p : PortId} {c : Cmd} (hs : (s.port p).stretch = none) (v : WaveId) (a : Wave)
    (st : Status) (d : ReplyData) :
    ((s.handed c p).modWave v fun _ => a).answer p c st d =
      { s with waves := s.waves.set v a }.answered p ⟨c.code, st, d⟩ := by
  rw [State.answer_of_ports hs (by rw [State.modWave_ports])]
  rfl

/-- A DEFINE WAVE its port takes runs its owner on the wave named and the sweep as given. -/
theorem exec_defineWave_of_takes {w : Written} {s : State} {v : WaveId} {f1 f0 n flags s1 s0 i1 i0 : Byte}
    (h : Takes .defineWave w s) (hp : paramsOf w.body = some [byte v.val, f1, f0, n, flags, s1, s0, i1, i0]) :
    exec (.defineWave w) s =
      .next (ownDefineWave w.port (v, givenSweep f1 f0 n flags s1 s0 i1 i0) (s.handed .defineWave w.port)) := by
  have hparse : (paramsOf w.body).bind parseDefine = some (v, givenSweep f1 f0 n flags s1 s0 i1 i0) := by
    rw [hp, Option.bind_some, parseDefine_byte]
  exact congrArg Host.Outcome.next (State.frame_of_takes h hparse)

/-- Settles O21: the three cases of the owner, each carried from the state handed over to the state before the frame. -/
theorem defineWaveClamps : Obligations.DefineWaveClamps := by
  intro w s v f1 f0 n flags s1 s0 i1 i0 h hp
  rw [exec_defineWave_of_takes h hp]
  refine ⟨fun hd => ?draining, fun hd hw => ?notFree, fun hd hw => ?free⟩
  case draining =>
    rw [ownDefineWave_of_draining (by rwa [State.handed_service]), State.answer_handed h.still]
    rfl
  case notFree =>
    rw [ownDefineWave_of_not_free (by rwa [State.handed_service]) (by rwa [State.handed_wave]), State.answer_handed h.still]
    rfl
  case free =>
    refine ⟨_, _, _, (givenSweep f1 f0 n flags s1 s0 i1 i0).clamp, givenSweep f1 f0 n flags s1 s0 i1 i0, rfl, rfl, rfl,
      Sweep.clamp_eq _, rfl, ?_⟩
    rw [ownDefineWave_of_free (by rwa [State.handed_service]) (by rwa [State.handed_wave]), State.answer_modWave_handed h.still]
    rfl

end Sys2Proof.Machine
end

section
/-! SUPPORT. Diversions and routing (R46 to R48): the two comparisons of an entry bit by bit, the entry the search finds, and the route
of a station by its state. -/

namespace Sys2Proof.Machine

/-! ## Matching (R46) -/

/-- Two words agree under a mask exactly when they hold the same bit wherever the mask holds 1. -/
theorem masked_eq_iff {n : Nat} (a b m : BitVec n) :
    a &&& m = b &&& m ↔ ∀ k, k < n → m.getLsbD k = true → a.getLsbD k = b.getLsbD k := by
  simp only [BitVec.eq_of_getLsbD_eq_iff, BitVec.getLsbD_and]
  refine forall₂_congr fun k _ => ?_
  cases m.getLsbD k
  · simp only [Bool.and_false, Bool.false_eq_true, false_implies]
  · simp only [Bool.and_true, true_implies]

/-- Two words have a nonzero conjunction exactly when they share a 1. -/
theorem and_ne_zero_iff {n : Nat} (a b : BitVec n) :
    a &&& b ≠ 0 ↔ ∃ k, k < n ∧ a.getLsbD k = true ∧ b.getLsbD k = true := by
  simp only [ne_eq, BitVec.eq_of_getLsbD_eq_iff, BitVec.getLsbD_and, BitVec.ofNat_eq_ofNat, BitVec.getLsbD_zero, not_forall,
    Bool.not_eq_false, Bool.and_eq_true, exists_prop]

theorem Diversion.isMatch_iff (d : Diversion) (c : ItemCode) (mods : Modifiers) :
    d.isMatch c mods = true ↔
      d.enabled = true ∧ (∀ k, k < 12 → d.mask.getLsbD k = true → c.getLsbD k = d.code.getLsbD k) ∧
        (d.modifiers = 0 ∨ ∃ k, k < 8 ∧ d.modifiers.getLsbD k = true ∧ mods.getLsbD k = true) := by
  simp only [Diversion.isMatch, Bool.and_eq_true, Bool.or_eq_true, beq_iff_eq, bne_iff_ne, and_assoc, masked_eq_iff, and_ne_zero_iff]

/-! ## The station found (R46, R47 step 3) -/

section Found

variable {s : State} {c : ItemCode} {mods : Modifiers}

/-- The search finds the lowest matching index. -/
theorem find_matching_eq_some_iff (i : DiversionId) :
    (allDiversions.find? fun i => (s.diversions[i]).isMatch c mods) = some i ↔
      (s.diversions[i]).isMatch c mods = true ∧ ∀ j : DiversionId, j < i → (s.diversions[j]).isMatch c mods = false := by
  rw [allDiversions, ← Fin.find?_eq_find?_finRange, Fin.find?_eq_some_iff]

theorem chosenStation_of_lowest_match {i : DiversionId} (hi : (s.diversions[i]).isMatch c mods = true)
    (hlow : ∀ j : DiversionId, j < i → (s.diversions[j]).isMatch c mods = false) :
    s.chosenStation c mods = some (s.diversions[i]).target := by
  rw [State.chosenStation, (find_matching_eq_some_iff i).mpr ⟨hi, hlow⟩]

theorem chosenStation_of_no_match (hnone : ∀ i : DiversionId, (s.diversions[i]).isMatch c mods = false) :
    s.chosenStation c mods = (s.entry? c).map MenuEntry.station := by
  have hfind : (allDiversions.find? fun i => (s.diversions[i]).isMatch c mods) = none :=
    List.find?_eq_none.mpr fun i _ => by rw [hnone i]; exact Bool.false_ne_true
  rw [State.chosenStation, hfind]

end Found

/-! ## The route of the station found (R47 steps 4 and 5, R48) -/

section Route

variable {s : State} {c : ItemCode} {mods : Modifiers} {st b : StationId}

theorem State.isRunning_iff : s.isRunning st = true ↔ (s.station st).state = .opened ∨ (s.station st).state = .paused := by
  simp only [State.isRunning, Bool.or_eq_true, beq_iff_eq]

theorem State.isRunning_eq_false_iff :
    s.isRunning st = false ↔ (s.station st).state = .down ∨ (s.station st).state = .unused := by
  rw [State.isRunning]
  cases (s.station st).state <;> decide

theorem usableBackup_of_none (hb : (s.station st).config.backup = none) : s.usableBackup st = none := by
  rw [State.usableBackup, hb]

/-- Only the backup's own state is asked, never its backup (R48). -/
theorem usableBackup_of_some (hb : (s.station st).config.backup = some b) :
    s.usableBackup st = if s.isRunning b then some b else none := by
  rw [State.usableBackup, hb]

theorem route_of_unused (hc : s.chosenStation c mods = some st) (hu : (s.station st).state = .unused) :
    s.route c mods = none := by
  simp only [State.route, hc, if_pos hu]

theorem route_of_running (hc : s.chosenStation c mods = some st) (hr : s.isRunning st = true) :
    s.route c mods = some st := by
  obtain h | h := State.isRunning_iff.mp hr <;> simp [State.route, State.redirect, hc, h]

theorem route_of_down (hc : s.chosenStation c mods = some st) (hd : (s.station st).state = .down) :
    s.route c mods = some ((s.usableBackup st).getD st) := by
  simp [State.route, State.redirect, hc, hd]

end Route

/-- Settles O33: the entry's comparisons bit by bit, the search, and the route in each state of the station found and of its backup. -/
theorem diversionMatching : Obligations.DiversionMatching := by
  refine ⟨Diversion.isMatch_iff, fun s c mods => ⟨fun i => chosenStation_of_lowest_match, chosenStation_of_no_match, fun st hc =>
    ⟨route_of_unused hc, fun hr => route_of_running hc (State.isRunning_iff.mpr hr), fun hd => ?down⟩⟩⟩
  rw [route_of_down hc hd]
  refine ⟨fun hb => ?alone, fun b hb => ⟨fun hr => ?usable, fun hn => ?unusable⟩⟩
  case alone => rw [usableBackup_of_none hb, Option.getD_none]
  case usable => rw [usableBackup_of_some hb, if_pos (State.isRunning_iff.mpr hr), Option.getD_some]
  case unusable =>
    rw [usableBackup_of_some hb, State.isRunning_eq_false_iff.mpr hn, if_neg Bool.false_ne_true, Option.getD_none]

end Sys2Proof.Machine
end

section
/-! SUPPORT. SET STATION (R100, R101): what its owner does, case by case, and the configuration and running state it stores. -/

namespace Sys2Proof.Machine

/-- The limits of R101 in their order, that of the reserve on the slot count already clamped, and the station's own number no backup. -/
theorem StationConfig.clamp_eq (st : StationId) (g : StationConfig) :
    g.clamp st = ⟨g.port, max 1 (min 32 g.slots), min g.reserve (max 1 (min 32 g.slots) - 1), min g.plate 300,
      max 5 (min 120 g.timeout), if g.backup = some st then none else g.backup, min g.horizon 900, min g.window 300,
      min g.initialLag 600⟩ := rfl

/-- The clamping keeps the bound port, so it does not change the state SET STATION gives. -/
theorem stateFor_clamp (st : StationId) (g : StationConfig) :
    stateFor (g.clamp st) = if g.port = none then .unused else .opened := by
  rw [stateFor, StationConfig.clamp_eq]
  cases g.port <;> rfl

theorem State.namesOtherPort_iff {s : State} {g : StationConfig} :
    s.namesOtherPort g = true ↔ ∃ q, g.port = some q ∧ (s.port q).role ≠ .station := by
  unfold State.namesOtherPort
  cases g.port <;> simp

/-- The roles asked are those sampled at the last reset, which no frame changes. -/
theorem State.handed_namesOtherPort (c : Cmd) (p : PortId) (s : State) (g : StationConfig) :
    (s.handed c p).namesOtherPort g = s.namesOtherPort g := by
  rw [Bool.eq_iff_iff]
  simp only [State.namesOtherPort_iff, State.handed_role]

section Owner

variable {p : PortId} {st : StationId} {g : StationConfig} {s : State}

theorem ownSetStation_of_in_service (hs : s.service ≠ .closed) :
    ownSetStation p (st, g) s = s.answer p .setStation .frozen .empty := by
  rw [ownSetStation, if_pos hs, State.refuse]

theorem ownSetStation_of_other_port (hs : s.service = .closed) (hp : s.namesOtherPort g = true) :
    ownSetStation p (st, g) s = s.answer p .setStation .notStationPort .empty := by
  rw [ownSetStation, if_neg (not_not.mpr hs), if_pos hp, State.refuse]

theorem ownSetStation_of_station_port (hs : s.service = .closed) (hp : s.namesOtherPort g = false) :
    ownSetStation p (st, g) s =
      (s.modStation st fun _ => stationAtStart (g.clamp st) (stateFor (g.clamp st))).answer p .setStation
        (if g.clamp st = g then .ok else .clamped) (.stationSet st (g.clamp st) (stateFor (g.clamp st))) := by
  rw [ownSetStation, if_neg (not_not.mpr hs), hp, if_neg Bool.false_ne_true, clampStatus_bne]

end Owner

/-- The owner's answer to a station unit it wrote anew, on the state before the frame. -/
theorem State.answer_modStation_handed {s : State} {p : PortId} {c : Cmd} (hs : (s.port p).stretch = none) (st : StationId)
    (u : StationUnit) (status : Status) (d : ReplyData) :
    ((s.handed c p).modStation st fun _ => u).answer p c status d =
      { s with stations := s.stations.set st u }.answered p ⟨c.code, status, d⟩ := by
  rw [State.answer_of_ports hs (by rw [State.modStation_ports])]
  rfl

/-- A SET STATION its port takes runs its owner on the station named and the configuration as given. -/
theorem exec_setStation_of_takes {w : Written} {s : State} {st : StationId} {g : StationConfig} (h : Takes .setStation w s)
    (hp : (paramsOf w.body).bind parseSetStation = some (st, g)) :
    exec (.setStation w) s = .next (ownSetStation w.port (st, g) (s.handed .setStation w.port)) :=
  congrArg Host.Outcome.next (State.frame_of_takes h hp)

/-- Settles O44: the three cases of the owner, each carried from the state handed over to the state before the frame; what is stored is
the clamped configuration, field by field as `StationConfig.clamp_eq` says. -/
theorem setStationClamps : Obligations.SetStationClamps := by
  intro w s st given h hp
  rw [exec_setStation_of_takes h hp]
  refine ⟨fun hs => ?inService, fun hs hother => ?otherPort, fun hs hown => ?stored⟩
  case inService =>
    rw [ownSetStation_of_in_service (by rwa [State.handed_service]), State.answer_handed h.still]
    rfl
  case otherPort =>
    have hnames := State.namesOtherPort_iff.mpr hother
    rw [ownSetStation_of_other_port (by rwa [State.handed_service]) (by rwa [State.handed_namesOtherPort]), State.answer_handed h.still]
    rfl
  case stored =>
    have hnames : s.namesOtherPort given = false := by
      rw [Bool.eq_false_iff, ne_eq, State.namesOtherPort_iff]
      rintro ⟨q, hq, hrole⟩
      exact hrole (hown q hq)
    rw [ownSetStation_of_station_port (by rwa [State.handed_service]) (by rwa [State.handed_namesOtherPort]),
      State.answer_modStation_handed h.still, stateFor_clamp]
    refine ⟨given.clamp st, if given.port = none then .unused else .opened, ?_⟩
    rw [StationConfig.clamp_eq]
    exact ⟨rfl, rfl, rfl, rfl, rfl, rfl, rfl, rfl, rfl, rfl, rfl⟩

end Sys2Proof.Machine
end

section
/-! SUPPORT. Notices and the attention line (R145, R152 to R154, R161, R162): what a copy handed to a port does by the urgency of its
kind, whom a post reaches, and that a port told in the course of a shared operation stays told to its end. -/

namespace Sys2Proof.Machine

/-! ## The urgency of a kind (R152) -/

theorem NoticeBody.urgent_iff (b : NoticeBody) :
    b.urgent = true ↔ (∃ n st c k p f ms, b = .call n st c k p f ms) ∨ (∃ n st c r d, b = .withdrawn n st c r d) ∨
      (∃ n i r, b = .exception n i r) ∨ (∃ st x c d l, b = .stationState st x c d l) ∨ ∃ x c, b = .service x c := by
  cases b <;> simp [NoticeBody.urgent]

theorem NoticeBody.not_urgent_iff (b : NoticeBody) :
    b.urgent = false ↔ (∃ n st c k f p m, b = .preview n st c k f p m) ∨ (∃ n st c x f p m, b = .changed n st c x f p m) ∨
      (∃ n v t g l, b = .up n v t g l) ∨ (∃ n v t g i, b = .late n v t g i) ∨ (∃ n c ls, b = .short n c ls) ∨
      (∃ n c, b = .voided n c) ∨ ∃ v, b = .waveFree v := by
  cases b <;> simp [NoticeBody.urgent]

/-! ## A copy handed to a port (R154, R162) -/

section Copy

variable {n : Notice} {u : PortUnit}

theorem PortUnit.append_of_overrun (ho : u.overrun = true) : u.append n = u := by
  rw [PortUnit.append, if_pos ho]

theorem PortUnit.append_of_full (ho : u.overrun = false) (hl : 24 ≤ u.notices.length) :
    u.append n = { u with overrun := true }.assertLine := by
  rw [PortUnit.append, if_neg (ho ▸ Bool.false_ne_true)]
  exact if_neg (not_lt.mpr hl)

theorem PortUnit.append_of_room (ho : u.overrun = false) (hl : u.notices.length < 24) :
    u.append n = if n.body.urgent then { u with notices := u.notices ++ [n] }.assertLine
      else { u with notices := u.notices ++ [n] }.waitLine := by
  rw [PortUnit.append, if_neg (ho ▸ Bool.false_ne_true)]
  exact if_pos hl

theorem PortUnit.waitLine_of_asserted (ha : u.attention = .asserted) : u.waitLine = u := by
  rw [PortUnit.waitLine, ha]

theorem PortUnit.waitLine_of_no_delay (ha : u.attention = .released) (hd : u.relDelay = 0 ∧ u.absDelay = 0) :
    u.waitLine = u.assertLine := by
  rw [PortUnit.waitLine, ha]
  exact if_pos hd

theorem PortUnit.waitLine_of_delay (ha : u.attention = .released) (hd : ¬(u.relDelay = 0 ∧ u.absDelay = 0)) :
    u.waitLine = { u with attention := .waiting, relTimer := startTimer u.relDelay, absTimer := startTimer u.absDelay } := by
  rw [PortUnit.waitLine, ha]
  exact if_neg hd

/-- In WAITING the relative timer restarts where it has a delay; the absolute timer runs on. -/
theorem PortUnit.waitLine_of_waiting (ha : u.attention = .waiting) :
    u.waitLine = { u with relTimer := if u.relDelay = 0 then u.relTimer else some u.relDelay } := by
  unfold PortUnit.waitLine
  split
  · next h => rw [ha] at h; cases h
  · split <;> rfl
  · next h => rw [ha] at h; cases h

end Copy

/-! ## Whom a post reaches (R153) -/

theorem State.port_post (r : PortId → Bool) (b : NoticeBody) (s : State) (q : PortId) :
    (s.post r b).port q = if r q = true then (s.port q).append ⟨s.clock, b⟩ else s.port q := by
  rw [State.post, State.port_mapPorts]

theorem State.watchers_iff {s : State} {q : PortId} :
    s.watchers q = true ↔ (s.port q).role = .pass ∨ (s.port q).role = .monitor := by
  simp only [State.watchers, Bool.or_eq_true, beq_iff_eq]

theorem State.watchersAnd_iff {s : State} {o q : PortId} :
    s.watchersAnd o q = true ↔ (s.port q).role = .pass ∨ (s.port q).role = .monitor ∨ q = o := by
  simp only [State.watchersAnd, Bool.or_eq_true, State.watchers_iff, beq_iff_eq, or_assoc]

theorem State.isBound_iff {s : State} {st : StationId} {q : PortId} :
    s.isBound st q = true ↔ (s.station st).config.port = some q ∧ (s.port q).role = .station := by
  simp only [State.isBound, Bool.and_eq_true, beq_iff_eq]

theorem State.watchersOf_iff {s : State} {st : StationId} {q : PortId} :
    s.watchersOf st q = true ↔ (s.port q).role = .pass ∨ (s.port q).role = .monitor ∨
      (s.station st).config.port = some q ∧ (s.port q).role = .station := by
  simp only [State.watchersOf, Bool.or_eq_true, State.watchers_iff, State.isBound_iff, or_assoc]

/-! ## Told in the course of an operation -/

section Kept

variable {s t : State}

theorem Kept.clock (h : Kept s t) : t.clock = s.clock := by
  have hclock : t.still.clock = s.still.clock := by rw [h.still]
  exact hclock

theorem Kept.isBound (h : Kept s t) (st : StationId) (q : PortId) : t.isBound st q = s.isBound st q := by
  rw [State.isBound, State.isBound, h.configs, (h.ports q).same.role]

theorem Kept.watchersOf (h : Kept s t) (st : StationId) (q : PortId) : t.watchersOf st q = s.watchersOf st q := by
  rw [State.watchersOf, State.watchersOf, h.isBound, State.watchers, State.watchers, (h.ports q).same.role]

/-- A port told of a notice stays told through every operation that keeps. -/
theorem Kept.told (h : Kept s t) {q : PortId} {n : Notice} (hq : (s.port q).Told n) : (t.port q).Told n := (h.ports q).told hq

/-- A notice posted in the course of an operation carries the clock at the event. -/
theorem Kept.told_post (h : Kept s t) {r : PortId → Bool} {q : PortId} (hr : r q = true) (b : NoticeBody) :
    ((t.post r b).port q).Told ⟨s.clock, b⟩ := by
  rw [State.port_post, if_pos hr, h.clock]
  exact (PortUnit.toldLast_append _ _).told

end Kept

/-! ## WITHDRAWN (R111, R123, R127) -/

/-- The port bound to the slip's station has the WITHDRAWN, posted once the lines are WAITING and the tickets worked out. -/
theorem State.returnSlip_told {s : State} {x : Slip} {q : PortId} (hq : s.isBound x.station q = true) (reason : WithdrawReason) :
    ((s.returnSlip x reason).port q).Told ⟨s.clock, .withdrawn x.number x.station x.item reason none⟩ := by
  have hpending : Kept s (s.modSlip x.number fun y => { y with state := .pending }) :=
    .modSlip (fun _ h => h) fun _ _ _ _ h => h
  have hworked := (hpending.trans (.setMembers x.members (.waiting x.number) _)).trans (.workOutAll x.members _)
  exact hworked.told_post ((hworked.isBound _ _).trans hq) _

/-- The port bound to the station left has the WITHDRAWN of a previewed slip, posted before the backup considers. -/
theorem State.moveSlip_told {s : State} {x : Slip} {st : StationId} {q : PortId} (hx : x.previewed = true)
    (hq : s.isBound st q = true) (b : StationId) :
    ((s.moveSlip st b x).port q).Told ⟨s.clock, .withdrawn x.number st x.item .moved (some b)⟩ := by
  unfold State.moveSlip
  extract_lets s1 s2 s3
  have h1 : (s1.port q).Told ⟨s.clock, .withdrawn x.number st x.item .moved (some b)⟩ := by
    unfold s1
    rw [if_pos hx]
    exact (Kept.refl s).told_post hq _
  have h2 : Kept s1 s2 := by
    refine .trans ?_ (.unlist _ _ _)
    exact .modSlip (fun _ h => h) fun _ _ _ _ h => h
  have h3 : Kept s2 s3 := Kept.foldl (fun s (m : Member) => .modLine s m.ticket m.line _) x.members s2
  have hmoved : Kept s1 ((s3.consider b).finishEvacuation st) :=
    ((h2.trans h3).trans (.consider b s3)).trans (.finishEvacuation st _)
  exact hmoved.told h1

/-! ## STATION_STATE (R123, R128 to R130, R133) -/

theorem State.endEvacuation_told {s : State} {st : StationId} {q : PortId} (hq : s.watchersOf st q = true) (cause : StationCause)
    (left : Nat) :
    ((s.endEvacuation st cause left).port q).Told ⟨s.clock, .stationState st .down cause (s.station st).config.backup left⟩ :=
  (Kept.setEvacuating st false s).told_post hq _

theorem State.reopen_told {s : State} {st : StationId} {q : PortId} (hq : s.watchersOf st q = true) :
    ((s.reopen st).port q).Told ⟨s.clock, .stationState st .opened .reopened none 0⟩ := by
  unfold State.reopen
  extract_lets s1 s2
  have h1 : Kept s s1 := by
    unfold s1
    split
    · exact .endEvacuation st _ _ s
    · exact .refl s
  have h2 : Kept s s2 := h1.trans (.modStation rfl)
  have hstate : Kept s2 (s2.modStation st fun u => { u with state := .opened }) := .modStation rfl
  exact (Kept.consider st _).told ((h2.trans hstate).told_post ((h2.watchersOf _ _).trans hq) _)

/-- A queue is made of the store's slips alone. -/
theorem State.queue_congr {s t : State} (h : t.slips = s.slips) (st : StationId) : t.queue st = s.queue st := by
  rw [State.queue, State.queue, h]

/-- The backup that takes a DOWN station's slips is the one its configuration names (R125). -/
theorem State.backup_of_usable {s : State} {st b : StationId} (h : s.usableBackup st = some b) :
    (s.station st).config.backup = some b := by
  cases hb : (s.station st).config.backup with
  | none => rw [usableBackup_of_none hb] at h; cases h
  | some c =>
    rw [usableBackup_of_some hb] at h
    split at h
    · exact h
    · cases h

/-- The loss of a backup ends evacuations and starts none, and no slip moves (R129). -/
theorem State.loseBackups_spec (b st : StationId) (ds : List StationId) (s : State) :
    (ds.foldl (State.loseBackup b) s).slips = s.slips ∧
      ((s.station st).evacuating = false → ((ds.foldl (State.loseBackup b) s).station st).evacuating = false) := by
  induction ds generalizing s with
  | nil => exact ⟨rfl, id⟩
  | cons d ds ih =>
    have hd : (s.loseBackup b d).slips = s.slips ∧
        ((s.station st).evacuating = false → ((s.loseBackup b d).station st).evacuating = false) := by
      rw [State.loseBackup]
      split
      · refine ⟨rfl, fun hs => ?_⟩
        rw [State.endEvacuation, State.post, State.station_mapPorts, State.station_modStation]
        split
        · rfl
        · exact hs
      · exact ⟨rfl, id⟩
    exact ⟨(ih _).1.trans hd.1, fun hs => (ih _).2 (hd.2 hs)⟩

/-- Station `st` DOWN with its CALLED slips PENDING again, not yet announced (R123). -/
def State.downed (st : StationId) (s : State) : State :=
  (((s.modStation st fun u => { u with state := .down }).busySet st).filter Slip.isCalled).foldl
    (fun s x => s.returnSlip x .down) (s.modStation st fun u => { u with state := .down })

/-- The backup to which an evacuation from `st` starts: none where its queue is empty (R125, R126). -/
def State.newBackup (s : State) (st : StationId) : Option StationId :=
  if (s.queue st).isEmpty then none else s.usableBackup st

/-- The announcement of a station that went DOWN, and the loss of every evacuation into it (R124, R129). -/
def State.announceDown (st : StationId) (cause : StationCause) (s : State) : State :=
  allStations.foldl (State.loseBackup st) (s.post (s.watchersOf st)
    (.stationState st .down cause (s.newBackup st) (if (s.newBackup st).isSome then (s.queue st).length else 0)))

/-- A station going DOWN in its three parts: its slips returned, the announcement, the start of its evacuation. -/
theorem State.goDown_eq (st : StationId) (cause : StationCause) (s : State) :
    s.goDown st cause = if ((s.downed st).newBackup st).isSome then
        ((s.downed st).announceDown st cause).modStation st fun u => { u with evacuating := true }
      else (s.downed st).announceDown st cause := rfl

theorem Kept.downed (st : StationId) (s : State) : Kept s (s.downed st) :=
  (Kept.modStation rfl).trans (.returnSlips _ _ _)

theorem State.downed_evacuating (st : StationId) (s : State) :
    ((s.downed st).station st).evacuating = (s.station st).evacuating := by
  rw [State.downed, (Quiet.foldl (fun s x => .returnSlip x .down s) _ _).station, State.station_modStation_self]

theorem State.announceDown_queue (st : StationId) (cause : StationCause) (s : State) :
    (s.announceDown st cause).queue st = s.queue st := by
  refine State.queue_congr ?_ st
  rw [State.announceDown, (State.loseBackups_spec st st allStations _).1]
  rfl

/-- An announcement stays with its ports while the evacuations into the station are lost. -/
theorem State.announceDown_told {s : State} {st : StationId} {q : PortId} (hq : s.watchersOf st q = true) (cause : StationCause) :
    ((s.announceDown st cause).port q).Told ⟨s.clock, .stationState st .down cause (s.newBackup st)
      (if (s.newBackup st).isSome then (s.queue st).length else 0)⟩ := by
  rw [State.announceDown]
  exact (Kept.loseBackups st _).told ((Kept.refl s).told_post hq _)

/-- No evacuation starts with the announcement. -/
theorem State.announceDown_evacuating {s : State} {st : StationId} (he : (s.station st).evacuating = false) (cause : StationCause) :
    ((s.announceDown st cause).station st).evacuating = false := by
  rw [State.announceDown]
  exact (State.loseBackups_spec st st allStations _).2 he

theorem State.goDown_evacuating {s : State} {st : StationId} (he : (s.station st).evacuating = false) (cause : StationCause) :
    ((s.goDown st cause).station st).evacuating = ((s.downed st).newBackup st).isSome := by
  rw [State.goDown_eq]
  cases (s.downed st).newBackup st with
  | none =>
    rw [if_neg (by simp)]
    exact State.announceDown_evacuating ((s.downed_evacuating st).trans he) cause
  | some b => rw [if_pos (by simp), State.station_modStation_self]; rfl

theorem State.goDown_queue (st : StationId) (cause : StationCause) (s : State) :
    (s.goDown st cause).queue st = (s.downed st).queue st := by
  rw [State.goDown_eq]
  split
  · exact (State.queue_congr (State.modStation_slips _ _ _) st).trans (State.announceDown_queue st cause _)
  · exact State.announceDown_queue st cause _

theorem State.goDown_port (st : StationId) (cause : StationCause) (s : State) (q : PortId) :
    (s.goDown st cause).port q = ((s.downed st).announceDown st cause).port q := by
  rw [State.goDown_eq]
  split
  · rw [State.port_modStation]
  · rfl

/-- The backup of a new evacuation is the one the configuration names (R125). -/
theorem State.newBackup_eq (s : State) (st : StationId) :
    s.newBackup st = if (s.newBackup st).isSome then (s.station st).config.backup else none := by
  cases hb : s.newBackup st with
  | none => rfl
  | some b =>
    rw [State.newBackup] at hb
    split at hb
    · cases hb
    · rw [State.backup_of_usable hb]; rfl

/-- The notice of a station going DOWN names the backup and the slips left exactly where an evacuation starts (R124, R126). -/
theorem State.goDown_told {s : State} {st : StationId} {q : PortId} (hq : s.watchersOf st q = true)
    (he : (s.station st).evacuating = false) (cause : StationCause) :
    ((s.goDown st cause).port q).Told ⟨s.clock, .stationState st .down cause
      (if ((s.goDown st cause).station st).evacuating then (s.station st).config.backup else none)
      (if ((s.goDown st cause).station st).evacuating then ((s.goDown st cause).queue st).length else 0)⟩ := by
  have hdown : Kept s (s.downed st) := .downed st s
  rw [State.goDown_evacuating he, State.goDown_queue, State.goDown_port, ← hdown.clock, ← hdown.configs st, ← State.newBackup_eq]
  exact State.announceDown_told ((hdown.watchersOf st q).trans hq) cause

/-! ## Replies (R141, R145, R161) -/

/-- The record behind a READY slot's status byte is its reply. -/
theorem PortUnit.makeUp_of_ready {u : PortUnit} {r : Reply} (h : u.slot = .ready r) (b : Bool) :
    u.makeUp b = { u with
      reading := some ⟨packByte true false u.collided u.overrun u.muted (!u.notices.isEmpty) b false, .reply r, true⟩
      collided := false
      stretch := none } := by
  have hrecord : u.chooseRecord = .reply r := by rw [PortUnit.chooseRecord, h]
  rw [PortUnit.makeUp, PortUnit.statusByte, hrecord, h]
  rfl

/-- A reply placed at a port: READY with the line asserted, and a read held for it ended with the status byte and the reply. -/
theorem PortUnit.placeReply_effect (b : Bool) (r : Reply) (u : PortUnit) :
    (u.placeReply b r).slot = .ready r ∧ (u.placeReply b r).attention = .asserted ∧ (u.placeReply b r).relTimer = none ∧
      (u.placeReply b r).absTimer = none ∧
      (u.stretch ≠ none → u.placeReply b r = { u with
        slot := .ready r, attention := .asserted, relTimer := none, absTimer := none, stretch := none, collided := false
        reading := some ⟨packByte true false u.collided u.overrun u.muted (!u.notices.isEmpty) b false, .reply r, true⟩ }) := by
  rcases u.placeReply_spec b r with ⟨hs, h⟩ | ⟨_, h⟩
  · rw [h]
    exact ⟨rfl, rfl, rfl, rfl, fun hne => absurd hs hne⟩
  · rw [h]
    exact ⟨rfl, rfl, rfl, rfl, fun _ => PortUnit.makeUp_of_ready rfl b⟩

/-! ## The statement, part by part -/

/-- Settles O57: a copy by the urgency of its kind and the state of the line, the recipients of a post, the WITHDRAWN and STATION_STATE
of the operations that post them, and the reply, each from its lemma above. -/
theorem noticesAndAttention : Obligations.NoticesAndAttention := by
  refine ⟨fun n u => ⟨PortUnit.append_of_overrun, PortUnit.append_of_full, fun ho hl => ⟨fun hkind => ?urgent, fun hkind => ?calm⟩⟩,
    fun s r b => ⟨rfl, s.port_post r b⟩,
    fun s o q st => ⟨State.watchers_iff, State.watchersAnd_iff, State.isBound_iff, State.watchersOf_iff⟩,
    fun s x st b q => ⟨fun reason hq => State.returnSlip_told hq reason, fun hx hq => State.moveSlip_told hx hq b⟩,
    fun s st cause q hq => ⟨State.endEvacuation_told hq cause, fun he => State.goDown_told hq he cause, State.reopen_told hq⟩,
    fun p r s => ?reply⟩
  case urgent =>
    rw [PortUnit.append_of_room ho hl, if_pos (n.body.urgent_iff.mpr hkind)]
    rfl
  case calm =>
    rw [PortUnit.append_of_room ho hl, n.body.not_urgent_iff.mpr hkind, if_neg Bool.false_ne_true]
    exact ⟨fun ha => PortUnit.waitLine_of_asserted ha, fun ha hr hb => PortUnit.waitLine_of_no_delay ha ⟨hr, hb⟩,
      fun ha hd => PortUnit.waitLine_of_delay ha hd, fun ha => PortUnit.waitLine_of_waiting ha⟩
  case reply =>
    have hpending : (!(s.port p).notices.isEmpty) = decide ((s.port p).notices ≠ []) := by
      cases (s.port p).notices <;> rfl
    have hservice : s.inService = decide (s.service ≠ .closed) := by
      rw [State.inService]; cases s.service <;> rfl
    rw [State.reply, State.port_modPort_self, ← hpending, ← hservice]
    exact PortUnit.placeReply_effect _ r _

end Sys2Proof.Machine
end

section
/-! SUPPORT. What a step can do, said once: the deed of each command and event on the state, and how a frame and a step come to one. -/

namespace Sys2Proof.Machine

/-! ## The deeds of the owners -/

/-- The tickets hit and the mark of MARK OUT, without its reply (R39 to R41). -/
def State.markOut (c : ItemCode) (s : State) : State :=
  (if s.inService then s.ticketsHit c else []).foldl (State.shortTicket c) (s.setOutBoard (insertCode c s.outBoard))

/-- FIRE WAVE without its reply (R30). -/
def State.fireWave (w : WaveId) (s : State) : State :=
  ((s.toFire w).foldl (fun s' x => s'.refireTime x s.clock) s).considerAll (s.queueHasWave w)

/-- RELEASE WAVE of a held wave without its reply (R24). -/
def State.releaseWave (w : WaveId) (s : State) : State :=
  (s.modWave w fun v => { v with hold := false }).considerAll (s.queueHasWave w)

/-- A delay in flight on wave `w`, its start time moved (R25). -/
def State.delayWave (w : WaveId) (d : Option Delay) (start : Nat) (s : State) : State :=
  s.modWave w fun v => { v with sweep := { v.sweep with start := start }, delay := d }

/-- What a command that port `p` hands over can do to the state before its reply, one constructor per deed, with what its owner has checked. -/
inductive Deed (p : PortId) (s : State) : Cmd → State → Prop where
  | nothing (c : Cmd) : Deed p s c s
  | openService (hs : s.service = .closed) : Deed p s .openService s.openService
  | closeService (hs : s.service = .opened) : Deed p s .closeService s.closeService
  | resetService : Deed p s .serviceReset (s.resetService p)
  | setLimits (n : Nat) (hs : s.service = .closed) : Deed p s .setLimits { s with refireLimit := min n 7 }
  | defineWave (w : WaveId) (g : Sweep) (hs : s.service ≠ .draining) (hw : (s.wave w).state = .free) :
      Deed p s .defineWave (s.modWave w fun _ => ⟨.opened, g.clamp, false, none⟩)
  | sealWave (w : WaveId) : Deed p s .sealWave (s.sealWave w)
  | holdWave (w : WaveId) : Deed p s .holdWave (s.modWave w fun v => { v with hold := true })
  | releaseWave (w : WaveId) : Deed p s .releaseWave (s.releaseWave w)
  | delayWave (w : WaveId) (d : Option Delay) (start : Nat) (hw : (s.wave w).state ≠ .free) (hn : (s.wave w).delay = none)
      (hd : ∀ e, d = some e → e.slips = s.delayList w) : Deed p s .delayWave (s.delayWave w d start)
  | fireWave (w : WaveId) : Deed p s .fireWave (s.fireWave w)
  | queryWave : Deed p s .queryWave { s with freeCount := s.freeCount + 1 }
  | replaceItem (a : ItemParams) (e : MenuEntry) (hs : s.service = .closed) (he : s.entry? a.item = some e) :
      Deed p s .setItem (s.setMenu (s.menu.map fun f => if f.index = e.index then storedEntry e.index a else f))
  | insertItem (a : ItemParams) (i : Nat) (hs : s.service = .closed) (he : s.entry? a.item = none) (hi : s.freeEntry? = some i) :
      Deed p s .setItem (s.setMenu (insertEntry (storedEntry i a) s.menu))
  | clearItem (e : MenuEntry) (hs : s.service = .closed) :
      Deed p s .clearItem (s.setMenu (s.menu.filter fun f => f.index != e.index))
  | clearMenu (hs : s.service = .closed) : Deed p s .clearMenu (s.setMenu [])
  | setDiversion (i : DiversionId) (d : Diversion) (hs : s.service = .closed) :
      Deed p s .setDiversion { s with diversions := s.diversions.set i d }
  | markOut (c : ItemCode) (hc : s.isOut c = false) : Deed p s .markOut (s.markOut c)
  | markIn (c : ItemCode) : Deed p s .markIn (s.setOutBoard (s.outBoard.filter fun d => d != c))
  | submitTicket (a : Submission) (ha : s.checkSubmission a = none) : Deed p s .submitTicket (s.acceptTicket p a)
  | voidTicket (n : Nat) (t : Ticket) (ht : s.ticket? n = some t) : Deed p s .voidTicket (s.voidTicket t)
  | pickup (n : Nat) (t : Ticket) (ht : s.ticket? n = some t) (hu : t.state = .up) : Deed p s .pickup (s.leaveTable t)
  | refire (n i : Nat) (t : Ticket) (l : Line) (st : StationId) (ht : s.ticket? n = some t) (hl : t.lines[i]? = some l)
      (hr : l.state.isReady = true) (hc : s.slips.length < Config.slipCapacity) (hn : s.slipsLeft ≠ 0)
      (hst : s.route l.item l.modifiers = some st) : Deed p s .refire (s.refireLine t i l st)
  | setStation (st : StationId) (g : StationConfig) (hs : s.service = .closed) :
      Deed p s .setStation (s.modStation st fun _ => stationAtStart (g.clamp st) (stateFor (g.clamp st)))
  | pauseStation (st : StationId) (hs : s.service ≠ .closed) (ho : (s.station st).state = .opened) :
      Deed p s .pauseStation (s.announceStation st .paused .paused)
  | resumeStation (st : StationId) (hs : s.service ≠ .closed) (ho : (s.station st).state = .paused) :
      Deed p s .resumeStation ((s.announceStation st .opened .resumed).consider st)
  | stationDown (st : StationId) (hs : s.service ≠ .closed) (hr : s.isRunning st = true) :
      Deed p s .stationDown (s.goDown st .ordered)
  | stationOpen (st : StationId) (hs : s.service ≠ .closed) (ho : (s.station st).state = .down) : Deed p s .stationOpen (s.reopen st)
  | take (n : Nat) (x : Slip) (t k : Nat) (hx : s.slip? n = some x) (hc : x.state = .called t k) : Deed p s .take (s.takeSlip x t)
  | bump (n : Nat) (x : Slip) (t : Nat) (hx : s.slip? n = some x) (hc : (∃ k, x.state = .called t k) ∨ x.state = .taken t) :
      Deed p s .bump (s.bumpSlip x t)
  | forceBump (n : Nat) (x : Slip) (hx : s.slip? n = some x) : Deed p s .forceBump (s.forceSlip x)
  | portMode (stretch : Bool) (rel abs : Nat) :
      Deed p s .setPortMode (s.modPort p fun u => { u with stretchMode := stretch, relDelay := rel, absDelay := abs })
  | portRestart : Deed p s .portRestart (s.modPort p fun u => { u with errors := 0, muted := false })
  | list (b : Bool) : Deed p s .list (s.modPort p fun u => { u with overrun := u.overrun && b })

/-- From `s` to `t`, an owner's event for command `c` of port `p`: a deed, then the reply, or a DELAY WAVE left in flight. -/
def Owned (c : Cmd) (p : PortId) (s t : State) : Prop :=
  ∃ u, Deed p s c u ∧ ((∃ st d, t = u.answer p c st d) ∨
    c = .delayWave ∧ t = u ∧ ∃ w d start, u = s.delayWave w (some d) start ∧ d.port = p ∧ d.slips ≠ [])

theorem Owned.answer {c : Cmd} {p : PortId} {s u : State} (h : Deed p s c u) (st : Status) (d : ReplyData) :
    Owned c p s (u.answer p c st d) := ⟨u, h, .inl ⟨st, d, rfl⟩⟩

theorem Owned.refuse {c : Cmd} {p : PortId} (s : State) (st : Status) : Owned c p s (s.refuse p c st) := .answer (.nothing c) st _

/-! ## Each owner's deed -/

/-- A number finds a ticket exactly where a live ticket has it (R50). -/
theorem State.ticket?_isSome {s : State} {n : Nat} : (s.ticket? n).isSome = true ↔ n ∈ s.tickets.map Ticket.number := by
  simp [State.ticket?, List.find?_isSome]

theorem State.modTicket_numbers (s : State) (n : Nat) {f : Ticket → Ticket} (hf : ∀ t, (f t).number = t.number) :
    (s.modTicket n f).tickets.map Ticket.number = s.tickets.map Ticket.number := by
  rw [State.modTicket_tickets, List.map_map]
  exact List.map_congr_left fun t _ => by simp only [Function.comp]; split <;> simp [hf]

theorem State.modLine_numbers (s : State) (n i : Nat) (f : Line → Line) :
    (s.modLine n i f).tickets.map Ticket.number = s.tickets.map Ticket.number := s.modTicket_numbers n fun _ => rfl

theorem State.createSlip_numbers (st : StationId) (c : ItemCode) (w : WaveId) (k : SlipClass) (fire : Nat) (m : Member) (s : State) :
    (s.createSlip st c w k fire m).tickets.map Ticket.number = s.tickets.map Ticket.number := by
  rw [State.createSlip, State.modLine_numbers, State.giveSlipNumber]
  split <;> rfl

theorem State.joinSlip_numbers (x : Slip) (fire : Nat) (m : Member) (s : State) :
    (s.joinSlip x fire m).tickets.map Ticket.number = s.tickets.map Ticket.number := by
  unfold State.joinSlip
  dsimp only
  split
  · exact State.modLine_numbers _ _ _ _
  · exact State.modLine_numbers _ _ _ _

theorem State.setLate_numbers (n i : Nat) (s : State) : (s.setLate n i).tickets.map Ticket.number = s.tickets.map Ticket.number := by
  unfold State.setLate
  dsimp only
  split
  · split
    · exact State.modLine_numbers _ _ _ _
    · exact (State.modTicket_numbers _ _ (f := fun t => { t with late := true }) fun _ => rfl).trans (State.modLine_numbers _ _ _ _)
  · exact State.modLine_numbers _ _ _ _

/-- Line `i` of ticket `n` given its station, and late where its plan says so: what placing it does before its slip is found (R58, R63). -/
def State.readied (n i : Nat) (st : StationId) (late : Bool) (s : State) : State :=
  if late then (s.modLine n i fun l => { l with station := some st }).setLate n i
  else s.modLine n i fun l => { l with station := some st }

/-- The fire time and the late flag planned for a line of ticket `t` at station `st` (R82, R83). -/
def State.planned (s : State) (t : Ticket) (c : ItemCode) (st : StationId) : Nat × Bool :=
  if t.rush then (s.clock, false) else planFire (s.target t) (s.leadTime c st) s.clock

/-- The slip a line of ticket `t` joins at station `st`: for a NORMAL line the first in queue order that qualifies (R83, R85, R86). -/
def State.joined? (s : State) (t : Ticket) (l : Line) (st : StationId) (fire : Nat) : Option Slip :=
  if t.rush then none else (s.queue st).find? (s.qualifies st l.item t.wave fire l.qty)

/-- The class of the slips made for a ticket's lines (R83, R87). -/
def Ticket.slipClass (t : Ticket) : SlipClass := if t.rush then .priority else .normal

/-- A line that has no route is left as it is. -/
theorem State.placeLine_of_no_route {s : State} {l : Line} (h : s.route l.item l.modifiers = none) (t : Ticket) (i : Nat) :
    s.placeLine t i l = (s, none) := by
  rw [State.placeLine, h]

/-- A routed line is readied, then joins the slip found or gets one of its own (R83, R86, R87). -/
theorem State.placeLine_of_route {s : State} {l : Line} {st : StationId} (h : s.route l.item l.modifiers = some st) (t : Ticket) (i : Nat) :
    s.placeLine t i l =
      (match (s.readied t.number i st (s.planned t l.item st).2).joined? t l st (s.planned t l.item st).1 with
        | some x => (s.readied t.number i st (s.planned t l.item st).2).joinSlip x (s.planned t l.item st).1 ⟨t.number, i, l.qty⟩
        | none => (s.readied t.number i st (s.planned t l.item st).2).createSlip st l.item t.wave t.slipClass (s.planned t l.item st).1
            ⟨t.number, i, l.qty⟩, some st) := by
  unfold State.placeLine State.planned State.joined? State.readied Ticket.slipClass
  rw [h]
  cases hr : t.rush with
  | true => rfl
  | false =>
    dsimp only [Bool.false_eq_true, if_false]
    generalize hp : planFire (s.target t) (s.leadTime l.item st) s.clock = plan
    have hp' : planFire ((s.modLine t.number i fun l => { l with station := some st }).target t)
        ((s.modLine t.number i fun l => { l with station := some st }).leadTime l.item st)
        (s.modLine t.number i fun l => { l with station := some st }).clock = plan := hp
    obtain ⟨fire, late⟩ := plan
    cases late <;> simp only [hp', Bool.false_eq_true, if_false, if_true] <;> generalize List.find? _ _ = found <;>
      cases found <;> rfl

theorem State.readied_numbers (n i : Nat) (st : StationId) (late : Bool) (s : State) :
    (s.readied n i st late).tickets.map Ticket.number = s.tickets.map Ticket.number := by
  unfold State.readied
  split
  · exact (State.setLate_numbers _ _ _).trans (State.modLine_numbers _ _ _ _)
  · exact State.modLine_numbers _ _ _ _

theorem State.placeLine_numbers (t : Ticket) (i : Nat) (l : Line) (s : State) :
    (s.placeLine t i l).1.tickets.map Ticket.number = s.tickets.map Ticket.number := by
  cases h : s.route l.item l.modifiers with
  | none => rw [State.placeLine_of_no_route h]
  | some st =>
    rw [State.placeLine_of_route h]
    dsimp only
    split
    · exact (State.joinSlip_numbers _ _ _ _).trans (State.readied_numbers _ _ _ _ _)
    · exact (State.createSlip_numbers _ _ _ _ _ _ _).trans (State.readied_numbers _ _ _ _ _)

theorem State.placeLines_numbers (t : Ticket) (ls : List Line) (i : Nat) (s : State) :
    (s.placeLines t i ls).1.tickets.map Ticket.number = s.tickets.map Ticket.number := by
  induction ls generalizing i s with
  | nil => rfl
  | cons l ls ih =>
    unfold State.placeLines
    split
    · exact ih _ _
    · exact (ih _ _).trans (State.placeLine_numbers t i l s)

/-- The acceptance of a submission enters one ticket, with the next number (R63). -/
theorem State.acceptTicket_numbers (p : PortId) (a : Submission) (s : State) :
    (s.acceptTicket p a).tickets.map Ticket.number = s.tickets.map Ticket.number ++ [s.nextTicket] := by
  unfold State.acceptTicket
  dsimp only
  rw [(Quiet.workOut _ _).ticket_numbers, (Quiet.considerAll _ _).ticket_numbers, State.placeLines_numbers, State.giveTicketNumber]
  split <;> simp [State.newTicket]

theorem State.countRefire_numbers (n i : Nat) (s : State) :
    (s.countRefire n i).tickets.map Ticket.number = s.tickets.map Ticket.number := by
  rw [State.countRefire]
  split
  · rfl
  · dsimp only
    split
    · exact State.modTicket_numbers _ _ fun _ => rfl
    · exact State.modTicket_numbers _ _ fun _ => rfl

/-- A refire leaves every ticket on the table (R74). -/
theorem State.refireLine_numbers (t : Ticket) (i : Nat) (l : Line) (st : StationId) (s : State) :
    (s.refireLine t i l st).tickets.map Ticket.number = s.tickets.map Ticket.number := by
  unfold State.refireLine
  dsimp only
  rw [(Quiet.consider _ _).ticket_numbers, State.countRefire_numbers, (Quiet.workOut _ _).ticket_numbers, State.createSlip_numbers,
    State.modLine_numbers]

section Owners

variable (p : PortId) (s : State)

theorem ownOpenService_owned (a : Unit) : Owned .openService p s (ownOpenService p a s) := by
  unfold ownOpenService
  split
  · exact .refuse s _
  · next hs =>
    split
    · exact .answer (.openService (not_not.mp hs)) _ _
    · exact .refuse s _

theorem ownCloseService_owned (a : Unit) : Owned .closeService p s (ownCloseService p a s) := by
  unfold ownCloseService
  split
  · exact .refuse s _
  · exact .answer (.nothing _) _ _
  · next hs => exact .answer (.closeService hs) _ _

theorem ownServiceReset_owned (a : Unit) : Owned .serviceReset p s (ownServiceReset p a s) := .answer .resetService _ _

theorem ownSetLimits_owned (n : Nat) : Owned .setLimits p s (ownSetLimits p n s) := by
  unfold ownSetLimits
  split
  · exact .refuse s _
  · next hs => exact .answer (.setLimits n (not_not.mp hs)) _ _

theorem ownStatus_owned (a : Unit) : Owned .status p s (ownStatus p a s) := .answer (.nothing _) _ _

theorem ownDefineWave_owned (a : WaveId × Sweep) : Owned .defineWave p s (ownDefineWave p a s) := by
  unfold ownDefineWave
  split
  · exact .refuse s _
  · next hs =>
    split
    · exact .refuse s _
    · next hw => exact .answer (.defineWave a.1 a.2 hs (not_not.mp hw)) _ _

theorem ownSealWave_owned (w : WaveId) : Owned .sealWave p s (ownSealWave p w s) := by
  unfold ownSealWave
  split
  · exact .refuse s _
  · exact .answer (.sealWave w) _ _

theorem ownHoldWave_owned (w : WaveId) : Owned .holdWave p s (ownHoldWave p w s) := by
  unfold ownHoldWave
  split
  · exact .refuse s _
  · exact .answer (.holdWave w) _ _

theorem ownReleaseWave_owned (w : WaveId) : Owned .releaseWave p s (ownReleaseWave p w s) := by
  unfold ownReleaseWave
  split
  · exact .refuse s _
  · split
    · exact .answer (.releaseWave w) _ _
    · exact .answer (.nothing _) _ _

/-- A delay of no slip ends at once (R29): the start time moved, and the reply. -/
theorem State.startDelay_of_empty {s : State} {w : WaveId} (h : s.delayList w = []) (p : PortId)
    (amount : Int) (clamped : Bool) :
    s.startDelay p w amount clamped =
      (s.delayWave w none (moveTime (s.wave w).sweep.start amount)).answer p .delayWave (clampStatus clamped)
        (.delay w (moveTime (s.wave w).sweep.start amount) amount 0 0 0) := by
  simp [State.startDelay, h, State.endDelay, State.delayWave, State.modWave, State.wave]

theorem State.startDelay_of_listed {s : State} {w : WaveId} (h : s.delayList w ≠ []) (p : PortId) (amount : Int) (clamped : Bool) :
    s.startDelay p w amount clamped =
      s.delayWave w (some ⟨amount, s.delayList w, p, clamped, 0, 0, 0⟩) (moveTime (s.wave w).sweep.start amount) := by
  simp [State.startDelay, h, State.delayWave, State.modWave, State.wave]

theorem ownDelayWave_owned (a : WaveId × Int) : Owned .delayWave p s (ownDelayWave p a s) := by
  unfold ownDelayWave
  extract_lets amount
  split
  · exact .refuse s _
  · next hw =>
    split
    · exact .refuse s _
    · next hd =>
      have hn : (s.wave a.1).delay = none := by simpa using hd
      split
      · exact .answer (.nothing _) _ _
      · by_cases hl : s.delayList a.1 = []
        · rw [State.startDelay_of_empty hl]
          exact .answer (.delayWave a.1 none _ hw hn fun _ h => nomatch h) _ _
        · rw [State.startDelay_of_listed hl]
          exact ⟨_, .delayWave a.1 _ _ hw hn fun e h => by cases h; rfl, .inr ⟨rfl, rfl, a.1, _, _, rfl, rfl, hl⟩⟩

theorem ownFireWave_owned (w : WaveId) : Owned .fireWave p s (ownFireWave p w s) := by
  unfold ownFireWave
  split
  · exact .refuse s _
  · split
    · exact .refuse s _
    · exact .answer (.fireWave w) _ _

theorem ownQueryWave_owned (w : WaveId) : Owned .queryWave p s (ownQueryWave p w s) := by
  unfold ownQueryWave
  split
  · exact .answer (.nothing _) _ _
  · split
    · exact .answer (.nothing _) _ _
    · exact .answer .queryWave _ _

theorem ownSetItem_owned (a : ItemParams) : Owned .setItem p s (ownSetItem p a s) := by
  unfold ownSetItem
  split
  · exact .refuse s _
  · next hs =>
    split
    · next e he => exact .answer (.replaceItem a e (not_not.mp hs) he) _ _
    · next he =>
      split
      · next i hi => exact .answer (.insertItem a i (not_not.mp hs) he hi) _ _
      · exact .refuse s _

theorem ownClearItem_owned (c : ItemCode) : Owned .clearItem p s (ownClearItem p c s) := by
  unfold ownClearItem
  split
  · exact .refuse s _
  · next hs =>
    split
    · next e _ => exact .answer (.clearItem e (not_not.mp hs)) _ _
    · exact .refuse s _

theorem ownClearMenu_owned (a : Unit) : Owned .clearMenu p s (ownClearMenu p a s) := by
  unfold ownClearMenu
  split
  · exact .refuse s _
  · next hs => exact .answer (.clearMenu (not_not.mp hs)) _ _

theorem ownQueryItem_owned (c : ItemCode) : Owned .queryItem p s (ownQueryItem p c s) := .answer (.nothing _) _ _

theorem ownSetDiversion_owned (a : DiversionId × Diversion) : Owned .setDiversion p s (ownSetDiversion p a s) := by
  unfold ownSetDiversion
  split
  · exact .refuse s _
  · next hs => exact .answer (.setDiversion a.1 a.2 (not_not.mp hs)) _ _

theorem ownQueryDiversion_owned (i : DiversionId) : Owned .queryDiversion p s (ownQueryDiversion p i s) := .answer (.nothing _) _ _

theorem ownMarkOut_owned (c : ItemCode) : Owned .markOut p s (ownMarkOut p c s) := by
  unfold ownMarkOut
  split
  · exact .answer (.nothing _) _ _
  · next hc => exact .answer (.markOut c (by simpa using hc)) _ _

theorem ownMarkIn_owned (c : ItemCode) : Owned .markIn p s (ownMarkIn p c s) := .answer (.markIn c) _ _

theorem ownSubmitTicket_owned (a : Submission) : Owned .submitTicket p s (ownSubmitTicket p a s) := by
  unfold ownSubmitTicket
  split
  · exact .answer (.nothing _) _ _
  · next ha =>
    have hentered : ((s.acceptTicket p a).ticket? s.nextTicket).isSome = true := by
      rw [State.ticket?_isSome, State.acceptTicket_numbers]; simp
    unfold State.submitReply
    split
    · exact .answer (.submitTicket a ha) _ _
    · next h => rw [h] at hentered; cases hentered

theorem ownVoidTicket_owned (n : Nat) : Owned .voidTicket p s (ownVoidTicket p n s) := by
  unfold ownVoidTicket
  split
  · exact .refuse s _
  · next t ht =>
    split
    · exact .refuse s _
    · split
      · exact .refuse s _
      · exact .answer (.voidTicket n t ht) _ _

theorem ownPickup_owned (n : Nat) : Owned .pickup p s (ownPickup p n s) := by
  unfold ownPickup
  split
  · exact .refuse s _
  · next t ht =>
    split
    · exact .refuse s _
    · next hu => exact .answer (.pickup n t ht (not_not.mp hu)) _ _

theorem ownRefire_owned (a : Nat × Nat) : Owned .refire p s (ownRefire p a s) := by
  unfold ownRefire
  split
  · exact .refuse s _
  · next t ht =>
    split
    · exact .refuse s _
    · next l hl =>
      split
      · exact .refuse s _
      · next hr =>
        split
        · exact .refuse s _
        · next hroom =>
          split
          · exact .refuse s _
          · next st hst =>
            have hlive : ((s.refireLine t a.2 l st).ticket? a.1).isSome = true := by
              rw [State.ticket?_isSome, State.refireLine_numbers, ← State.ticket?_isSome, ht]; rfl
            push Not at hroom
            unfold State.refireReply
            split
            · exact .answer (.refire a.1 a.2 t l st ht hl (by simpa using hr) hroom.1 hroom.2 hst) _ _
            · next h => rw [h] at hlive; cases hlive

theorem ownQueryTicket_owned (a : Nat × Nat) : Owned .queryTicket p s (ownQueryTicket p a s) := by
  unfold ownQueryTicket
  split
  · exact .refuse s _
  · exact .answer (.nothing _) _ _

theorem ownQuerySlip_owned (a : Nat × Nat) : Owned .querySlip p s (ownQuerySlip p a s) := by
  unfold ownQuerySlip
  split
  · exact .refuse s _
  · exact .answer (.nothing _) _ _

theorem ownSetStation_owned (a : StationId × StationConfig) : Owned .setStation p s (ownSetStation p a s) := by
  unfold ownSetStation
  dsimp only
  split
  · exact .refuse s _
  · next hs =>
    split
    · exact .refuse s _
    · exact .answer (.setStation a.1 a.2 (not_not.mp hs)) _ _

/-- What the shared checks of the station commands have found (R102, R103, R122, R132). -/
theorem State.checkStation_none {s : State} {p : PortId} {st : StationId} (h : s.checkStation p st = none) :
    s.service ≠ .closed ∧ (s.station st).state ≠ .unused ∧ ¬((s.port p).role = .station ∧ ¬s.isBound st p) := by
  unfold State.checkStation at h
  by_cases h1 : s.service = .closed
  · simp [h1] at h
  · by_cases h2 : (s.station st).state = .unused
    · simp [h1, h2] at h
    · by_cases h3 : (s.port p).role = .station ∧ ¬s.isBound st p
      · simp [h1, h2, h3] at h
      · exact ⟨h1, h2, h3⟩

theorem ownPauseStation_owned (st : StationId) : Owned .pauseStation p s (ownPauseStation p st s) := by
  unfold ownPauseStation
  split
  · exact .refuse s _
  · next hc =>
    obtain ⟨hs, hu, _⟩ := State.checkStation_none hc
    split
    · exact .refuse s _
    · exact .answer (.nothing _) _ _
    · next ho => exact .answer (.pauseStation st hs ho) _ _
    · next ho => exact absurd ho hu

theorem ownResumeStation_owned (st : StationId) : Owned .resumeStation p s (ownResumeStation p st s) := by
  unfold ownResumeStation
  split
  · exact .refuse s _
  · next hc =>
    obtain ⟨hs, hu, _⟩ := State.checkStation_none hc
    split
    · exact .refuse s _
    · exact .answer (.nothing _) _ _
    · next ho => exact .answer (.resumeStation st hs ho) _ _
    · next ho => exact absurd ho hu

theorem ownQueryStation_owned (st : StationId) : Owned .queryStation p s (ownQueryStation p st s) := .answer (.nothing _) _ _

theorem ownStationDown_owned (st : StationId) : Owned .stationDown p s (ownStationDown p st s) := by
  unfold ownStationDown
  split
  · exact .refuse s _
  · next hc =>
    obtain ⟨hs, hu, _⟩ := State.checkStation_none hc
    dsimp only
    split
    · exact .answer (.nothing _) _ _
    · next hd =>
      refine .answer (.stationDown st hs ?_) _ _
      rw [State.isRunning_iff]
      cases hst : (s.station st).state
      · exact absurd hst hu
      · exact .inl rfl
      · exact .inr rfl
      · exact absurd hst hd

theorem ownStationOpen_owned (st : StationId) : Owned .stationOpen p s (ownStationOpen p st s) := by
  unfold ownStationOpen
  split
  · exact .refuse s _
  · next hc =>
    obtain ⟨hs, hu, _⟩ := State.checkStation_none hc
    split
    · exact .refuse s _
    · exact .answer (.nothing _) _ _
    · next ho => exact .answer (.stationOpen st hs ho) _ _
    · next ho => exact absurd ho hu

theorem ownTake_owned (n : Nat) : Owned .take p s (ownTake p n s) := by
  unfold ownTake
  split
  · exact .refuse s _
  · next x hx =>
    split
    · exact .refuse s _
    · split
      · next t k hc => exact .answer (.take n x t k hx hc) _ _
      · exact .refuse s _
      · exact .refuse s _

theorem ownBump_owned (n : Nat) : Owned .bump p s (ownBump p n s) := by
  unfold ownBump
  split
  · exact .refuse s _
  · next x hx =>
    split
    · exact .refuse s _
    · split
      · next t k hc => exact .answer (.bump n x t hx (.inl ⟨k, hc⟩)) _ _
      · next t hc => exact .answer (.bump n x t hx (.inr hc)) _ _
      · exact .refuse s _

theorem ownForceBump_owned (n : Nat) : Owned .forceBump p s (ownForceBump p n s) := by
  unfold ownForceBump
  split
  · exact .refuse s _
  · next x hx => exact .answer (.forceBump n x hx) _ _

theorem ownSetPortMode_owned (a : Nat × Nat × Nat) : Owned .setPortMode p s (ownSetPortMode p a s) :=
  .answer (.portMode _ _ _) _ _

theorem ownPortRestart_owned (a : Unit) : Owned .portRestart p s (ownPortRestart p a s) := .answer .portRestart _ _

theorem ownList_owned (n : Nat) : Owned .list p s (ownList p n s) := .answer (.list (n != 0)) _ _

end Owners

/-! ## A frame at its port -/

/-- What a written frame of command `c` can do (R135 to R141): nothing, the collided flag, a refusal at the port, or its owner's event. -/
inductive Framed (c : Cmd) (p : PortId) (s : State) : State → Prop where
  | ignored : Framed c p s s
  | collision (h : (s.port p).slot ≠ .empty) : Framed c p s (s.modPort p fun u => u.endRead.collide)
  | counted (h : (s.port p).slot = .empty) (st : Status) : Framed c p s ((s.modPort p fun u => u.endRead.countError).refuse p c st)
  | muted (h : (s.port p).slot = .empty) (st : Status) : Framed c p s ((s.modPort p PortUnit.endRead).refuse p c st)
  | owned (h : (s.port p).slot = .empty) {t : State} (ho : Owned c p (s.handed c p) t) : Framed c p s t

/-- A frame's outcome from its owner's. -/
theorem State.frame_framed {α : Type} {c : Cmd} {owner : PortId → α → State → State} (parse : List Byte → Option α) (w : Written)
    (s : State) (ho : ∀ a p s, Owned c p s (owner p a s)) : Framed c w.port s (s.frame c parse owner w) := by
  unfold State.frame
  rcases (s.port w.port).check_spec c parse w with ⟨_, h⟩ | ⟨_, he, h⟩ | ⟨_, he, _, h⟩ | ⟨a, _, he, _, ⟨_, _, h⟩ | ⟨_, ⟨_, h⟩ | ⟨_, h⟩⟩⟩ <;>
    rw [h]
  · exact .ignored
  · exact .collision he
  · exact .counted he _
  · exact .muted he _
  · exact .owned he (ho a _ _)
  · exact .counted he _

/-- Every row that is a written frame runs the frame check with its parser and an owner whose outcome is one of its command's. -/
theorem exec_frame_owned {i : Instr} {c : Cmd} {w : Written} (h : i.frame? = some (c, w)) :
    ∃ (α : Type) (parse : List Byte → Option α) (owner : PortId → α → State → State),
      ((paramsOf w.body).bind parse).isSome = formed c w.body ∧ (∀ s, exec i s = .next (s.frame c parse owner w)) ∧
        ∀ a p s, Owned c p s (owner p a s) := by
  cases i <;> simp only [Instr.frame?, Option.some.injEq, Prod.mk.injEq, reduceCtorEq] at h <;> obtain ⟨rfl, rfl⟩ := h <;>
    refine ⟨_, _, _, by unfold formed; cases paramsOf _ <;> rfl, fun _ => rfl, ?_⟩
  case openService => exact fun a p s => ownOpenService_owned p s a
  case closeService => exact fun a p s => ownCloseService_owned p s a
  case serviceReset => exact fun a p s => ownServiceReset_owned p s a
  case setLimits => exact fun a p s => ownSetLimits_owned p s a
  case status => exact fun a p s => ownStatus_owned p s a
  case defineWave => exact fun a p s => ownDefineWave_owned p s a
  case sealWave => exact fun a p s => ownSealWave_owned p s a
  case holdWave => exact fun a p s => ownHoldWave_owned p s a
  case releaseWave => exact fun a p s => ownReleaseWave_owned p s a
  case delayWave => exact fun a p s => ownDelayWave_owned p s a
  case fireWave => exact fun a p s => ownFireWave_owned p s a
  case queryWave => exact fun a p s => ownQueryWave_owned p s a
  case setItem => exact fun a p s => ownSetItem_owned p s a
  case clearItem => exact fun a p s => ownClearItem_owned p s a
  case clearMenu => exact fun a p s => ownClearMenu_owned p s a
  case queryItem => exact fun a p s => ownQueryItem_owned p s a
  case setDiversion => exact fun a p s => ownSetDiversion_owned p s a
  case queryDiversion => exact fun a p s => ownQueryDiversion_owned p s a
  case markOut => exact fun a p s => ownMarkOut_owned p s a
  case markIn => exact fun a p s => ownMarkIn_owned p s a
  case submitTicket => exact fun a p s => ownSubmitTicket_owned p s a
  case voidTicket => exact fun a p s => ownVoidTicket_owned p s a
  case pickup => exact fun a p s => ownPickup_owned p s a
  case refire => exact fun a p s => ownRefire_owned p s a
  case queryTicket => exact fun a p s => ownQueryTicket_owned p s a
  case querySlip => exact fun a p s => ownQuerySlip_owned p s a
  case setStation => exact fun a p s => ownSetStation_owned p s a
  case pauseStation => exact fun a p s => ownPauseStation_owned p s a
  case resumeStation => exact fun a p s => ownResumeStation_owned p s a
  case queryStation => exact fun a p s => ownQueryStation_owned p s a
  case stationDown => exact fun a p s => ownStationDown_owned p s a
  case stationOpen => exact fun a p s => ownStationOpen_owned p s a
  case take => exact fun a p s => ownTake_owned p s a
  case bump => exact fun a p s => ownBump_owned p s a
  case forceBump => exact fun a p s => ownForceBump_owned p s a
  case setPortMode => exact fun a p s => ownSetPortMode_owned p s a
  case portRestart => exact fun a p s => ownPortRestart_owned p s a
  case list => exact fun a p s => ownList_owned p s a

/-- Every row that is a written frame does what a frame of its command can do. -/
theorem exec_framed {i : Instr} {c : Cmd} {w : Written} (h : i.frame? = some (c, w)) (s : State) :
    ∃ t, exec i s = .next t ∧ Framed c w.port s t := by
  obtain ⟨_, parse, _, _, hex, ho⟩ := exec_frame_owned h
  exact ⟨_, hex s, State.frame_framed parse w s ho⟩

/-! ## A step -/

/-- What a command or a cycle of REFCLK can do, one constructor per kind of event, with what it has found. -/
inductive Happens (s : State) : State → Prop where
  | nothing : Happens s s
  | frame (c : Cmd) (p : PortId) {t : State} (h : Framed c p s t) : Happens s t
  | collision (p : PortId) (h : (s.port p).slot ≠ .empty) : Happens s (s.modPort p fun u => u.endRead.collide)
  | unknown (p : PortId) (code : Byte) (h : (s.port p).slot = .empty) :
      Happens s ((s.modPort p fun u => u.endRead.countError).reply p ⟨code, .unknownCommand, .empty⟩)
  | powerOn (straps : Straps) : Happens s { State.powerOn straps s.pending with freeCount := s.freeCount }
  | resetPin (straps : Straps) : Happens s { State.powerOn straps s.pending with
      refireLimit := s.refireLimit
      menu := s.menu
      diversions := s.diversions
      stations := Vector.ofFn fun st => stationAtPin straps (s.station st)
      freeCount := s.freeCount }
  | second : Happens s s.secondExpires
  | stationSecond (st : StationId) (h : (s.station st).due ≠ 0) :
      Happens s ((s.modStation st fun u => { u with due := u.due - 1 }).secondAt st)
  | takeTimeout (n : Nat) (x : Slip) (hx : s.slip? n = some x) (hc : x.isCalled = true) : Happens s (s.timeoutSlip x)
  | reachEmpty (w : WaveId) (d : Delay) (hd : (s.wave w).delay = some d) (he : d.slips = []) : Happens s (s.endDelay w d)
  | reach (w : WaveId) (d : Delay) (e : Nat × Bool) (rest : List (Nat × Bool)) (hd : (s.wave w).delay = some d)
      (he : d.slips = e :: rest) {t : State}
      (ht : t = s.reachSlip w d e.1 e.2 rest ∨ ∃ d', ((s.reachSlip w d e.1 e.2 rest).wave w).delay = some d' ∧
        t = (s.reachSlip w d e.1 e.2 rest).endDelay w d') : Happens s t
  | evacuationMove (st b : StationId) (x : Slip) (rest : List Slip) (he : (s.station st).evacuating = true)
      (hb : (s.station st).config.backup = some b) (hq : s.queue st = x :: rest) : Happens s (s.moveSlip st b x)
  | startRead (p : PortId) : Happens s (s.modPort p (PortUnit.startRead s.inService))
  | deliver (p : PortId) : Happens s (s.modPort p PortUnit.deliver)
  | stretchExpires (p : PortId) : Happens s (s.modPort p (PortUnit.stretchExpires s.inService))
  | relativeExpires (p : PortId) : Happens s (s.modPort p PortUnit.relativeExpires)
  | absoluteExpires (p : PortId) : Happens s (s.modPort p PortUnit.absoluteExpires)
  | cycle : Happens s s.refclkCycle

theorem execUnknownCommand_happens {w : Written} {s t : State} (h : execUnknownCommand w s = .next t) : Happens s t := by
  unfold execUnknownCommand at h
  split at h
  · cases h; exact .nothing
  · split at h
    · cases h
    · cases h
      unfold State.unknownFrame
      split
      · exact .nothing
      · split
        · next hs => exact .collision _ hs
        · next hs => exact .unknown _ _ (not_not.mp hs)

theorem execDelayReach_happens {w : WaveId} {s t : State} (h : execDelayReach w s = .next t) : Happens s t := by
  unfold execDelayReach at h
  split at h
  · cases h; exact .nothing
  · next d hd =>
    cases hl : d.slips with
    | nil =>
      simp only [hl, hd] at h
      cases h
      exact .reachEmpty w d hd hl
    | cons e rest =>
      simp only [hl] at h
      refine .reach w d e rest hd hl ?_
      split at h
      · next d' hd' =>
        cases h
        split
        · exact .inr ⟨d', hd', rfl⟩
        · exact .inl rfl
      · cases h; exact .inl rfl

/-- A command that answers does one of the things said above. -/
theorem exec_happens {i : Instr} {s t : State} (h : exec i s = .next t) : Happens s t := by
  cases hf : i.frame? with
  | some cw =>
    obtain ⟨u, hu, hframed⟩ := exec_framed hf s
    rw [hu] at h
    cases h
    exact .frame _ _ hframed
  | none =>
    cases i <;> simp only [Instr.frame?, reduceCtorEq] at hf
    case unknownCommand w => exact execUnknownCommand_happens h
    case powerOnReset straps => cases h; exact .powerOn straps
    case resetPin straps => cases h; exact .resetPin straps
    case secondTimerExpiry => cases h; exact .second
    case stationSecondEvent st =>
      cases h
      split
      · exact .nothing
      · next hd => exact .stationSecond st hd
    case takeTimeout n =>
      cases h
      split
      · next x hx =>
        split
        · next hc => exact .takeTimeout n x hx hc
        · exact .nothing
      · exact .nothing
    case delayReach w => exact execDelayReach_happens h
    case evacuationMove st =>
      cases h
      split
      · next b x rest he hb hq => exact .evacuationMove st b x rest he hb hq
      · exact .nothing
    case readTransaction p a =>
      cases h
      split
      · exact .nothing
      · exact .startRead p
    case recordDelivery p => cases h; exact .deliver p
    case stretchTimerExpiry p => cases h; exact .stretchExpires p
    case relativeTimerExpiry p => cases h; exact .relativeExpires p
    case absoluteTimerExpiry p => cases h; exact .absoluteExpires p

/-- A step does one of the things said above, on the state without the command it takes from the queue. -/
theorem step_happens {s t : State} (h : step s = .next t) : ∃ rest, Happens { s with pending := rest } t := by
  unfold step at h
  split at h
  · next hp => cases h; exact ⟨s.pending, .cycle⟩
  · next rest _ => exact ⟨rest, exec_happens h⟩

end Sys2Proof.Machine
end

section
/-! SUPPORT. The port units (R137 to R148, R154, R160 to R164): what every deed leaves of a port, and that every step keeps it sound. -/

namespace Sys2Proof.Machine

/-! ## One port unit -/

section Unit

variable {u : PortUnit}

theorem PortUnit.Sound.assertLine (h : u.Sound) (hn : u.slot.isReady = true ∨ u.notices ≠ []) : u.assertLine.Sound where
  errors_le := h.errors_le
  muted_iff := h.muted_iff
  notices_le := h.notices_le
  held_busy := h.held_busy
  released_iff := by rcases hn with hn | hn <;> simp [PortUnit.assertLine, hn]
  waiting_iff := by simp [PortUnit.assertLine]

/-- A non-urgent copy leaves the line waiting or asserted (R162). -/
theorem PortUnit.waitLine_attention (v : PortUnit) : v.waitLine.attention ≠ .released := by
  cases ha : v.attention with
  | released =>
    by_cases hd : v.relDelay = 0 ∧ v.absDelay = 0
    · rw [PortUnit.waitLine_of_no_delay ha hd]; simp
    · rw [PortUnit.waitLine_of_delay ha hd]; simp
  | waiting => rw [PortUnit.waitLine_of_waiting ha]; simp [ha]
  | asserted => rw [PortUnit.waitLine_of_asserted ha]; simp [ha]

/-- The queue longer by a copy for which it has room. -/
theorem PortUnit.Sound.append (h : u.Sound) (n : Notice) : (u.append n).Sound := by
  rcases u.append_spec n with ⟨_, e⟩ | ⟨_, hl, ⟨_, e⟩ | ⟨_, e⟩⟩ | ⟨_, hl, e⟩ <;> rw [e]
  · exact h
  · exact ⟨h.errors_le, h.muted_iff, by simpa [Config.noticeCapacity] using hl, h.held_busy, by simp, by simp⟩
  · have hr := PortUnit.waitLine_attention { u with notices := u.notices ++ [n] }
    have hlen : (u.notices ++ [n]).length ≤ 24 := by simpa [Config.noticeCapacity] using hl
    rcases PortUnit.waitLine_spec { u with notices := u.notices ++ [n] } with k | k | ⟨ha, r, a, k, hrel, hwait⟩ <;> rw [k] at hr ⊢
    · exact ⟨h.errors_le, h.muted_iff, hlen, h.held_busy, by simpa using hr, h.waiting_iff⟩
    · exact ⟨h.errors_le, h.muted_iff, hlen, h.held_busy, by simp, by simp⟩
    · refine ⟨h.errors_le, h.muted_iff, hlen, h.held_busy, by simp, ?_⟩
      simp only [true_iff]
      cases hu : u.attention with
      | released => exact hrel hu
      | waiting => exact .inl (hwait hu)
      | asserted => exact absurd hu ha
  · exact PortUnit.Sound.assertLine ⟨h.errors_le, h.muted_iff, h.notices_le, h.held_busy, h.released_iff, h.waiting_iff⟩
      (.inr fun hn => by
        have : u.notices = [] := hn
        rw [this] at hl
        exact absurd hl (by decide))

theorem PortUnit.Sound.makeUp (h : u.Sound) (b : Bool) : (u.makeUp b).Sound :=
  ⟨h.errors_le, h.muted_iff, h.notices_le, nofun, h.released_iff, h.waiting_iff⟩

/-- A reply placed ends a read held for it, so nothing is held at a READY slot (R145). -/
theorem PortUnit.Sound.placeReply (h : u.Sound) (b : Bool) (r : Reply) : (u.placeReply b r).Sound := by
  rcases u.placeReply_spec b r with ⟨hs, e⟩ | ⟨_, e⟩ <;> rw [e]
  · exact ⟨h.errors_le, h.muted_iff, h.notices_le, by simp [hs], by simp [ReplySlot.isReady], by simp⟩
  · exact ⟨h.errors_le, h.muted_iff, h.notices_le, nofun, by simp [ReplySlot.isReady], by simp⟩

theorem PortReach.sound {v : PortUnit} (k : PortReach u v) (h : u.Sound) : v.Sound := by
  induction k with
  | refl => exact h
  | append n _ ih => exact ih.append n
  | reply b r _ ih => exact ih.placeReply b r

/-- Nothing is held at an EMPTY slot (R145). -/
theorem PortUnit.Sound.still (h : u.Sound) (he : u.slot = .empty) : u.stretch = none := by
  cases hs : u.stretch with
  | none => rfl
  | some n => have := (h.held_busy n hs).1; rw [he] at this; cases this

theorem PortUnit.Sound.endRead (h : u.Sound) : u.endRead.Sound :=
  ⟨h.errors_le, h.muted_iff, h.notices_le, fun n hn => ⟨(h.held_busy n hn).1, rfl, (h.held_busy n hn).2.2⟩, h.released_iff, h.waiting_iff⟩

theorem PortUnit.Sound.collide (h : u.Sound) : u.collide.Sound :=
  ⟨h.errors_le, h.muted_iff, h.notices_le, h.held_busy, h.released_iff, h.waiting_iff⟩

theorem PortUnit.Sound.countError (h : u.Sound) : u.countError.Sound where
  errors_le := by simp only [PortUnit.countError, Config.muteCount]; omega
  muted_iff := by
    have := h.errors_le
    have hm := h.muted_iff
    simp only [PortUnit.countError, Config.muteCount, Bool.or_eq_true, beq_iff_eq, hm]
    omega
  notices_le := h.notices_le
  held_busy := h.held_busy
  released_iff := h.released_iff
  waiting_iff := h.waiting_iff

theorem PortUnit.Sound.handOver (h : u.Sound) (he : u.slot = .empty) (c : Byte) : (u.handOver c).Sound where
  errors_le := by
    have := h.errors_le
    simp only [PortUnit.handOver]
    split <;> omega
  muted_iff := by
    have := h.errors_le
    have hm := h.muted_iff
    simp only [PortUnit.handOver]
    split
    · exact hm
    · next hn => rw [hm] at hn ⊢; omega
  notices_le := h.notices_le
  held_busy := by simp [PortUnit.handOver, h.still he]
  released_iff := by simpa [PortUnit.handOver, he, ReplySlot.isReady] using h.released_iff
  waiting_iff := h.waiting_iff

/-- The line released where nothing is left to read, at a port sound in all but that (R164). -/
theorem PortUnit.Sound.releaseIfDry (h1 : u.errors ≤ 16) (h2 : u.muted = true ↔ u.errors = 16) (h3 : u.notices.length ≤ 24)
    (h4 : ∀ n, u.stretch = some n → u.slot.isBusy = true ∧ u.reading = none ∧ n < Config.cyclesPerStretch)
    (h5 : u.slot.isReady = true ∨ u.notices ≠ [] → u.attention ≠ .released)
    (h6 : u.attention = .waiting ↔ u.relTimer.isSome = true ∨ u.absTimer.isSome = true) : u.releaseIfDry.Sound := by
  unfold PortUnit.releaseIfDry
  split
  · next h =>
    have h : u.slot.isReady = true ∨ u.notices ≠ [] := by simpa using h
    exact ⟨h1, h2, h3, h4, by have := h5 h; rcases h with h | h <;> simp [this, h], h6⟩
  · next h =>
    have h : u.slot.isReady = false ∧ u.notices = [] := by simpa using h
    exact ⟨h1, h2, h3, h4, by simp [h], by simp⟩

theorem PortUnit.Sound.startRead (h : u.Sound) (b : Bool) : (u.startRead b).Sound := by
  unfold PortUnit.startRead
  split
  · exact h
  · split
    · next hb =>
      refine ⟨h.errors_le, h.muted_iff, h.notices_le, fun n hn => ?_, h.released_iff, h.waiting_iff⟩
      cases hn
      simp only [Bool.and_eq_true] at hb
      exact ⟨hb.1, rfl, by decide⟩
    · exact h.makeUp b

/-- The record delivered is at its place still, or has been taken: the line is released where nothing is left (R146, R164). -/
theorem PortUnit.Sound.deliver (h : u.Sound) : u.deliver.Sound := by
  have still : ∀ r, u.reading = some r → u.stretch = none := fun r hr => by
    cases hs : u.stretch with
    | none => rfl
    | some n => rw [(h.held_busy n hs).2.1] at hr; cases hr
  unfold PortUnit.deliver
  split
  · next hr =>
    refine .releaseIfDry h.errors_le h.muted_iff h.notices_le (by simp [still _ hr]) (fun hn => ?_) h.waiting_iff
    simp only [ReplySlot.isReady, Bool.false_eq_true, false_or] at hn
    simp [h.released_iff, hn]
  · next hr =>
    refine .releaseIfDry h.errors_le h.muted_iff (by have := h.notices_le; simp; omega) (by simp [still _ hr]) (fun hn => ?_) h.waiting_iff
    rcases hn with hn | hn
    · simp [h.released_iff, hn]
    · have : u.notices ≠ [] := fun e => hn (by simp [e])
      simp [h.released_iff, this]
  all_goals exact h

theorem PortUnit.Sound.stretchExpires (h : u.Sound) (b : Bool) : (u.stretchExpires b).Sound := by
  unfold PortUnit.stretchExpires
  split
  · exact h.makeUp b
  · exact h

theorem PortUnit.Sound.stretchCycle (h : u.Sound) (b : Bool) : (u.stretchCycle b).Sound := by
  unfold PortUnit.stretchCycle
  split
  · next n hn =>
    split
    · next hl =>
      obtain ⟨hb, hr, _⟩ := h.held_busy n hn
      exact ⟨h.errors_le, h.muted_iff, h.notices_le, fun m hm => ⟨hb, hr, by cases hm; exact hl⟩, h.released_iff, h.waiting_iff⟩
    · exact h.stretchExpires b
  · exact h

/-- A line that waits has something to read (R162, R164). -/
theorem PortUnit.Sound.assert_waiting (h : u.Sound) (hw : u.attention = .waiting) : u.assertLine.Sound := by
  refine h.assertLine ?_
  have : u.attention ≠ .released := by simp [hw]
  rw [ne_eq, h.released_iff] at this
  by_contra hc
  push Not at hc
  exact this ⟨by simpa using hc.1, hc.2⟩

theorem PortUnit.Sound.relativeExpires (h : u.Sound) : u.relativeExpires.Sound := by
  unfold PortUnit.relativeExpires
  split
  · next hw => exact h.assert_waiting (by simp at hw; exact hw.1)
  · exact h

theorem PortUnit.Sound.absoluteExpires (h : u.Sound) : u.absoluteExpires.Sound := by
  unfold PortUnit.absoluteExpires
  split
  · next hw => exact h.assert_waiting (by simp at hw; exact hw.1)
  · exact h

theorem PortUnit.Sound.tenthTick (h : u.Sound) : u.tenthTick.Sound := by
  unfold PortUnit.tenthTick
  dsimp only
  split
  · next hw => exact h.assert_waiting (by simp at hw; exact hw.1)
  · exact ⟨h.errors_le, h.muted_iff, h.notices_le, h.held_busy, h.released_iff, by simpa using h.waiting_iff⟩

theorem PortUnit.Sound.abort (h : u.Sound) : u.abort.Sound := by
  unfold PortUnit.abort
  split
  · exact h.placeReply _ _
  · exact h
  · exact h

/-- A queue emptied with its overrun flag cleared (R11, R164). -/
theorem PortUnit.Sound.emptyQueue (h : u.Sound) : u.emptyQueue.Sound := by
  unfold PortUnit.emptyQueue
  refine .releaseIfDry h.errors_le h.muted_iff (by simp) (fun n hn => ?_) (fun hn => ?_) h.waiting_iff
  · obtain ⟨hb, hr, hl⟩ := h.held_busy n hn
    exact ⟨hb, by simp [hr], hl⟩
  · simp only [ne_eq, not_true_eq_false, or_false] at hn
    simp [h.released_iff, hn]

theorem portAtReset_sound (straps : Straps) (p : PortId) : (portAtReset straps p).Sound :=
  ⟨by simp [portAtReset], by simp [portAtReset], by simp [portAtReset], by simp [portAtReset],
    by simp [portAtReset, ReplySlot.isReady], by simp [portAtReset]⟩

end Unit

/-! ## The ports of the state -/

/-- The parts of the state that no work on the board and the stations changes: those it may change are blanked. -/
def State.base (s : State) : State :=
  { s.still with nextTicket := 1, ticketsExhausted := false, nextSlip := 1, slipsExhausted := false }

/-- From `s` to `t`, work on the board and the stations: the clock, the menu, the marks, the diversions, the limit and the queue of commands
as they were, station configurations kept, and ports only handed notices and replies. -/
structure State.Works (s t : State) : Prop where
  base : t.base = s.base
  ports : ∀ q, PortReach (s.port q) (t.port q)
  configs : ∀ st, (t.station st).config = (s.station st).config

theorem State.Works.refl (s : State) : s.Works s := ⟨rfl, fun _ => .refl _, fun _ => rfl⟩

theorem State.Works.trans {s t u : State} (h : s.Works t) (k : t.Works u) : s.Works u :=
  ⟨k.base.trans h.base, fun q => (h.ports q).trans (k.ports q), fun st => (k.configs st).trans (h.configs st)⟩

/-- Work that touches neither a port nor a station. -/
theorem State.Works.of_units {s t : State} (hb : t.base = s.base) (hp : t.ports = s.ports) (hs : t.stations = s.stations) : s.Works t :=
  ⟨hb, fun q => by rw [State.port, State.port, hp]; exact .refl _, fun st => by rw [State.station, State.station, hs]⟩

theorem Kept.works {s t : State} (h : Kept s t) : s.Works t where
  base := by
    have := h.still
    show ({ t.still with nextTicket := 1, ticketsExhausted := false, nextSlip := 1, slipsExhausted := false } : State) =
      { s.still with nextTicket := 1, ticketsExhausted := false, nextSlip := 1, slipsExhausted := false }
    rw [this]
  ports := h.ports
  configs := h.configs

theorem State.Works.clock {s t : State} (h : s.Works t) : t.clock = s.clock :=
  show t.base.clock = s.base.clock from congrArg _ h.base
theorem State.Works.menu {s t : State} (h : s.Works t) : t.menu = s.menu :=
  show t.base.menu = s.base.menu from congrArg _ h.base
theorem State.Works.outBoard {s t : State} (h : s.Works t) : t.outBoard = s.outBoard :=
  show t.base.outBoard = s.base.outBoard from congrArg _ h.base
theorem State.Works.diversions {s t : State} (h : s.Works t) : t.diversions = s.diversions :=
  show t.base.diversions = s.base.diversions from congrArg _ h.base
theorem State.Works.refireLimit {s t : State} (h : s.Works t) : t.refireLimit = s.refireLimit :=
  show t.base.refireLimit = s.base.refireLimit from congrArg _ h.base
theorem State.Works.tenthDivider {s t : State} (h : s.Works t) : t.tenthDivider = s.tenthDivider :=
  show t.base.tenthDivider = s.base.tenthDivider from congrArg _ h.base
theorem State.Works.freeCount {s t : State} (h : s.Works t) : t.freeCount = s.freeCount :=
  show t.base.freeCount = s.base.freeCount from congrArg _ h.base
theorem State.Works.pending {s t : State} (h : s.Works t) : t.pending = s.pending :=
  show t.base.pending = s.base.pending from congrArg _ h.base

theorem State.Works.isBound {s t : State} (h : s.Works t) (st : StationId) (q : PortId) : t.isBound st q = s.isBound st q := by
  rw [State.isBound, State.isBound, h.configs, (h.ports q).same.role]

theorem State.Works.watchers {s t : State} (h : s.Works t) (q : PortId) : t.watchers q = s.watchers q := by
  rw [State.watchers, State.watchers, (h.ports q).same.role]

theorem State.Works.watchersAnd {s t : State} (h : s.Works t) (o q : PortId) : t.watchersAnd o q = s.watchersAnd o q := by
  rw [State.watchersAnd, State.watchersAnd, h.watchers]

theorem State.Works.watchersOf {s t : State} (h : s.Works t) (st : StationId) (q : PortId) : t.watchersOf st q = s.watchersOf st q := by
  rw [State.watchersOf, State.watchersOf, h.watchers, h.isBound]

theorem State.Works.told {s t : State} (h : s.Works t) {q : PortId} {n : Notice} (hq : (s.port q).Told n) : (t.port q).Told n :=
  (h.ports q).told hq

/-- A notice posted in the course of work carries the clock at the event. -/
theorem State.Works.told_post {s t : State} (h : s.Works t) {r : PortId → Bool} {q : PortId} (hr : r q = true) (b : NoticeBody) :
    ((t.post r b).port q).Told ⟨s.clock, b⟩ := by
  rw [State.port_post, if_pos hr, h.clock]
  exact (PortUnit.toldLast_append _ _).told

theorem State.Works.createSlip (st : StationId) (c : ItemCode) (w : WaveId) (k : SlipClass) (fire : Nat) (m : Member) (s : State) :
    s.Works (s.createSlip st c w k fire m) := by
  unfold State.createSlip State.giveSlipNumber
  dsimp only
  split <;> exact .of_units rfl rfl rfl

/-- A slip rewritten, or a line, touches no port and no station. -/
theorem State.Works.modSlip (s : State) (n : Nat) (f : Slip → Slip) : s.Works (s.modSlip n f) := .of_units rfl rfl rfl
theorem State.Works.modLine (s : State) (n i : Nat) (f : Line → Line) : s.Works (s.modLine n i f) := .of_units rfl rfl rfl
theorem State.Works.modTicket (s : State) (n : Nat) (f : Ticket → Ticket) : s.Works (s.modTicket n f) := .of_units rfl rfl rfl
theorem State.Works.modWave (s : State) (w : WaveId) (f : Wave → Wave) : s.Works (s.modWave w f) := .of_units rfl rfl rfl
theorem State.Works.post (r : PortId → Bool) (b : NoticeBody) (s : State) : s.Works (s.post r b) := (Kept.post r b s).works

theorem State.Works.joinSlip (x : Slip) (fire : Nat) (m : Member) (s : State) : s.Works (s.joinSlip x fire m) := by
  unfold State.joinSlip State.postChanged
  dsimp only
  split
  · exact ((State.Works.modSlip s _ _).trans (.modLine _ _ _ _)).trans (.post _ _ _)
  · exact (State.Works.modSlip s _ _).trans (.modLine _ _ _ _)

theorem State.Works.readied (n i : Nat) (st : StationId) (late : Bool) (s : State) : s.Works (s.readied n i st late) := by
  unfold State.readied
  split
  · exact ((Kept.modLine s n i _).trans (.setLate n i _)).works
  · exact .modLine s n i _

theorem State.Works.placeLine (t : Ticket) (i : Nat) (l : Line) (s : State) : s.Works (s.placeLine t i l).1 := by
  cases h : s.route l.item l.modifiers with
  | none => rw [State.placeLine_of_no_route h]; exact .refl s
  | some st =>
    rw [State.placeLine_of_route h]
    dsimp only
    refine (State.Works.readied t.number i st (s.planned t l.item st).2 s).trans ?_
    split
    · exact .joinSlip _ _ _ _
    · exact .createSlip _ _ _ _ _ _ _

theorem State.Works.placeLines (t : Ticket) (ls : List Line) (i : Nat) (s : State) : s.Works (s.placeLines t i ls).1 := by
  induction ls generalizing i s with
  | nil => exact .refl s
  | cons l ls ih =>
    unfold State.placeLines
    split
    · exact ih _ _
    · exact (State.Works.placeLine t i l s).trans (ih _ _)

theorem State.Works.giveTicketNumber (s : State) : s.Works s.giveTicketNumber := by
  unfold State.giveTicketNumber
  split <;> exact .of_units rfl rfl rfl

theorem State.Works.acceptTicket (p : PortId) (a : Submission) (s : State) : s.Works (s.acceptTicket p a) := by
  unfold State.acceptTicket
  extract_lets t placed
  have hentered : s.Works { s with tickets := s.tickets ++ [t] } := .of_units rfl rfl rfl
  have hplaced : s.Works placed.1 := (hentered.trans (.giveTicketNumber _)).trans (.placeLines t t.lines 0 _)
  exact hplaced.trans ((Kept.considerAll _ _).trans (.workOut _ _)).works

theorem State.Works.countRefire (n i : Nat) (s : State) : s.Works (s.countRefire n i) := by
  unfold State.countRefire
  split
  · exact .refl s
  · dsimp only
    split
    · exact (State.Works.modTicket s _ _).trans (.post _ _ _)
    · exact .modTicket s _ _

theorem State.Works.refireLine (t : Ticket) (i : Nat) (l : Line) (st : StationId) (s : State) : s.Works (s.refireLine t i l st) := by
  unfold State.refireLine
  extract_lets s1
  have h1 : s.Works s1 := (State.Works.modLine s _ _ _).trans (.createSlip _ _ _ _ _ _ _)
  exact ((h1.trans (Kept.workOut _ _).works).trans (.countRefire _ _ _)).trans (Kept.consider _ _).works

theorem State.Works.removeMember (x : Slip) (n i : Nat) (s : State) : s.Works (s.removeMember x n i) := by
  unfold State.removeMember
  split
  · exact (Kept.emptySlip x s).works
  · dsimp only
    split
    · exact (State.Works.modSlip s _ _).trans (.post _ _ _)
    · exact .modSlip s _ _

theorem State.Works.foldl {α : Type} {f : State → α → State} (hf : ∀ (s : State) a, s.Works (f s a)) (l : List α) (s : State) :
    s.Works (l.foldl f s) := by
  induction l generalizing s with
  | nil => exact .refl s
  | cons a l ih => exact (hf s a).trans (ih _)

theorem State.Works.voidWaiting (n : Nat) (s : State) (i : Nat) : s.Works (s.voidWaiting n i) := by
  unfold State.voidWaiting
  split
  · split
    · dsimp only
      split
      · exact (State.Works.modLine _ n i _).trans (.removeMember _ n i _)
      · exact .modLine _ n i _
    all_goals exact .refl s
  · exact .refl s

theorem State.Works.shortTicket (c : ItemCode) (s : State) (t : Ticket) : s.Works (s.shortTicket c t) := by
  unfold State.shortTicket
  extract_lets s1 s2
  have h2 : s.Works s2 := (State.Works.foldl (State.Works.voidWaiting t.number) _ s).trans (.post _ _ _)
  split
  · split
    · exact h2.trans ((Kept.post _ _ _).trans (.leaveTable _ _)).works
    · exact h2.trans (Kept.workOut _ _).works
  · exact h2

theorem Voiding.line_works (n : Nat) (v : Voiding) (i : Nat) : v.state.Works (v.line n i).state := by
  unfold Voiding.line
  split
  · dsimp only
    split
    · split
      · exact (State.Works.modLine _ n i _).trans (.removeMember _ n i _)
      · exact .refl _
    · split
      · exact (State.Works.modLine _ n i _).trans (.removeMember _ n i _)
      · exact .refl _
    · split
      · exact (State.Works.modLine _ n i _).trans (.modSlip _ _ _)
      · exact .refl _
    all_goals exact .refl _
  · exact .refl _

theorem State.voidLines_works (t : Ticket) (s : State) : s.Works (s.voidLines t).state := by
  unfold State.voidLines
  have : ∀ (l : List Nat) (v : Voiding), v.state.Works (l.foldl (Voiding.line t.number) v).state := by
    intro l
    induction l with
    | nil => exact fun v => .refl _
    | cons i l ih => exact fun v => (v.line_works t.number i).trans (ih _)
  exact this _ ⟨s, 0, 0, 0, []⟩

theorem State.Works.voidTicket (t : Ticket) (s : State) : s.Works (s.voidTicket t) := by
  unfold State.voidTicket
  extract_lets v s'
  exact (State.voidLines_works t s).trans (((Kept.considerAll _ _).trans (.post _ _ _)).trans (.leaveTable _ _)).works

theorem Kept.refireTime (x : Slip) (fire : Nat) (s : State) : Kept s (s.refireTime x fire) := by
  unfold State.refireTime State.postChanged
  dsimp only
  split
  · refine .trans ?_ (.post _ _ _)
    exact .modSlip (fun _ h => h) fun _ _ _ _ h => h
  · exact .modSlip (fun _ h => h) fun _ _ _ _ h => h

theorem Kept.fireWave (w : WaveId) (s : State) : Kept s (s.fireWave w) :=
  (Kept.foldl (fun s' x => .refireTime x s.clock s') _ s).trans (.considerAll _ _)

theorem Kept.sealWave (w : WaveId) (s : State) : Kept s (s.sealWave w) := by
  unfold State.sealWave
  split
  · exact (Kept.modWave s w _).trans (.freeIfDone _ _)
  · exact .refl s

theorem State.Works.closeService (s : State) : s.Works s.closeService := by
  unfold State.closeService
  extract_lets s'
  have hsealed : s.Works s' := State.Works.foldl (fun s w => (Kept.sealWave w s).works) allWaves s
  clear_value s'
  have hdraining : s'.Works { s' with service := .draining } := .of_units rfl rfl rfl
  exact (hsealed.trans hdraining).trans ((Kept.post _ _ _).trans (.endIfDrained _)).works

/-- OPEN SERVICE at a port: its SERVICE notice, with the clock at 0 (R6). -/
theorem State.openService_port (s : State) (q : PortId) :
    s.openService.port q = (s.port q).append ⟨0, .service .opened .opened⟩ := by
  unfold State.openService
  dsimp only
  rw [State.port_post]
  rfl

theorem Kept.reachSlip (w : WaveId) (d : Delay) (n : Nat) (left : Bool) (rest : List (Nat × Bool)) (s : State) :
    Kept s (s.reachSlip w d n left rest) := by
  unfold State.reachSlip
  split
  · exact .modWave s w _
  · dsimp only
    split
    · exact (Kept.modWave s w _).trans (.consider _ _)
    · exact ((Kept.modWave s w _).trans (.refireTime _ _ _)).trans (.consider _ _)

theorem Kept.moveSlip (st b : StationId) (x : Slip) (s : State) : Kept s (s.moveSlip st b x) := by
  unfold State.moveSlip
  extract_lets s1 s2 s3
  have h1 : Kept s s1 := by
    unfold s1
    split
    · exact .post _ _ _
    · exact .refl s
  have h2 : Kept s1 s2 := by
    refine .trans ?_ (.modWave _ _ _)
    exact .modSlip (fun _ h => h) fun _ _ _ _ h => h
  have h3 : Kept s2 s3 := Kept.foldl (fun s (m : Member) => .modLine s m.ticket m.line _) x.members s2
  exact ((h1.trans h2).trans h3).trans ((Kept.consider b s3).trans (.finishEvacuation st _))

theorem Kept.reopen (st : StationId) (s : State) : Kept s (s.reopen st) := by
  unfold State.reopen
  extract_lets s1 s2
  have h1 : Kept s s1 := by
    unfold s1
    split
    · exact .endEvacuation st _ _ s
    · exact .refl s
  exact (((h1.trans (.modStation rfl)).trans (.modStation rfl)).trans (.post _ _ _)).trans (.consider st _)

theorem Kept.takeSlip (x : Slip) (t : Nat) (s : State) : Kept s (s.takeSlip x t) := by
  unfold State.takeSlip State.clearMissed
  refine .trans ?_ (.modStation rfl)
  refine .trans ?_ (.workOutAll _ _)
  refine .trans ?_ (.setMembers _ _ _)
  exact .modSlip (fun _ h => h) fun _ _ _ _ h => h

theorem Kept.bumpSlip (x : Slip) (t : Nat) (s : State) : Kept s (s.bumpSlip x t) := by
  unfold State.bumpSlip State.learn State.clearMissed
  exact (((Kept.modStation rfl).trans (.modStation rfl)).trans (.finishSlip x _)).trans (.consider _ _)

theorem Kept.forceSlip (x : Slip) (s : State) : Kept s (s.forceSlip x) := by
  unfold State.forceSlip State.clearMissed
  extract_lets s1 s2 s3
  have h2 : Kept s s2 := by
    unfold s2
    split
    · exact (Kept.modStation rfl).trans (.post _ _ _)
    · exact Kept.modStation rfl
  split
  · exact h2.trans (.finishSlip x _)
  · exact (h2.trans (.finishSlip x _)).trans (.consider _ _)

/-! ## The deeds at the ports -/

/-- SERVICE RESET at a port: commands in flight elsewhere aborted, the queue emptied, its SERVICE notice (R11). -/
theorem State.resetService_port (p : PortId) (s : State) (q : PortId) :
    (s.resetService p).port q = ((if q = p then s.port q else (s.port q).abort).emptyQueue).append ⟨0, .service .closed .reset⟩ := by
  unfold State.resetService
  rw [State.port_post, State.port_mapPorts]
  rfl

/-- A deed is work on the board and the stations, or writes settings of its own command. -/
theorem Deed.works {p : PortId} {s u : State} {c : Cmd} (h : Deed p s c u) :
    s.Works u ∨ c ∈ [.openService, .serviceReset, .setLimits, .queryWave, .setItem, .clearItem, .clearMenu, .setDiversion, .markOut, .markIn,
      .setStation, .setPortMode, .portRestart, .list] := by
  cases h with
  | nothing => exact .inl (.refl s)
  | closeService => exact .inl (.closeService s)
  | defineWave w => exact .inl (.modWave s w _)
  | sealWave w => exact .inl (Kept.sealWave w s).works
  | holdWave w => exact .inl (.modWave s w _)
  | releaseWave w => exact .inl ((Kept.modWave s w _).trans (.considerAll _ _)).works
  | delayWave w => exact .inl (.modWave s w _)
  | fireWave w => exact .inl (Kept.fireWave w s).works
  | submitTicket a => exact .inl (.acceptTicket p a s)
  | voidTicket n t => exact .inl (.voidTicket t s)
  | pickup n t => exact .inl (Kept.leaveTable t s).works
  | refire n i t l st => exact .inl (.refireLine t i l st s)
  | pauseStation st => exact .inl ((Kept.modStation rfl).trans (.post _ _ _)).works
  | resumeStation st => exact .inl (((Kept.modStation rfl).trans (.post _ _ _)).trans (.consider st _)).works
  | stationDown st => exact .inl (Kept.goDown st _ s).works
  | stationOpen st => exact .inl (Kept.reopen st s).works
  | take n x t k => exact .inl (Kept.takeSlip x t s).works
  | bump n x t => exact .inl (Kept.bumpSlip x t s).works
  | forceBump n x => exact .inl (Kept.forceSlip x s).works
  | _ => exact .inr (by decide)

/-- Every deed hands notices and replies to the ports alone, but SERVICE RESET and the port's own settings. -/
theorem Deed.ports {p : PortId} {s u : State} {c : Cmd} (h : Deed p s c u) :
    (∀ q, PortReach (s.port q) (u.port q)) ∨ (c = .serviceReset ∧ u = s.resetService p) ∨
      (∃ a b d, c = .setPortMode ∧ u = s.modPort p fun u => { u with stretchMode := a, relDelay := b, absDelay := d }) ∨
      (c = .portRestart ∧ u = s.modPort p fun u => { u with errors := 0, muted := false }) ∨
      ∃ b, c = .list ∧ u = s.modPort p fun u => { u with overrun := u.overrun && b } := by
  rcases h.works with hw | hc
  · exact .inl hw.ports
  · cases h with
    | openService => exact .inl fun q => by rw [State.openService_port]; exact (PortReach.refl _).append _
    | resetService => exact .inr (.inl ⟨rfl, rfl⟩)
    | markOut c =>
      have hmark : s.port = (s.setOutBoard (insertCode c s.outBoard)).port := rfl
      exact .inl (hmark ▸ (State.Works.foldl (State.Works.shortTicket c) _ (s.setOutBoard (insertCode c s.outBoard))).ports)
    | portMode a b d => exact .inr (.inr (.inl ⟨a, b, d, rfl, rfl⟩))
    | portRestart => exact .inr (.inr (.inr (.inl ⟨rfl, rfl⟩)))
    | list b => exact .inr (.inr (.inr (.inr ⟨b, rfl, rfl⟩)))
    | setLimits | queryWave | replaceItem | insertItem | clearItem | clearMenu | setDiversion | markIn | setStation | nothing =>
      exact .inl fun _ => .refl _
    | _ => simp at hc

theorem State.PortsSound.modPort {s : State} (h : s.PortsSound) {p : PortId} {f : PortUnit → PortUnit} (hf : (f (s.port p)).Sound) :
    (s.modPort p f).PortsSound := fun q => by
  rw [State.port_modPort]
  split
  · exact hf
  · exact h q

theorem State.PortsSound.reach {s t : State} (h : s.PortsSound) (k : ∀ q, PortReach (s.port q) (t.port q)) : t.PortsSound :=
  fun q => (k q).sound (h q)

theorem Deed.portsSound {p : PortId} {s u : State} {c : Cmd} (k : Deed p s c u) (h : s.PortsSound) : u.PortsSound := by
  rcases k.ports with k | ⟨_, rfl⟩ | ⟨a, b, d, _, rfl⟩ | ⟨_, rfl⟩ | ⟨b, _, rfl⟩
  · exact h.reach k
  · intro q
    rw [State.resetService_port]
    refine PortUnit.Sound.append (PortUnit.Sound.emptyQueue ?_) _
    split
    · exact h q
    · exact (h q).abort
  · exact h.modPort ⟨(h p).errors_le, (h p).muted_iff, (h p).notices_le, (h p).held_busy, (h p).released_iff, (h p).waiting_iff⟩
  · exact h.modPort ⟨by simp, by simp, (h p).notices_le, (h p).held_busy, (h p).released_iff, (h p).waiting_iff⟩
  · exact h.modPort ⟨(h p).errors_le, (h p).muted_iff, (h p).notices_le, (h p).held_busy, (h p).released_iff, (h p).waiting_iff⟩

theorem Framed.portsSound {c : Cmd} {p : PortId} {s t : State} (k : Framed c p s t) (h : s.PortsSound) : t.PortsSound := by
  cases k with
  | ignored => exact h
  | collision => exact h.modPort (h p).endRead.collide
  | counted => exact (h.modPort (h p).endRead.countError).reach (Kept.answer _ _ _ _ _).ports
  | muted => exact (h.modPort (h p).endRead).reach (Kept.answer _ _ _ _ _).ports
  | owned he ho =>
    obtain ⟨u, hu, hout⟩ := ho
    have hsound : u.PortsSound := hu.portsSound (h.modPort ((h p).endRead.handOver he _))
    rcases hout with ⟨st, d, rfl⟩ | ⟨_, rfl, _⟩
    · exact hsound.reach (Kept.answer _ _ _ _ _).ports
    · exact hsound

theorem State.PortsSound.refclkCycle {s : State} (h : s.PortsSound) : s.refclkCycle.PortsSound := by
  have hs : (s.mapPorts fun _ u => u.stretchCycle s.inService).secondCycle.PortsSound := fun q => by
    have : (s.mapPorts fun _ u => u.stretchCycle s.inService).secondCycle.port q = (s.port q).stretchCycle s.inService := by
      rw [← State.port_mapPorts (fun _ u => u.stretchCycle s.inService)]
      unfold State.secondCycle State.secondExpires
      split
      · split
        · rfl
        · split <;> rfl
      · rfl
    rw [this]
    exact (h q).stretchCycle _
  unfold State.refclkCycle State.tenthCycle
  intro q
  split
  · exact hs q
  · rw [State.port_mapPorts]
    exact (hs q).tenthTick

/-- What happens in a step keeps every port unit sound. -/
theorem Happens.portsSound {s t : State} (k : Happens s t) (h : s.PortsSound) : t.PortsSound := by
  cases k with
  | nothing => exact h
  | frame c p k => exact k.portsSound h
  | collision p => exact h.modPort (h p).endRead.collide
  | unknown p => exact (h.modPort (h p).endRead.countError).reach (Kept.reply _ _ _).ports
  | powerOn straps | resetPin straps => exact fun q => by simpa [State.port, State.powerOn] using portAtReset_sound straps q
  | second =>
    unfold State.secondExpires
    split <;> exact h
  | stationSecond st => exact h.reach ((Kept.modStation rfl).trans (.secondAt st _)).ports
  | takeTimeout n x => exact h.reach (Kept.timeoutSlip x s).ports
  | reachEmpty w d => exact h.reach (Kept.endDelay w d s).ports
  | reach w d e rest _ _ ht =>
    have hr := h.reach (Kept.reachSlip w d e.1 e.2 rest s).ports
    rcases ht with rfl | ⟨d', _, rfl⟩
    · exact hr
    · exact hr.reach (Kept.endDelay w d' _).ports
  | evacuationMove st b x => exact h.reach (Kept.moveSlip st b x s).ports
  | startRead p => exact h.modPort ((h p).startRead _)
  | deliver p => exact h.modPort (h p).deliver
  | stretchExpires p => exact h.modPort ((h p).stretchExpires _)
  | relativeExpires p => exact h.modPort (h p).relativeExpires
  | absoluteExpires p => exact h.modPort (h p).absoluteExpires
  | cycle => exact h.refclkCycle

/-- Settles O5: each thing that happens at a port keeps it sound, and a step does nothing else to it. -/
theorem stepKeepsPortsSound : Obligations.StepKeepsPortsSound := by
  intro s t h hstep
  obtain ⟨rest, k⟩ := step_happens hstep
  exact k.portsSound h

end Sys2Proof.Machine
end

section
/-! SUPPORT. The queue of commands, which only a step takes from (assumption 1), and the menu and the out board (R33, R34, R36, R37, R39). -/

namespace Sys2Proof.Machine

/-- Settles O1: it is how a step is defined at a queue that is not empty. -/
theorem frontCommandRuns : Obligations.FrontCommandRuns := by
  intro c rest s h
  rw [step, h]

/-! ## The queue of commands -/

theorem Deed.pending {p : PortId} {s u : State} {c : Cmd} (h : Deed p s c u) : u.pending = s.pending := by
  rcases h.works with hw | hc
  · exact hw.pending
  · cases h with
    | markOut c => exact (State.Works.foldl (State.Works.shortTicket c) _ (s.setOutBoard (insertCode c s.outBoard))).pending
    | openService | resetService | setLimits | queryWave | replaceItem | insertItem | clearItem | clearMenu | setDiversion | markIn
    | setStation | portMode | portRestart | list | nothing => rfl
    | _ => simp at hc

theorem Framed.pending {c : Cmd} {p : PortId} {s t : State} (h : Framed c p s t) : t.pending = s.pending := by
  cases h with
  | owned _ ho =>
    obtain ⟨u, hu, ⟨st, d, rfl⟩ | ⟨_, rfl, _⟩⟩ := ho
    · exact hu.pending
    · exact hu.pending
  | _ => rfl

theorem State.refclkCycle_pending (s : State) : s.refclkCycle.pending = s.pending := by
  unfold State.refclkCycle State.tenthCycle State.secondCycle State.secondExpires
  repeat' split
  all_goals rfl

/-- Nothing that happens in a step takes a command from the queue, or puts one there. -/
theorem Happens.pending {s t : State} (h : Happens s t) : t.pending = s.pending := by
  cases h with
  | frame c p k => exact k.pending
  | second => unfold State.secondExpires; split <;> rfl
  | stationSecond st => exact ((Kept.modStation rfl).trans (.secondAt st _)).works.pending
  | takeTimeout n x => exact (Kept.timeoutSlip x s).works.pending
  | reachEmpty w d => exact (Kept.endDelay w d s).works.pending
  | reach w d e rest _ _ ht =>
    have hr := (Kept.reachSlip w d e.1 e.2 rest s).works.pending
    rcases ht with rfl | ⟨d', _, rfl⟩
    · exact hr
    · exact (Kept.endDelay w d' _).works.pending.trans hr
  | evacuationMove st b x => exact (Kept.moveSlip st b x s).works.pending
  | cycle => exact s.refclkCycle_pending
  | _ => rfl

/-- Every command that can reach the part has a next state: only a code of the command table given to the row UNKNOWN_COMMAND has none. -/
theorem exec_next {i : Instr} (h : i.wellFormed = true) (s : State) : ∃ t, exec i s = .next t := by
  cases hf : i.frame? with
  | some cw => exact (exec_framed hf s).imp fun _ => And.left
  | none =>
    cases i <;> simp only [Instr.frame?, reduceCtorEq] at hf
    case unknownCommand w =>
      simp only [exec, execUnknownCommand]
      cases hb : w.body with
      | nil => exact ⟨_, rfl⟩
      | cons code body =>
        have : (Cmd.ofCode code).isSome = false := by simpa [Instr.wellFormed, unknownCode, hb] using h
        simp only [this, Bool.false_eq_true, if_false]
        exact ⟨_, rfl⟩
    case delayReach w =>
      simp only [exec, execDelayReach]
      split
      · exact ⟨_, rfl⟩
      · split <;> exact ⟨_, rfl⟩
    all_goals exact ⟨_, rfl⟩

/-- Settles O11: a next state for every command, and no event touches the queue. -/
theorem everyCommandAnswers : Obligations.EveryCommandAnswers := by
  intro c s h
  obtain ⟨t, ht⟩ := exec_next h s
  exact ⟨t, ht, (exec_happens ht).pending⟩

/-! ## The menu table and the out board -/

theorem insertEntry_mem (e : MenuEntry) (l : List MenuEntry) (f : MenuEntry) : f ∈ insertEntry e l ↔ f = e ∨ f ∈ l := by
  induction l with
  | nil => simp [insertEntry]
  | cons g gs ih =>
    unfold insertEntry
    split
    · simp
    · simp only [List.mem_cons, ih]; tauto

theorem insertEntry_indexes {e : MenuEntry} {l : List MenuEntry} (h : l.Pairwise fun a b => a.index < b.index)
    (hne : ∀ f ∈ l, f.index ≠ e.index) : (insertEntry e l).Pairwise fun a b => a.index < b.index := by
  induction l with
  | nil => simp [insertEntry]
  | cons g gs ih =>
    obtain ⟨hg, hgs⟩ := List.pairwise_cons.mp h
    have hne' := hne g (by simp)
    unfold insertEntry
    split
    · next hlt =>
      refine List.pairwise_cons.mpr ⟨fun f hf => ?_, h⟩
      rcases List.mem_cons.mp hf with rfl | hf
      · exact hlt
      · exact hlt.trans (hg f hf)
    · refine List.pairwise_cons.mpr ⟨fun f hf => ?_, ih hgs fun f hf => hne f (by simp [hf])⟩
      rcases (insertEntry_mem e gs f).mp hf with rfl | hf
      · omega
      · exact hg f hf

theorem insertEntry_items {e : MenuEntry} {l : List MenuEntry} (h : l.Pairwise fun a b => a.item ≠ b.item)
    (hne : ∀ f ∈ l, f.item ≠ e.item) : (insertEntry e l).Pairwise fun a b => a.item ≠ b.item := by
  induction l with
  | nil => simp [insertEntry]
  | cons g gs ih =>
    obtain ⟨hg, hgs⟩ := List.pairwise_cons.mp h
    unfold insertEntry
    split
    · exact List.pairwise_cons.mpr ⟨fun f hf => (hne f hf).symm, h⟩
    · refine List.pairwise_cons.mpr ⟨fun f hf => ?_, ih hgs fun f hf => hne f (by simp [hf])⟩
      rcases (insertEntry_mem e gs f).mp hf with rfl | hf
      · exact hne g (by simp)
      · exact hg f hf

theorem insertCode_mem (c : ItemCode) (l : List ItemCode) (d : ItemCode) : d ∈ insertCode c l ↔ d = c ∨ d ∈ l := by
  induction l with
  | nil => simp [insertCode]
  | cons g gs ih =>
    unfold insertCode
    split
    · simp
    · simp only [List.mem_cons, ih]; tauto

theorem insertCode_rises {c : ItemCode} {l : List ItemCode} (h : l.Pairwise fun a b => a.toNat < b.toNat) (hne : c ∉ l) :
    (insertCode c l).Pairwise fun a b => a.toNat < b.toNat := by
  induction l with
  | nil => simp [insertCode]
  | cons g gs ih =>
    obtain ⟨hg, hgs⟩ := List.pairwise_cons.mp h
    have hgc : c.toNat ≠ g.toNat := fun e => hne (by simp [BitVec.toNat_inj.mp e])
    unfold insertCode
    split
    · next hlt =>
      refine List.pairwise_cons.mpr ⟨fun f hf => ?_, h⟩
      rcases List.mem_cons.mp hf with rfl | hf
      · exact hlt
      · exact hlt.trans (hg f hf)
    · refine List.pairwise_cons.mpr ⟨fun f hf => ?_, ih hgs fun hc => hne (by simp [hc])⟩
      rcases (insertCode_mem c gs f).mp hf with rfl | hf
      · omega
      · exact hg f hf

/-- The entry found for an item is one of the table and of that item (R33). -/
theorem State.entry?_eq_some {s : State} {c : ItemCode} {e : MenuEntry} (h : s.entry? c = some e) : e ∈ s.menu ∧ e.item = c :=
  ⟨List.mem_of_find?_eq_some h, by simpa using List.find?_some h⟩

theorem State.entry?_eq_none {s : State} {c : ItemCode} : s.entry? c = none ↔ ∀ e ∈ s.menu, e.item ≠ c := by
  simp [State.entry?]

/-- In a sound menu an item's entry is the only one (R33). -/
theorem State.MenuSound.unique {s : State} (h : s.MenuSound) {e f : MenuEntry} (he : e ∈ s.menu) (hf : f ∈ s.menu)
    (hi : f.item = e.item ∨ f.index = e.index) : f = e := by
  by_contra hne
  rcases List.mem_iff_getElem.mp he with ⟨i, hil, rfl⟩
  rcases List.mem_iff_getElem.mp hf with ⟨j, hjl, rfl⟩
  have hij : i ≠ j := fun e => hne (by subst e; rfl)
  rcases lt_or_gt_of_ne hij with hlt | hlt
  · have h1 := List.pairwise_iff_getElem.mp h.items i j hil hjl hlt
    have h2 := List.pairwise_iff_getElem.mp h.indexes i j hil hjl hlt
    rcases hi with hi | hi
    · exact h1 hi.symm
    · omega
  · have h1 := List.pairwise_iff_getElem.mp h.items j i hjl hil hlt
    have h2 := List.pairwise_iff_getElem.mp h.indexes j i hjl hil hlt
    rcases hi with hi | hi
    · exact h1 hi
    · omega

theorem State.MenuSound.congr {s t : State} (h : s.MenuSound) (hm : t.menu = s.menu) (ho : t.outBoard = s.outBoard) : t.MenuSound :=
  ⟨by rw [hm]; exact h.indexes, by rw [hm]; exact h.inTable, by rw [hm]; exact h.items, by rw [ho]; exact h.marks⟩

theorem State.freeEntry?_eq_some {s : State} {i : Nat} (h : s.freeEntry? = some i) : i < 256 ∧ ∀ e ∈ s.menu, e.index ≠ i := by
  have hm := List.mem_of_find?_eq_some h
  have hf := List.find?_some h
  exact ⟨by simpa [Config.menuCapacity] using hm, by simpa using hf⟩

/-- An entry rewritten in place keeps its index and its item (R34). -/
theorem State.MenuSound.replace {s : State} (h : s.MenuSound) {a : ItemParams} {e : MenuEntry} (he : s.entry? a.item = some e) :
    (s.setMenu (s.menu.map fun f => if f.index = e.index then storedEntry e.index a else f)).MenuSound := by
  obtain ⟨hmem, hitem⟩ := State.entry?_eq_some he
  have hsame : ∀ f ∈ s.menu, (if f.index = e.index then storedEntry e.index a else f).index = f.index ∧
      (if f.index = e.index then storedEntry e.index a else f).item = f.item := fun f hf => by
    split
    · next hi => rw [h.unique hmem hf (.inr hi)]; exact ⟨rfl, hitem.symm⟩
    · exact ⟨rfl, rfl⟩
  refine ⟨?_, ?_, ?_, h.marks⟩
  · refine List.pairwise_map.mpr (h.indexes.imp_of_mem fun hf hg hlt => ?_)
    rw [(hsame _ hf).1, (hsame _ hg).1]; exact hlt
  · intro g hg
    obtain ⟨f, hf, rfl⟩ := List.mem_map.mp hg
    rw [(hsame f hf).1]; exact h.inTable f hf
  · refine List.pairwise_map.mpr (h.items.imp_of_mem fun hf hg hne => ?_)
    rw [(hsame _ hf).2, (hsame _ hg).2]; exact hne

/-- A new entry takes a free index, for an item that had none (R34). -/
theorem State.MenuSound.insert {s : State} (h : s.MenuSound) {a : ItemParams} {i : Nat} (he : s.entry? a.item = none)
    (hi : s.freeEntry? = some i) : (s.setMenu (insertEntry (storedEntry i a) s.menu)).MenuSound := by
  obtain ⟨hlt, hfree⟩ := State.freeEntry?_eq_some hi
  refine ⟨insertEntry_indexes h.indexes hfree, fun f hf => ?_, insertEntry_items h.items (State.entry?_eq_none.mp he), h.marks⟩
  rcases (insertEntry_mem _ _ f).mp hf with rfl | hf
  · exact hlt
  · exact h.inTable f hf

theorem State.MenuSound.filterMenu {s : State} (h : s.MenuSound) (f : MenuEntry → Bool) : (s.setMenu (s.menu.filter f)).MenuSound :=
  ⟨h.indexes.filter _, fun e he => h.inTable e (List.mem_of_mem_filter he), h.items.filter _, h.marks⟩

theorem Deed.menuSound {p : PortId} {s u : State} {c : Cmd} (k : Deed p s c u) (h : s.MenuSound) : u.MenuSound := by
  rcases k.works with hw | hc
  · exact h.congr hw.menu hw.outBoard
  · cases k with
    | resetService => exact ⟨h.indexes, h.inTable, h.items, .nil⟩
    | replaceItem a e _ he => exact h.replace he
    | insertItem a i _ he hi => exact h.insert he hi
    | clearItem e => exact h.filterMenu _
    | clearMenu => exact ⟨.nil, nofun, .nil, h.marks⟩
    | markOut c hn =>
      have hmark : (s.setOutBoard (insertCode c s.outBoard)).MenuSound :=
        ⟨h.indexes, h.inTable, h.items, insertCode_rises h.marks (by simpa [State.isOut] using hn)⟩
      have hw := State.Works.foldl (State.Works.shortTicket c) (if s.inService then s.ticketsHit c else [])
        (s.setOutBoard (insertCode c s.outBoard))
      exact hmark.congr hw.menu hw.outBoard
    | markIn c => exact ⟨h.indexes, h.inTable, h.items, h.marks.filter _⟩
    | openService | setLimits | queryWave | setDiversion | setStation | portMode | portRestart | list | nothing => exact h.congr rfl rfl
    | _ => simp at hc

theorem Framed.menuSound {c : Cmd} {p : PortId} {s t : State} (k : Framed c p s t) (h : s.MenuSound) : t.MenuSound := by
  cases k with
  | owned _ ho =>
    obtain ⟨u, hu, ⟨st, d, rfl⟩ | ⟨_, rfl, _⟩⟩ := ho
    · exact (hu.menuSound (h.congr rfl rfl)).congr rfl rfl
    · exact hu.menuSound (h.congr rfl rfl)
  | _ => exact h.congr rfl rfl

theorem State.refclkCycle_menu (s : State) : s.refclkCycle.menu = s.menu ∧ s.refclkCycle.outBoard = s.outBoard := by
  unfold State.refclkCycle State.tenthCycle State.secondCycle State.secondExpires
  repeat' split
  all_goals exact ⟨rfl, rfl⟩

theorem Happens.menuSound {s t : State} (k : Happens s t) (h : s.MenuSound) : t.MenuSound := by
  cases k with
  | frame c p k => exact k.menuSound h
  | powerOn => exact ⟨.nil, nofun, .nil, .nil⟩
  | resetPin => exact ⟨h.indexes, h.inTable, h.items, .nil⟩
  | second => unfold State.secondExpires; split <;> exact h.congr rfl rfl
  | stationSecond st =>
    have hw := (((Kept.modStation rfl).trans (.secondAt st _)) :
      Kept s ((s.modStation st fun u => { u with due := u.due - 1 }).secondAt st)).works
    exact h.congr hw.menu hw.outBoard
  | takeTimeout n x => exact h.congr (Kept.timeoutSlip x s).works.menu (Kept.timeoutSlip x s).works.outBoard
  | reachEmpty w d => exact h.congr rfl rfl
  | reach w d e rest _ _ ht =>
    have hr := (Kept.reachSlip w d e.1 e.2 rest s).works
    rcases ht with rfl | ⟨d', _, rfl⟩
    · exact h.congr hr.menu hr.outBoard
    · exact (h.congr hr.menu hr.outBoard).congr rfl rfl
  | evacuationMove st b x => exact h.congr (Kept.moveSlip st b x s).works.menu (Kept.moveSlip st b x s).works.outBoard
  | cycle => exact h.congr s.refclkCycle_menu.1 s.refclkCycle_menu.2
  | _ => exact h.congr rfl rfl

/-- Settles O6: SET ITEM, CLEAR ITEM, CLEAR MENU, MARK OUT, MARK IN and the resets keep the tables sound; nothing else writes them. -/
theorem stepKeepsMenuSound : Obligations.StepKeepsMenuSound := by
  intro s t h hstep
  obtain ⟨rest, k⟩ := step_happens hstep
  exact k.menuSound (h.congr rfl rfl)

end Sys2Proof.Machine
end

section
/-! SUPPORT. The part after reset, an idle step, and the two resets. -/

namespace Sys2Proof.Machine

/-- The port units of a part as power-on leaves it. -/
theorem State.powerOn_port (straps : Straps) (pending : List Instr) (p : PortId) :
    (State.powerOn straps pending).port p = portAtReset straps p := by
  simp [State.port, State.powerOn]

/-- Settles O4: every port as reset leaves one, and the other invariants by their checks on the one state. -/
theorem resetIsSound : Obligations.ResetIsSound :=
  ⟨fun p => State.powerOn_port strapsAtReset [] p ▸ portAtReset_sound strapsAtReset p, ⟨.nil, nofun, .nil, .nil⟩,
    Tests.records_of (by decide +kernel), Tests.stations_of (by decide +kernel), Tests.waves_of (by decide +kernel),
    Tests.members_of (by decide +kernel)⟩

/-! ## An idle step -/

/-- A port's stretch timer over a cycle, case by case (R145). -/
theorem PortUnit.stretchCycle_cases (b : Bool) (u : PortUnit) (h : u.stretch ≠ none → u.slot.isBusy = true) :
    (u.stretch = none → u.stretchCycle b = u) ∧
    (∀ n, u.stretch = some n → n + 1 < 100000 → u.stretchCycle b = { u with stretch := some (n + 1) }) ∧
    (∀ n, u.stretch = some n → 100000 ≤ n + 1 → u.stretchCycle b = { u with
      stretch := none
      reading := some ⟨packByte false true u.collided u.overrun u.muted (decide (u.notices ≠ [])) b false, .nothing, false⟩
      collided := false }) := by
  refine ⟨fun hn => ?_, fun n hn hl => ?_, fun n hn hl => ?_⟩
  · simp [PortUnit.stretchCycle, hn]
  · simp [PortUnit.stretchCycle, hn, Config.cyclesPerStretch, hl]
  · have hb := h (by simp [hn])
    have hnot : ¬n + 1 < 100000 := by omega
    cases hs : u.slot with
    | busy code =>
      have he : (!u.notices.isEmpty) = decide (u.notices ≠ []) := by cases u.notices <;> rfl
      simp [PortUnit.stretchCycle, hn, Config.cyclesPerStretch, hnot, PortUnit.stretchExpires, PortUnit.makeUp, PortUnit.statusByte,
        PortUnit.chooseRecord, hs, ReplySlot.isReady, ReplySlot.isBusy, he]
    | empty | ready r => simp [hs, ReplySlot.isBusy] at hb

/-- A timer of at most one tenth left has run out at the next tick. -/
theorem timer_runs_out (t : Option Nat) : (t.map fun n => n - 1) = some 0 ↔ ∃ n, n ≤ 1 ∧ t = some n := by
  cases t with
  | none => simp
  | some k => simp; omega

/-- A tenth tick at a port, case by case (R160, R163). -/
theorem PortUnit.tenthTick_cases (u : PortUnit) :
    (u.attention = .waiting → (∃ n, n ≤ 1 ∧ (u.relTimer = some n ∨ u.absTimer = some n)) →
      u.tenthTick = { u with attention := .asserted, relTimer := none, absTimer := none }) ∧
    (¬(u.attention = .waiting ∧ ∃ n, n ≤ 1 ∧ (u.relTimer = some n ∨ u.absTimer = some n)) →
      u.tenthTick = { u with relTimer := u.relTimer.map fun n => n - 1, absTimer := u.absTimer.map fun n => n - 1 }) := by
  have key : (u.attention == .waiting && ((u.relTimer.map fun n => n - 1) == some 0 || (u.absTimer.map fun n => n - 1) == some 0)) = true ↔
      u.attention = .waiting ∧ ∃ n, n ≤ 1 ∧ (u.relTimer = some n ∨ u.absTimer = some n) := by
    simp only [Bool.and_eq_true, Bool.or_eq_true, beq_iff_eq, timer_runs_out, and_or_left, exists_or]
  refine ⟨fun hw hn => ?_, fun hn => ?_⟩
  · exact if_pos (key.mpr ⟨hw, hn⟩)
  · exact if_neg (fun h => hn (key.mp h))

/-- The second timer over a cycle, case by case (R1, R2). -/
theorem State.secondCycle_cases (s : State) :
    (s.secondTimer = none → s.secondCycle = s) ∧
    (∀ n, s.secondTimer = some n → n + 1 < 4000000 → s.secondCycle = { s with secondTimer := some (n + 1) }) ∧
    (∀ n, s.secondTimer = some n → 4000000 ≤ n + 1 → s.secondCycle =
      { s with clock := min (s.clock + 1) 65535, secondTimer := some 0 }.mapStations fun u => { u with due := u.due + 1 }) := by
  refine ⟨fun h => by simp [State.secondCycle, h], fun n h hl => by simp [State.secondCycle, h, Config.cyclesPerSecond, hl], fun n h hl => ?_⟩
  have hnot : ¬n + 1 < 4000000 := by omega
  simp [State.secondCycle, h, Config.cyclesPerSecond, hnot, State.secondExpires, sat16, Config.maxTime]

/-- The second timer touches the clock, itself and the stations alone. -/
theorem State.secondCycle_frame (s : State) :
    s.secondCycle = { s with clock := s.secondCycle.clock, secondTimer := s.secondCycle.secondTimer, stations := s.secondCycle.stations } := by
  unfold State.secondCycle State.secondExpires
  repeat' split
  all_goals rfl

/-- The tenth divider over a cycle, case by case (R160). -/
theorem State.tenthCycle_cases (s : State) :
    (s.tenthDivider + 1 < 400000 → s.tenthCycle = { s with tenthDivider := s.tenthDivider + 1 }) ∧
    (400000 ≤ s.tenthDivider + 1 → s.tenthCycle = { s with tenthDivider := 0 }.mapPorts fun _ u => u.tenthTick) := by
  refine ⟨fun h => ?_, fun h => ?_⟩
  · simp [State.tenthCycle, Config.cyclesPerTenth, h]
  · have hnot : ¬s.tenthDivider + 1 < 400000 := by omega
    simp [State.tenthCycle, Config.cyclesPerTenth, hnot]

/-- The tenth divider touches itself and the ports alone. -/
theorem State.tenthCycle_frame (s : State) :
    s.tenthCycle = { s with tenthDivider := s.tenthCycle.tenthDivider, ports := s.tenthCycle.ports } := by
  unfold State.tenthCycle
  split <;> rfl

/-- A cycle of REFCLK touches the clock, the timers, the stations and the ports alone. -/
theorem State.refclkCycle_frame (s : State) :
    s.refclkCycle = { s with
      clock := s.refclkCycle.clock, secondTimer := s.refclkCycle.secondTimer, stations := s.refclkCycle.stations
      ports := s.refclkCycle.ports, tenthDivider := s.refclkCycle.tenthDivider } := by
  unfold State.refclkCycle State.tenthCycle State.secondCycle State.secondExpires
  repeat' split
  all_goals rfl

/-- Settles O2: the stretch timers, the second timer and the tenth divider, one after the other. -/
theorem idleStepCountsOneCycle : Obligations.IdleStepCountsOneCycle := by
  intro s hp
  have hstep : step s = .next s.refclkCycle := by rw [step, hp]
  set a := s.mapPorts fun _ u => u.stretchCycle s.inService with ha
  have ht : s.refclkCycle = a.secondCycle.tenthCycle := rfl
  have hsec := a.secondCycle_frame
  have hten := a.secondCycle.tenthCycle_frame
  have hkeeps : s.refclkCycle.secondTimer = a.secondCycle.secondTimer ∧ s.refclkCycle.clock = a.secondCycle.clock ∧
      s.refclkCycle.stations = a.secondCycle.stations := by
    rw [ht]
    generalize a.secondCycle = b at hten
    rw [hten]
    exact ⟨rfl, rfl, rfl⟩
  obtain ⟨ktimer, kclock, kstations⟩ := hkeeps
  obtain ⟨sn, sc, se⟩ := a.secondCycle_cases
  obtain ⟨tc, te⟩ := a.secondCycle.tenthCycle_cases
  have hdiv : a.secondCycle.tenthDivider = s.tenthDivider := by rw [hsec]; rfl
  have hport (p : PortId) : a.secondCycle.port p = (s.port p).stretchCycle s.inService := by
    have : a.secondCycle.port p = a.port p := by rw [hsec]; rfl
    rw [this, ha, State.port_mapPorts]
  have hin : s.inService = decide (s.service ≠ .closed) := by cases h : s.service <;> simp [State.inService, h]
  refine ⟨_, hstep, s.refclkCycle_frame, ?_, ?_, ?_, ?_, ?_, ?_⟩
  · intro h
    rw [ktimer, kclock, kstations, sn h]
    exact ⟨h, rfl, rfl⟩
  · intro n h hl
    rw [ktimer, kclock, kstations, sc n h hl]
    exact ⟨rfl, rfl, rfl⟩
  · intro n h hl
    simp only [State.station, ktimer, kclock, kstations, se n h hl]
    exact ⟨rfl, rfl, fun st => State.station_mapStations (fun u => { u with due := u.due + 1 }) st _⟩
  · intro h
    rw [ht, tc (by rw [hdiv]; exact h)]; simp [hdiv]
  · intro h
    rw [ht, te (by rw [hdiv]; exact h)]; rfl
  · intro p hheld
    obtain ⟨un, uc, ue⟩ := PortUnit.stretchCycle_cases s.inService (s.port p) hheld
    refine ⟨(s.port p).stretchCycle s.inService, un, uc, fun n hn hl => by rw [ue n hn hl, hin], fun h => ?_, fun h => ?_⟩
    · rw [ht, tc (by rw [hdiv]; exact h)]; exact hport p
    · have : s.refclkCycle.port p = ((s.port p).stretchCycle s.inService).tenthTick := by
        rw [ht, te (by rw [hdiv]; exact h), State.port_mapPorts, ← hport p]; rfl
      rw [this]
      exact PortUnit.tenthTick_cases _

/-! ## The resets -/

/-- The state of a station after the RESET pin (R121). -/
theorem stationAtPin_eq (straps : Straps) (u : StationUnit) :
    ∃ state, stationAtPin straps u = ⟨u.config, state, u.config.initialLag, 0, false, 0⟩ ∧
      ((∃ q, u.config.port = some q ∧ (portAtReset straps q).role = .station) → state = .opened) ∧
      ((¬∃ q, u.config.port = some q ∧ (portAtReset straps q).role = .station) → state = .unused) := by
  refine ⟨_, rfl, ?_, ?_⟩
  · rintro ⟨q, hq, hr⟩
    simp only [hq]
    exact if_pos hr
  · intro h
    cases hq : u.config.port with
    | none => rfl
    | some q => exact if_neg fun hr => h ⟨q, hq, hr⟩

/-- Settles O3: both resets build the part from the power-on values; the pin puts the kept configuration back. -/
theorem resetsSetThePart : Obligations.ResetsSetThePart := by
  intro straps s
  refine ⟨_, _, rfl, rfl, ?_, rfl, rfl, ?_, ?_, rfl, rfl, rfl, ?_⟩
  · rintro v (rfl | rfl)
    all_goals
      refine ⟨rfl, rfl, rfl, rfl, rfl, rfl, rfl, rfl, rfl, rfl, rfl, fun w => ?_, fun p => ?_⟩
      · simp [State.wave, State.powerOn, freeWave]
      · refine (State.powerOn_port straps s.pending p).trans ?_
        unfold portAtReset roleSampled
        cases straps.role1.getLsbD p.val <;> cases straps.role0.getLsbD p.val <;> rfl
  · intro i; simp [State.powerOn, diversionAtPowerOn]
  · intro st; simp [State.station, State.powerOn, stationAtStart, stationConfigAtPowerOn]
  · intro st
    have := stationAtPin_eq straps (s.station st)
    simpa [State.station, State.port, State.powerOn] using this

end Sys2Proof.Machine
end

section
/-! SUPPORT. Frames that the port itself disposes of, and frames that reach their owner (8.3, 8.4). -/

namespace Sys2Proof.Machine

section Verdicts
variable {α : Type} {c : Cmd} {parse : List Byte → Option α} {owner : PortId → α → State → State} {w : Written} {s : State}

theorem State.frame_of_foreign (h : w.address ≠ (s.port w.port).address) : s.frame c parse owner w = s := by
  simp [State.frame, PortUnit.check, h]

theorem State.frame_of_collision (h : w.address = (s.port w.port).address) (hs : (s.port w.port).slot ≠ .empty) :
    s.frame c parse owner w = s.modPort w.port fun u => { u with collided := true, reading := none } := by
  simp [State.frame, PortUnit.check, h, hs, PortUnit.endRead, PortUnit.collide]

theorem State.frame_of_malformed (h : w.address = (s.port w.port).address) (hs : (s.port w.port).slot = .empty)
    (hp : (paramsOf w.body).bind parse = none) :
    s.frame c parse owner w = (s.modPort w.port fun u => u.endRead.countError).refuse w.port c .malformed := by
  simp [State.frame, PortUnit.check, h, hs, hp]

theorem State.frame_of_muted {a : α} (h : w.address = (s.port w.port).address) (hs : (s.port w.port).slot = .empty)
    (hp : (paramsOf w.body).bind parse = some a) (hm : (s.port w.port).muted = true) (hc : passesMute c = false) :
    s.frame c parse owner w = (s.modPort w.port PortUnit.endRead).refuse w.port c .muted := by
  simp [State.frame, PortUnit.check, h, hs, hp, hm, hc]

theorem State.frame_of_not_permitted {a : α} (h : w.address = (s.port w.port).address) (hs : (s.port w.port).slot = .empty)
    (hp : (paramsOf w.body).bind parse = some a) (hm : (s.port w.port).muted = false) (hc : permits c (s.port w.port).role = false) :
    s.frame c parse owner w = (s.modPort w.port fun u => u.endRead.countError).refuse w.port c .notPermitted := by
  simp [State.frame, PortUnit.check, h, hs, hp, hm, hc]

end Verdicts

/-! ## The port unit after a refusal of its own -/

theorem passesMute_eq_false {c : Cmd} (hs : c ≠ .status) (hr : c ≠ .portRestart) : passesMute c = false := by
  cases c with
  | status => exact absurd rfl hs
  | portRestart => exact absurd rfl hr
  | _ => rfl

theorem PortUnit.placeReply_endRead {u : PortUnit} (h : u.stretch = none) (b : Bool) (r : Reply) :
    u.endRead.placeReply b r = u.refusing r := by
  simp [PortUnit.placeReply, PortUnit.endRead, PortUnit.assertLine, PortUnit.refusing, h]

theorem PortUnit.placeReply_countError {u : PortUnit} (h : u.stretch = none) (b : Bool) (r : Reply) :
    u.endRead.countError.placeReply b r =
      { u.refusing r with errors := min (u.errors + 1) 16, muted := u.muted || decide (15 ≤ u.errors) } := by
  have hm : (min (u.errors + 1) 16 == 16) = decide (15 ≤ u.errors) := by
    rw [Bool.eq_iff_iff]
    simp only [beq_iff_eq, decide_eq_true_eq]
    omega
  simp [PortUnit.placeReply, PortUnit.endRead, PortUnit.countError, PortUnit.assertLine, PortUnit.refusing, h, Config.muteCount, hm]

/-- Two changes of one port unit make one. -/
theorem State.modPort_modPort (p : PortId) (f g : PortUnit → PortUnit) (s : State) :
    (s.modPort p f).modPort p g = s.modPort p fun u => g (f u) := by
  simp [State.modPort, State.port]

/-- A change of a port unit is decided by the unit there. -/
theorem State.modPort_congr {p : PortId} {f g : PortUnit → PortUnit} {s : State} (h : f (s.port p) = g (s.port p)) :
    s.modPort p f = s.modPort p g := by
  simp [State.modPort, h]

theorem State.counted_reply {s : State} {p : PortId} (h : (s.port p).stretch = none) (r : Reply) :
    (s.modPort p fun u => u.endRead.countError).reply p r = s.modPort p fun u =>
      { u.refusing r with errors := min (u.errors + 1) 16, muted := u.muted || decide (15 ≤ u.errors) } := by
  rw [State.reply, State.modPort_modPort]
  exact State.modPort_congr (PortUnit.placeReply_countError h _ r)

theorem State.muted_reply {s : State} {p : PortId} (h : (s.port p).stretch = none) (r : Reply) :
    (s.modPort p PortUnit.endRead).reply p r = s.modPort p fun u => u.refusing r := by
  rw [State.reply, State.modPort_modPort]
  exact State.modPort_congr (PortUnit.placeReply_endRead h _ r)

/-! ## The frames -/

/-- Settles O12: the first two checks come before the command is looked at. -/
theorem foreignAndCollidingFrames : Obligations.ForeignAndCollidingFrames := by
  intro i c w s hi
  obtain ⟨_, parse, owner, _, hex⟩ := exec_frame hi
  exact ⟨fun h => by rw [hex, State.frame_of_foreign h], fun h hs => by rw [hex, State.frame_of_collision h hs]⟩

/-- Settles O14: the mute is checked before the role. -/
theorem mutedFrameRefused : Obligations.MutedFrameRefused := by
  intro i c w s hi ha hs hst hf hm hc hr
  obtain ⟨_, parse, owner, hform, hex⟩ := exec_frame hi
  obtain ⟨a, hp⟩ := Option.isSome_iff_exists.mp (hform.trans hf)
  rw [hex, State.frame_of_muted ha hs hp hm (passesMute_eq_false hc hr)]
  exact congrArg _ (State.muted_reply hst _)

theorem Cmd.ofCode_eq_none {code : Byte} (h : ∀ c : Cmd, c.code ≠ code) : Cmd.ofCode code = none := by
  simp [Cmd.ofCode, h]

/-- Settles O16: the same checks, the code as received in place of a command's. -/
theorem unknownCodeRefused : Obligations.UnknownCodeRefused := by
  refine ⟨fun code body w s hb hc => ?_, fun w s hb => by simp [exec, execUnknownCommand, hb]⟩
  have hex : exec (.unknownCommand w) s = .next (s.unknownFrame code w) := by
    simp [exec, execUnknownCommand, hb, Cmd.ofCode_eq_none hc]
  refine ⟨fun h => ?_, fun h hs => ?_, fun h hs hst => ?_⟩
  · rw [hex]; simp [State.unknownFrame, h]
  · rw [hex]; simp [State.unknownFrame, h, hs, PortUnit.endRead, PortUnit.collide]
  · have hu : s.unknownFrame code w = (s.modPort w.port fun u => u.endRead.countError).reply w.port ⟨code, .unknownCommand, .empty⟩ := by
      simp [State.unknownFrame, h, hs]
    rw [hex, hu, State.counted_reply hst]

/-! ## The owner's outcome at the issuing port -/

theorem State.port_answer (p : PortId) (c : Cmd) (st : Status) (d : ReplyData) (s : State) :
    (s.answer p c st d).port p = (s.port p).placeReply s.inService ⟨c.code, st, d⟩ := State.port_modPort_self _ _ _

theorem PortUnit.placeReply_errors (b : Bool) (r : Reply) (u : PortUnit) : (u.placeReply b r).errors = u.errors :=
  (u.placeReply_same b r).errors

/-- A reply is found in the slot where it was placed. -/
theorem State.answer_slot (p : PortId) (c : Cmd) (st : Status) (d : ReplyData) (s : State) :
    ((s.answer p c st d).port p).slot = .ready ⟨c.code, st, d⟩ := by
  rw [State.port_answer, PortUnit.placeReply_slot]

theorem State.resetService_errors (p q : PortId) (s : State) : ((s.resetService p).port q).errors = (s.port q).errors := by
  rw [State.resetService_port]
  generalize hv : (if q = p then s.port q else (s.port q).abort) = v
  have he : v.errors = (s.port q).errors := by
    subst hv
    split
    · rfl
    · unfold PortUnit.abort; split
      · exact PortUnit.placeReply_errors _ _ _
      · rfl
      · rfl
  rw [(PortUnit.append_same _ _).errors, ← he]
  unfold PortUnit.emptyQueue PortUnit.releaseIfDry
  dsimp only
  split <;> rfl

/-- What a deed leaves of the error counter of the issuing port (R141, R149). -/
theorem Deed.errors {p : PortId} {s u : State} {c : Cmd} (h : Deed p s c u) :
    (u.port p).errors = (s.port p).errors ∨ c = .portRestart ∧ (u.port p).errors = 0 := by
  rcases h.ports with hp | ⟨_, rfl⟩ | ⟨a, b, d, _, rfl⟩ | ⟨hc, rfl⟩ | ⟨b, _, rfl⟩
  · exact .inl (hp p).same.errors
  · exact .inl (State.resetService_errors p p s)
  · exact .inl (by rw [State.port_modPort_self])
  · exact .inr ⟨hc, by rw [State.port_modPort_self]⟩
  · exact .inl (by rw [State.port_modPort_self])

/-- The slot of the issuing port after its owner's event: the reply, or a DELAY WAVE in flight (R141). -/
theorem Owned.slot {p : PortId} {s t : State} {c : Cmd} (h : Owned c p s t) (hb : (s.port p).slot = .busy c.code) :
    (∃ r, (t.port p).slot = .ready r ∧ r.code = c.code) ∨ c = .delayWave ∧ (t.port p).slot = .busy 0x14 := by
  obtain ⟨u, _, ⟨st, d, rfl⟩ | ⟨rfl, rfl, w, d, start, rfl, _, _⟩⟩ := h
  · exact .inl ⟨_, State.answer_slot p c st d u, rfl⟩
  · exact .inr ⟨rfl, hb⟩

theorem Owned.errors {p : PortId} {s t : State} {c : Cmd} (h : Owned c p s t) (hc : c ≠ .portRestart) :
    (t.port p).errors = (s.port p).errors := by
  obtain ⟨u, hu, ho⟩ := h
  have he : (u.port p).errors = (s.port p).errors := by
    rcases hu.errors with he | ⟨h, _⟩
    · exact he
    · exact absurd h hc
  rcases ho with ⟨st, d, rfl⟩ | ⟨_, rfl, _⟩
  · rw [State.port_answer, PortUnit.placeReply_errors, he]
  · exact he

/-! ## The table of 8.4 -/

theorem permits_order_iff (c : Cmd) : permits c .order = true ↔
    c ∈ [Cmd.status, .queryWave, .queryItem, .queryDiversion, .submitTicket, .voidTicket, .queryTicket, .querySlip, .queryStation,
      .setPortMode, .portRestart, .list] := by
  cases c <;> decide

theorem permits_monitor_iff (c : Cmd) : permits c .monitor = true ↔
    c ∈ [Cmd.status, .queryWave, .queryItem, .queryDiversion, .queryTicket, .querySlip, .queryStation, .setPortMode, .portRestart,
      .list] := by
  cases c <;> decide

theorem permits_station_iff (c : Cmd) : permits c .station = true ↔
    c ∈ [Cmd.status, .queryWave, .queryItem, .queryDiversion, .markOut, .markIn, .queryTicket, .querySlip, .pauseStation,
      .resumeStation, .queryStation, .stationOpen, .take, .bump, .setPortMode, .portRestart, .list] := by
  cases c <;> decide

theorem permits_pass_iff (c : Cmd) : permits c .pass = true ↔ c ≠ .take ∧ c ≠ .bump := by
  cases c <;> decide

/-- A well-formed frame its port takes ends as its owner's events do, the port handed over. -/
theorem exec_owned {i : Instr} {c : Cmd} {w : Written} {s : State} (hi : i.frame? = some (c, w)) (ht : Takes c w s)
    (hf : formed c w.body = true) : ∃ t, exec i s = .next t ∧ Owned c w.port (s.handed c w.port) t := by
  obtain ⟨_, parse, owner, hform, hex, ho⟩ := exec_frame_owned hi
  obtain ⟨a, hp⟩ := Option.isSome_iff_exists.mp (hform.trans hf)
  exact ⟨_, hex s, State.frame_of_takes ht hp ▸ ho a _ _⟩

/-- PORT RESTART leaves the error counter of its port at 0 (R149). -/
theorem exec_portRestart_errors {i : Instr} {w : Written} {s t : State} (hi : i.frame? = some (.portRestart, w))
    (ht : Takes .portRestart w s) (hf : formed .portRestart w.body = true) (h : exec i s = .next t) : (t.port w.port).errors = 0 := by
  cases i <;> simp only [Instr.frame?, Option.some.injEq, Prod.mk.injEq, reduceCtorEq, false_and] at hi
  case portRestart v =>
    obtain ⟨-, rfl⟩ := hi
    have hform : ((paramsOf v.body).bind parseNone).isSome = formed .portRestart v.body := by
      unfold formed; cases paramsOf _ <;> rfl
    obtain ⟨a, hp⟩ := Option.isSome_iff_exists.mp (hform.trans hf)
    have hex : exec (.portRestart v) s = .next (ownPortRestart v.port a (s.handed .portRestart v.port)) :=
      congrArg Host.Outcome.next (State.frame_of_takes (owner := ownPortRestart) ht hp)
    rw [hex] at h
    cases h
    rw [ownPortRestart, State.port_answer, PortUnit.placeReply_errors, State.port_modPort_self]

/-- Settles O15: the role check follows the table of 8.4, and the owner's event is one of `Owned`. -/
theorem roleRefused : Obligations.RoleRefused := by
  intro i c w s allowed hi ha hs hst hf hm ho hmon hsta hpass
  have hallowed : c ∈ allowed ↔ permits c (s.port w.port).role = true := by
    cases hr : (s.port w.port).role with
    | order => rw [ho hr, permits_order_iff]
    | monitor => rw [hmon hr, permits_monitor_iff]
    | station => rw [hsta hr, permits_station_iff]
    | pass => rw [hpass hr, permits_pass_iff]
  refine ⟨fun hn => ?_, fun hin => ?_⟩
  · obtain ⟨_, parse, owner, hform, hex⟩ := exec_frame hi
    obtain ⟨a, hp⟩ := Option.isSome_iff_exists.mp (hform.trans hf)
    have hperm : permits c (s.port w.port).role = false := by simpa [hallowed] using hn
    rw [hex, State.frame_of_not_permitted ha hs hp hm hperm]
    refine congrArg _ ((State.counted_reply hst _).trans (State.modPort_congr ?_))
    simp [hm]
  · have ht : Takes c w s := ⟨ha, hs, hst, .inl hm, hallowed.mp hin⟩
    obtain ⟨t, hex, how⟩ := exec_owned hi ht hf
    refine ⟨t, hex, ?_, how.slot (by simp [PortUnit.handOver])⟩
    split
    · next hc => subst hc; exact exec_portRestart_errors hi ht hf hex
    · next hc => rw [how.errors hc]; simp [PortUnit.handOver, PortUnit.endRead, hm]

end Sys2Proof.Machine
end

section
/-! SUPPORT. Which parameter bytes are well formed, command by command (8.3, 10.2). -/

namespace Sys2Proof.Machine

/-! ## The length byte -/

theorem paramsOf_eq_some {body ps : List Byte} : paramsOf body = some ps ↔
    ∃ len : Byte, body.take 61 = len :: ps ∧ len.toNat = ps.length ∧ ps.length ≤ 60 := by
  unfold paramsOf
  have h60 : Config.maxParams = 60 := rfl
  change (match body.take 61 with | [] => none | len :: params => _) = _ ↔ _
  cases ht : body.take 61 with
  | nil => simp
  | cons len params =>
    dsimp only
    by_cases hl : len.toNat ≤ Config.maxParams ∧ params.length = len.toNat
    · rw [if_pos hl]
      constructor
      · rintro h; cases h; exact ⟨len, rfl, hl.2.symm, by omega⟩
      · rintro ⟨_, h, _⟩; cases h; rfl
    · rw [if_neg hl]
      constructor
      · nofun
      · rintro ⟨_, h, h1, h2⟩; cases h; exact absurd ⟨by omega, h1.symm⟩ hl

theorem paramsOf_of_short {body ps : List Byte} (h : body.length ≤ 61) : paramsOf body = some ps ↔
    ∃ len : Byte, body = len :: ps ∧ len.toNat = ps.length ∧ ps.length ≤ 60 := by
  rw [paramsOf_eq_some, List.take_of_length_le h]

/-- Of a longer write the port keeps 62 bytes with the code (assumption 14). -/
theorem paramsOf_of_long {body ps : List Byte} (h : 61 < body.length) : paramsOf body = some ps ↔
    ∃ rest, body = 60 :: ps ++ rest ∧ ps.length = 60 := by
  rw [paramsOf_eq_some]
  constructor
  · rintro ⟨len, ht, hl, _⟩
    have hlen : ps.length = 60 := by
      have := congrArg List.length ht
      simp only [List.length_take, List.length_cons] at this
      omega
    have hl60 : len = 60 := BitVec.eq_of_toNat_eq (by rw [hl, hlen]; rfl)
    exact ⟨body.drop 61, by rw [← hl60, ← ht, List.take_append_drop], hlen⟩
  · rintro ⟨rest, rfl, hlen⟩
    exact ⟨60, by simp [hlen], by simp [hlen], by omega⟩

/-! ## The parsers -/

section Parsers
variable (ps : List Byte)

theorem parseNone_isSome : (parseNone ps).isSome = true ↔ ps = [] := by
  cases ps <;> simp [parseNone]

theorem parseByte_isSome : (parseByte ps).isSome = true ↔ ps.length = 1 := by
  rw [List.length_eq_one_iff]
  unfold parseByte
  split
  · simp
  · next h => simp; exact fun v e => h v e

theorem parseNumber_isSome : (parseNumber ps).isSome = true ↔ ps.length = 2 := by
  rw [List.length_eq_two]
  unfold parseNumber
  split
  · simp
  · next h => simp; exact fun a b e => h a b e

theorem parsePortMode_isSome : (parsePortMode ps).isSome = true ↔ ps.length = 3 := by
  rw [List.length_eq_three]
  unfold parsePortMode
  split
  · simp
  · next h => simp; exact fun a b c e => h a b c e

theorem parseWave_isSome : (parseWave ps).isSome = true ↔ ∃ v : Byte, ps = [v] ∧ v.toNat < 32 := by
  unfold parseWave
  split
  · simp [waveField, below_isSome]
  · next h => simp; exact fun v e => absurd e (h v)

theorem parseStation_isSome : (parseStation ps).isSome = true ↔ ∃ st : Byte, ps = [st] ∧ st.toNat < 12 := by
  unfold parseStation
  split
  · simp [stationField, below_isSome]
  · next h => simp; exact fun v e => absurd e (h v)

theorem parseDiversionIndex_isSome : (parseDiversionIndex ps).isSome = true ↔ ∃ i : Byte, ps = [i] ∧ i.toNat < 8 := by
  unfold parseDiversionIndex
  split
  · simp [below_isSome]
  · next h => simp; exact fun v e => absurd e (h v)

theorem parseItem_isSome : (parseItem ps).isSome = true ↔ ∃ i1 i0 : Byte, ps = [i1, i0] ∧ i1.toNat * 256 + i0.toNat < 4096 := by
  unfold parseItem
  split
  · simp [itemField_isSome, word16]
  · next h => simp; exact fun a b e => absurd e (h a b)

theorem parseIndexed_isSome (n : Nat) : (parseIndexed n ps).isSome = true ↔
    ∃ n1 n0 i : Byte, ps = [n1, n0, i] ∧ i.toNat < n := by
  unfold parseIndexed
  split
  · simp [← and_assoc]
  · next h => simp; exact fun a b c e => absurd e (h a b c)

theorem parseDelay_isSome : (parseDelay ps).isSome = true ↔ ∃ v d1 d0 : Byte, ps = [v, d1, d0] ∧ v.toNat < 32 := by
  unfold parseDelay
  split
  · simp [waveField, below_isSome, and_assoc]
  · next h => simp; exact fun a b c e => absurd e (h a b c)

theorem parseDefine_isSome : (parseDefine ps).isSome = true ↔ ∃ v f1 f0 count flags s1 s0 i1 i0 : Byte,
    ps = [v, f1, f0, count, flags, s1, s0, i1, i0] ∧ v.toNat < 32 := by
  unfold parseDefine
  split
  · simp [waveField, below_isSome, and_assoc]
  · next h => simp; exact fun a b c d e f g i j k => absurd k (h a b c d e f g i j)

theorem parseSetItem_isSome : (parseSetItem ps).isSome = true ↔ ∃ i1 i0 st c1 c0 batch : Byte,
    ps = [i1, i0, st, c1, c0, batch] ∧ i1.toNat * 256 + i0.toNat < 4096 ∧ st.toNat < 12 := by
  unfold parseSetItem
  split
  · next i1 i0 st c1 c0 batch =>
    have hi : (itemField i1 i0).isSome = true ↔ i1.toNat * 256 + i0.toNat < 4096 := itemField_isSome
    have hst : (stationField st).isSome = true ↔ st.toNat < 12 := below_isSome
    simp only [List.cons.injEq, and_true]
    constructor
    · intro h
      refine ⟨i1, i0, st, c1, c0, batch, ⟨rfl, rfl, rfl, rfl, rfl, rfl⟩, hi.mp ?_, hst.mp ?_⟩ <;> revert h <;>
        cases itemField i1 i0 <;> cases stationField st <;> simp
    · rintro ⟨_, _, _, _, _, _, ⟨rfl, rfl, rfl, rfl, rfl, rfl⟩, h1, h2⟩
      obtain ⟨a, ha⟩ := Option.isSome_iff_exists.mp (hi.mpr h1)
      obtain ⟨b, hb⟩ := Option.isSome_iff_exists.mp (hst.mpr h2)
      simp [ha, hb]
  · next h => simp; exact fun a b c d e f g => absurd g (h a b c d e f)

theorem parseSetDiversion_isSome : (parseSetDiversion ps).isSome = true ↔ ∃ i flags c1 c0 m1 m0 mods st : Byte,
    ps = [i, flags, c1, c0, m1, m0, mods, st] ∧ i.toNat < 8 ∧ c1.toNat * 256 + c0.toNat < 4096 ∧ m1.toNat * 256 + m0.toNat < 4096 ∧
      st.toNat < 12 := by
  unfold parseSetDiversion
  split
  · next i flags c1 c0 m1 m0 mods st =>
    have hi : (below 8 i.toNat).isSome = true ↔ i.toNat < 8 := below_isSome
    have hc : (itemField c1 c0).isSome = true ↔ c1.toNat * 256 + c0.toNat < 4096 := itemField_isSome
    have hm : (itemField m1 m0).isSome = true ↔ m1.toNat * 256 + m0.toNat < 4096 := itemField_isSome
    have hst : (stationField st).isSome = true ↔ st.toNat < 12 := below_isSome
    simp only [List.cons.injEq, and_true]
    constructor
    · intro h
      refine ⟨i, flags, c1, c0, m1, m0, mods, st, ⟨rfl, rfl, rfl, rfl, rfl, rfl, rfl, rfl⟩, hi.mp ?_, hc.mp ?_, hm.mp ?_, hst.mp ?_⟩ <;>
        revert h <;> cases below 8 i.toNat <;> cases itemField c1 c0 <;> cases itemField m1 m0 <;> cases stationField st <;> simp
    · rintro ⟨_, _, _, _, _, _, _, _, ⟨rfl, rfl, rfl, rfl, rfl, rfl, rfl, rfl⟩, h1, h2, h3, h4⟩
      obtain ⟨a, ha⟩ := Option.isSome_iff_exists.mp (hi.mpr h1)
      obtain ⟨b, hb⟩ := Option.isSome_iff_exists.mp (hc.mpr h2)
      obtain ⟨d, hd⟩ := Option.isSome_iff_exists.mp (hm.mpr h3)
      obtain ⟨e, he⟩ := Option.isSome_iff_exists.mp (hst.mpr h4)
      simp [ha, hb, hd, he]
  · next h => simp; exact fun a b c d e f g i j => absurd j (h a b c d e f g i)

theorem optionalField_isSome {n : Nat} {b : Byte} : (optionalField n b).isSome = true ↔ b.toNat < n ∨ b = 0xFF := by
  unfold optionalField
  split
  · next h => simp [h]
  · next h => rw [Option.isSome_map, below_isSome]; simp only [h, or_false]

theorem parseSetStation_isSome : (parseSetStation ps).isSome = true ↔ ∃ st port k r p1 p0 timeout backup h1 h0 b1 b0 g1 g0 : Byte,
    ps = [st, port, k, r, p1, p0, timeout, backup, h1, h0, b1, b0, g1, g0] ∧ st.toNat < 12 ∧ (port.toNat < 6 ∨ port = 0xFF) ∧
      (backup.toNat < 12 ∨ backup = 0xFF) := by
  unfold parseSetStation
  split
  · next st port k r p1 p0 timeout backup h1 h0 b1 b0 g1 g0 =>
    have hst : (stationField st).isSome = true ↔ st.toNat < 12 := below_isSome
    have hp : (optionalField 6 port).isSome = true ↔ port.toNat < 6 ∨ port = 0xFF := optionalField_isSome
    have hb : (optionalField 12 backup).isSome = true ↔ backup.toNat < 12 ∨ backup = 0xFF := optionalField_isSome
    simp only [List.cons.injEq, and_true]
    constructor
    · intro h
      refine ⟨st, port, k, r, p1, p0, timeout, backup, h1, h0, b1, b0, g1, g0, ⟨rfl, rfl, rfl, rfl, rfl, rfl, rfl, rfl, rfl, rfl, rfl, rfl,
        rfl, rfl⟩, hst.mp ?_, hp.mp ?_, hb.mp ?_⟩ <;>
        revert h <;> cases stationField st <;> cases optionalField 6 port <;> cases optionalField 12 backup <;> simp
    · rintro ⟨_, _, _, _, _, _, _, _, _, _, _, _, _, _, ⟨rfl, rfl, rfl, rfl, rfl, rfl, rfl, rfl, rfl, rfl, rfl, rfl, rfl, rfl⟩, k1, k2, k3⟩
      obtain ⟨a, ha⟩ := Option.isSome_iff_exists.mp (hst.mpr k1)
      obtain ⟨b, hb'⟩ := Option.isSome_iff_exists.mp (hp.mpr k2)
      obtain ⟨d, hd⟩ := Option.isSome_iff_exists.mp (hb.mpr k3)
      simp [ha, hb', hd]
  · next h => simp; exact fun a b c d e f g i j k l m n o q => absurd q (h a b c d e f g i j k l m n o)

end Parsers

/-- SUBMIT TICKET is read from its five leading bytes and four bytes for each line (10.2, R167). -/
theorem parseSubmit_eq_some {v t1 t0 flags count : Byte} {entries : List Byte} {a : Submission} :
    parseSubmit (v :: t1 :: t0 :: flags :: count :: entries) = some a ↔
      ∃ wave lines, waveField v = some wave ∧ parseLines entries = some lines ∧ word16 t1 t0 < 1024 ∧ lines.length = count.toNat ∧
        a = ⟨wave, word16 t1 t0, flag0 flags, lines⟩ := by
  rw [parseSubmit]
  cases waveField v <;> cases parseLines entries <;> simp [and_assoc, eq_comm]

theorem parseSubmit_isSome (ps : List Byte) : (parseSubmit ps).isSome = true ↔
    ∃ (v t1 t0 flags count : Byte) (entries : List Byte), ps = [v, t1, t0, flags, count] ++ entries ∧ v.toNat < 32 ∧
      t1.toNat * 256 + t0.toNat < 1024 ∧ entries.length = 4 * count.toNat ∧
      ∀ i (i1 i0 : Byte), entries[4 * i]? = some i1 → entries[4 * i + 1]? = some i0 → i1.toNat * 256 + i0.toNat < 4096 := by
  constructor
  · intro h
    obtain ⟨a, ha⟩ := Option.isSome_iff_exists.mp h
    match ps, ha with
    | v :: t1 :: t0 :: flags :: count :: entries, ha =>
      obtain ⟨wave, lines, hw, hl, ht, hn, rfl⟩ := parseSubmit_eq_some.mp ha
      obtain ⟨hlen, hread⟩ := parseLines_spec hl
      refine ⟨v, t1, t0, flags, count, entries, rfl, below_isSome.mp (by rw [← waveField, hw]; rfl), ht, by omega, fun i i1 i0 h1 h0 => ?_⟩
      obtain ⟨hi, _⟩ := List.getElem?_eq_some_iff.mp h1
      obtain ⟨j1, j0, _, _, g1, g0, _, _, hitem, _⟩ := hread i lines[i] (List.getElem?_eq_getElem (by omega))
      rw [h1] at g1
      rw [h0] at g0
      cases g1
      cases g0
      rw [word16] at hitem
      rw [← hitem]
      exact BitVec.isLt _
  · rintro ⟨v, t1, t0, flags, count, entries, rfl, hv, ht, hlen, hc⟩
    obtain ⟨wave, hw⟩ := Option.isSome_iff_exists.mp (below_isSome.mpr hv)
    obtain ⟨lines, hl⟩ := Option.isSome_iff_exists.mp (parseLines_isSome hlen hc)
    have hn : lines.length = count.toNat := by have := (parseLines_spec hl).1; omega
    exact Option.isSome_iff_exists.mpr ⟨_, parseSubmit_eq_some.mpr ⟨wave, lines, hw, hl, ht, hn, rfl⟩⟩

/-- SUBMIT TICKET at its byte positions (10.2). -/
theorem parseSubmit_reads {v t1 t0 flags count : Byte} {entries : List Byte} {a : Submission}
    (h : parseSubmit ([v, t1, t0, flags, count] ++ entries) = some a) :
    a.wave.val = v.toNat ∧ a.table = t1.toNat * 256 + t0.toNat ∧ a.rush = flags.getLsbD 0 ∧ a.lines.length = count.toNat ∧
    ∀ i e, a.lines[i]? = some e → ∃ i1 i0 qty mods : Byte,
      entries[4 * i]? = some i1 ∧ entries[4 * i + 1]? = some i0 ∧ entries[4 * i + 2]? = some qty ∧ entries[4 * i + 3]? = some mods ∧
      e.item.toNat = i1.toNat * 256 + i0.toNat ∧ e.qty = qty.toNat ∧ e.modifiers = mods := by
  obtain ⟨wave, lines, hw, hl, _, hn, rfl⟩ := parseSubmit_eq_some.mp h
  exact ⟨below_eq_some.mp hw, rfl, rfl, hn, (parseLines_spec hl).2⟩

/-- SET STATION at its byte positions (10.2). -/
theorem parseSetStation_reads {st port k r p1 p0 timeout backup h1 h0 b1 b0 g1 g0 : Byte} {u : StationId} {given : StationConfig}
    (h : parseSetStation [st, port, k, r, p1, p0, timeout, backup, h1, h0, b1, b0, g1, g0] = some (u, given)) :
    u.val = st.toNat ∧ (given.port = none ↔ port = 0xFF) ∧ (∀ q, given.port = some q → q.val = port.toNat) ∧
    given.slots = k.toNat ∧ given.reserve = r.toNat ∧ given.plate = p1.toNat * 256 + p0.toNat ∧ given.timeout = timeout.toNat ∧
    (given.backup = none ↔ backup = 0xFF) ∧ (∀ b, given.backup = some b → b.val = backup.toNat) ∧
    given.horizon = h1.toNat * 256 + h0.toNat ∧ given.window = b1.toNat * 256 + b0.toNat ∧
    given.initialLag = g1.toNat * 256 + g0.toNat := by
  have hnone {n : Nat} (hn : n ≤ 255) {b : Byte} {o : Option (Fin n)} (ho : optionalField n b = some o) :
      (o = none ↔ b = 0xFF) ∧ ∀ i, o = some i → i.val = b.toNat := by
    rcases (optionalField_eq_some hn).mp ho with ⟨rfl, rfl⟩ | ⟨i, rfl, hi⟩
    · simp
    · refine ⟨⟨nofun, fun hb => ?_⟩, fun j hj => by cases hj; exact hi⟩
      subst hb
      have := i.isLt
      have : (0xFF : Byte).toNat = 255 := rfl
      omega
  rw [parseSetStation] at h
  split at h
  · next station bound other hst hp hb =>
    cases h
    obtain ⟨p1, p2⟩ := hnone (by omega) hp
    obtain ⟨b1, b2⟩ := hnone (by omega) hb
    exact ⟨below_eq_some.mp hst, p1, p2, rfl, rfl, rfl, rfl, b1, b2, rfl, rfl, rfl⟩
  · cases h

/-! ## The statement -/

theorem formed_of_none {body : List Byte} (h : paramsOf body = none) (c : Cmd) : formed c body = false := by
  simp [formed, h]

/-- Settles O13: the length byte, then each command's parser read row by row of 10.2. -/
theorem malformedFrameRefused : Obligations.MalformedFrameRefused := by
  refine ⟨fun i c w s hi ha hs hst hf => ?_, fun body ps => ⟨paramsOf_of_short, paramsOf_of_long⟩, fun c body h => formed_of_none h c, ?_,
    fun _ _ _ _ _ _ _ h => parseSubmit_reads h, fun _ _ _ _ _ _ _ _ _ _ _ _ _ _ _ _ h => parseSetStation_reads h⟩
  · obtain ⟨_, parse, owner, hform, hex⟩ := exec_frame hi
    have hp : (paramsOf w.body).bind parse = none := by
      rw [hf] at hform; simpa using hform
    rw [hex, State.frame_of_malformed ha hs hp]
    exact congrArg _ (State.counted_reply hst _)
  · rintro c body ps hps takenWhere rfl
    simp only [List.mem_cons, List.not_mem_nil, or_false]
    refine ⟨?_, ?_, ?_, ?_, ?_, ?_, ?_, ?_, ?_, ?_, ?_, ?_, ?_, ?_, ?_, ?_⟩
    · rintro (rfl | rfl | rfl | rfl | rfl | rfl) <;> simpa only [formed, hps] using parseNone_isSome ps
    · rintro rfl; simpa only [formed, hps] using parseByte_isSome ps
    · rintro (rfl | rfl | rfl | rfl | rfl | rfl) <;> simpa only [formed, hps] using parseNumber_isSome ps
    · rintro rfl; simpa only [formed, hps] using parsePortMode_isSome ps
    · rintro (rfl | rfl | rfl | rfl | rfl) <;> simpa only [formed, hps] using parseWave_isSome ps
    · rintro rfl; simpa only [formed, hps] using parseDelay_isSome ps
    · rintro rfl; simpa only [formed, hps] using parseDefine_isSome ps
    · rintro (rfl | rfl | rfl | rfl) <;> simpa only [formed, hps] using parseItem_isSome ps
    · rintro rfl; simpa only [formed, hps] using parseSetItem_isSome ps
    · rintro rfl; simpa only [formed, hps] using parseDiversionIndex_isSome ps
    · rintro rfl; simpa only [formed, hps] using parseSetDiversion_isSome ps
    · rintro (rfl | rfl) <;> simpa only [formed, hps] using parseIndexed_isSome ps 12
    · rintro rfl; simpa only [formed, hps] using parseIndexed_isSome ps 16
    · rintro (rfl | rfl | rfl | rfl | rfl) <;> simpa only [formed, hps] using parseStation_isSome ps
    · rintro rfl; simpa only [formed, hps] using parseSetStation_isSome ps
    · rintro rfl; simpa only [formed, hps] using parseSubmit_isSome ps

end Sys2Proof.Machine
end

section
/-! SUPPORT. The service commands that open, reset and report (chapter 1). -/

namespace Sys2Proof.Machine

/-! ## A notice at the issuing port -/

/-- A notice handed to a port unit changes its queue, its overrun flag and its line alone, and no decision on them hangs on the rest. -/
theorem PortUnit.append_handOver (n : Notice) (c : Byte) (u : PortUnit) :
    (u.endRead.handOver c).append n = (u.append n).endRead.handOver c := by
  unfold PortUnit.append PortUnit.waitLine PortUnit.assertLine PortUnit.endRead PortUnit.handOver
  dsimp only
  repeat' split
  all_goals rfl

@[simp] theorem PortUnit.append_stretch (n : Notice) (u : PortUnit) : (u.append n).stretch = u.stretch := by
  unfold PortUnit.append PortUnit.waitLine PortUnit.assertLine
  dsimp only
  repeat' split
  all_goals rfl

@[simp] theorem PortUnit.append_slot (n : Notice) (u : PortUnit) : (u.append n).slot = u.slot := by
  unfold PortUnit.append PortUnit.waitLine PortUnit.assertLine
  dsimp only
  repeat' split
  all_goals rfl

/-- The reply at a port that handed its frame over and was then handed a notice. -/
theorem PortUnit.placeReply_append_handOver {u : PortUnit} (h : u.stretch = none) (n : Notice) (b : Bool) (c : Byte) (r : Reply) :
    ((u.endRead.handOver c).append n).placeReply b r = (u.append n).answered r := by
  rw [PortUnit.append_handOver, PortUnit.placeReply_handOver (by simpa using h)]

/-! ## OPEN SERVICE -/

theorem State.Bound_iff {s : State} {st : StationId} : s.Bound st ↔ s.stationBound (s.station st) = true := by
  unfold State.Bound State.stationBound
  cases (s.station st).config.port <;> simp

theorem State.exists_bound_iff {s : State} : (∃ st, s.Bound st) ↔ (allStations.any fun st => s.stationBound (s.station st)) = true := by
  simp [State.Bound_iff, allStations]

theorem State.handed_Bound {s : State} {c : Cmd} {p : PortId} {st : StationId} : (s.handed c p).Bound st ↔ s.Bound st := by
  simp [State.Bound]

theorem State.handed_stationBound (s : State) (c : Cmd) (p : PortId) (u : StationUnit) :
    (s.handed c p).stationBound u = s.stationBound u := by
  unfold State.stationBound
  cases u.config.port <;> simp

/-- A station readied for a service (R6). -/
theorem State.readyStations_station (s : State) (st : StationId) :
    s.readyStations.station st = stationAtStart (s.station st).config (if s.stationBound (s.station st) then .opened else .unused) :=
  State.station_mapStations _ _ _

/-- A station readied has its configuration, its initial lag, and the state its binding gives (R5, R6, R10). -/
theorem stationAtStart_of_bound (s : State) (st : StationId) :
    ∃ state, stationAtStart (s.station st).config (if s.stationBound (s.station st) then .opened else .unused) =
        ⟨(s.station st).config, state, (s.station st).config.initialLag, 0, false, 0⟩ ∧
      (s.Bound st → state = .opened) ∧ (¬s.Bound st → state = .unused) :=
  ⟨_, rfl, fun h => if_pos (State.Bound_iff.mp h), fun h => if_neg (State.Bound_iff.not.mp h)⟩

@[simp] theorem State.station_post (r : PortId → Bool) (b : NoticeBody) (s : State) (st : StationId) :
    (s.post r b).station st = s.station st := rfl

@[simp] theorem State.station_answer (p : PortId) (c : Cmd) (status : Status) (d : ReplyData) (s : State) (st : StationId) :
    (s.answer p c status d).station st = s.station st := rfl

/-- The stations of a service just opened (R6). -/
theorem State.openService_station (s : State) (st : StationId) :
    s.openService.station st = stationAtStart (s.station st).config (if s.stationBound (s.station st) then .opened else .unused) := by
  rw [State.openService, State.station_post, State.readyStations_station]
  rfl

/-- Settles O17: the two refusals, and the acceptance station by station and port by port. -/
theorem openServiceOpens : Obligations.OpenServiceOpens := by
  intro w s ht hp
  have hex : exec (.openService w) s = .next (ownOpenService w.port () (s.handed .openService w.port)) :=
    congrArg Host.Outcome.next (State.frame_of_takes (owner := ownOpenService) ht (by rw [hp]; rfl))
  rw [hex]
  refine ⟨fun hs hb => ?_, fun hs hb => ?_, fun hs => ?_⟩
  · have hb' : (allStations.any fun st => (s.handed .openService w.port).stationBound ((s.handed .openService w.port).station st)) = true :=
      State.exists_bound_iff.mp (by simpa only [State.handed_Bound] using hb)
    rw [ownOpenService, if_neg (by simpa using hs), if_pos hb']
    refine ⟨_, rfl, rfl, fun st => ?_, fun q hq => ?_, ?_⟩
    · have : (((s.handed .openService w.port).openService.answer w.port .openService .ok (.service .opened)).station st) =
          stationAtStart (s.station st).config (if s.stationBound (s.station st) then .opened else .unused) := by
        rw [State.station_answer, State.openService_station, State.handed_stationBound, State.handed_station]
      rw [this]
      exact stationAtStart_of_bound s st
    · rw [State.answer, State.reply, State.port_modPort_ne hq, State.openService_port, State.handed_port_ne hq]
    · rw [State.port_answer, State.openService_port, State.handed_port]
      exact PortUnit.placeReply_append_handOver ht.still _ _ _ _
  · have hb' : (allStations.any fun st => (s.handed .openService w.port).stationBound ((s.handed .openService w.port).station st)) = false :=
      Bool.eq_false_iff.mpr fun h => hb (by simpa only [State.handed_Bound] using State.exists_bound_iff.mpr h)
    rw [ownOpenService, if_neg (by simpa using hs), if_neg (by rw [hb']; simp)]
    exact congrArg _ (State.answer_handed ht.still _ _)
  · rw [ownOpenService, if_pos (by simpa using hs)]
    exact congrArg _ (State.answer_handed ht.still _ _)

/-! ## SERVICE RESET -/

/-- The stations after SERVICE RESET (R10). -/
theorem State.resetService_station (p : PortId) (s : State) (st : StationId) :
    (s.resetService p).station st = stationAtStart (s.station st).config (if s.stationBound (s.station st) then .opened else .unused) := by
  rw [State.resetService, State.station_post, State.station_mapPorts]
  exact State.readyStations_station s.restartNumbers st

/-- A port unit whose queue SERVICE RESET emptied and that was handed the SERVICE (RESET) notice (R11, R147). -/
def PortUnit.cleared (u : PortUnit) : PortUnit :=
  { u with
    notices := [⟨0, .service .closed .reset⟩], overrun := false, attention := .asserted, relTimer := none, absTimer := none
    reading := u.reading.map Reading.noticeGone }

theorem PortUnit.emptyQueue_append (u : PortUnit) : u.emptyQueue.append ⟨0, .service .closed .reset⟩ = u.cleared := by
  unfold PortUnit.emptyQueue PortUnit.releaseIfDry PortUnit.append
  dsimp only
  split <;> simp [PortUnit.cleared, PortUnit.assertLine, NoticeBody.urgent, Config.noticeCapacity]

/-- What a port samples and is set to, and its counters, which an abort leaves (R11). -/
theorem PortUnit.abort_same (u : PortUnit) : SamePort u u.abort := by
  unfold PortUnit.abort
  split
  · exact u.placeReply_same _ _
  · exact ⟨rfl, rfl, rfl, rfl, rfl, rfl, rfl⟩
  · exact ⟨rfl, rfl, rfl, rfl, rfl, rfl, rfl⟩

theorem PortUnit.abort_of_busy {u : PortUnit} {code : Byte} (h : u.slot = .busy code) :
    u.abort = u.placeReply false ⟨code, .aborted, .empty⟩ := by
  simp [PortUnit.abort, h]

theorem PortUnit.abort_of_not_busy {u : PortUnit} (h : u.slot.isBusy = false) : u.abort = u := by
  cases hs : u.slot with
  | busy code => simp [hs, ReplySlot.isBusy] at h
  | empty | ready r => simp [PortUnit.abort, hs]

/-- A port where no read is held keeps its reading and its collided flag through an abort. -/
theorem PortUnit.abort_of_still {u : PortUnit} (h : u.stretch = none) : u.abort.reading = u.reading ∧ u.abort.collided = u.collided := by
  unfold PortUnit.abort
  split
  · rcases u.placeReply_spec false ⟨_, .aborted, .empty⟩ with ⟨_, k⟩ | ⟨k, _⟩
    · rw [k]; exact ⟨rfl, rfl⟩
    · simp [h] at k
  · exact ⟨rfl, rfl⟩
  · exact ⟨rfl, rfl⟩

/-- A held read is answered by the abort (R11, R145). -/
theorem PortUnit.abort_of_held {u : PortUnit} {code : Byte} (h : u.slot = .busy code) (hs : u.stretch ≠ none) :
    u.abort.stretch = none ∧ u.abort.collided = false ∧ ∃ status, u.abort.reading = some ⟨status, .reply ⟨code, .aborted, .empty⟩, true⟩ := by
  have h2 : u.stretch.isSome = true := Option.isSome_iff_ne_none.mpr hs
  rw [PortUnit.abort_of_busy h]
  refine ⟨?_, ?_, ?_⟩ <;> simp [PortUnit.placeReply, PortUnit.assertLine, h2, PortUnit.makeUp, PortUnit.chooseRecord]

theorem Reading.noticeGone_of_not_notice {r : Reading} (h : ∀ n, r.record ≠ .notice n) : r.noticeGone = r := by
  unfold Reading.noticeGone
  split
  · next n hn => exact absurd hn (h n)
  · rfl
  · rfl

theorem Reading.noticeGone_of_notice {r : Reading} {n : Notice} (h : r.record = .notice n) : r.noticeGone = ⟨r.status, .notice n, false⟩ := by
  rcases r with ⟨status, record, live⟩
  cases h
  rfl

/-- A delivery that changes the unit of its port not at all changes nothing. -/
theorem State.modPort_eq_self {s : State} {p : PortId} {f : PortUnit → PortUnit} (h : f (s.port p) = s.port p) : s.modPort p f = s := by
  have : s.ports.set p (s.port p) = s.ports := by
    ext i hi
    rw [Vector.getElem_set]
    split
    · next e => subst e; rfl
    · rfl
  rw [State.modPort, h, this]

/-- The port units after a SERVICE RESET of port `p`, its reply placed. -/
theorem State.port_serviceReset {s : State} {p : PortId} (hs : (s.port p).stretch = none) (q : PortId) :
    (ownServiceReset p () (s.handed .serviceReset p)).port q =
      if q = p then (s.port p).cleared.answered ⟨0x03, .ok, .service .closed⟩ else (s.port q).abort.cleared := by
  unfold ownServiceReset
  rw [State.answer, State.reply, State.port_modPort]
  split
  · next h =>
    subst h
    rw [State.resetService_port, if_pos rfl, PortUnit.emptyQueue_append, State.handed_port]
    have : ((s.port q).endRead.handOver Cmd.serviceReset.code).cleared = (s.port q).cleared.endRead.handOver Cmd.serviceReset.code := rfl
    rw [this]
    exact PortUnit.placeReply_handOver (u := (s.port q).cleared) hs _ _ _
  · next h => rw [State.resetService_port, if_neg h, PortUnit.emptyQueue_append, State.handed_port_ne h]

/-- Settles O19: the records discarded, the stations readied, and each port by what it was doing. -/
theorem serviceResetDiscards : Obligations.ServiceResetDiscards := by
  intro w s ht hp
  have hex : exec (.serviceReset w) s = .next (ownServiceReset w.port () (s.handed .serviceReset w.port)) :=
    congrArg Host.Outcome.next (State.frame_of_takes (owner := ownServiceReset) ht (by rw [hp]; rfl))
  have hport := State.port_serviceReset ht.still
  refine ⟨_, hex, rfl, fun v => ?_, fun st => ?_, fun q => ?_, fun q hq => ?_, ?_, ?_⟩
  · have : (ownServiceReset w.port () (s.handed .serviceReset w.port)).wave v = freeWave := by
      show (Vector.replicate 32 freeWave)[v] = freeWave
      simp
    rw [this]
    exact ⟨rfl, rfl, rfl⟩
  · have : (ownServiceReset w.port () (s.handed .serviceReset w.port)).station st =
        stationAtStart (s.station st).config (if s.stationBound (s.station st) then .opened else .unused) := by
      rw [ownServiceReset, State.station_answer, State.resetService_station, State.handed_stationBound, State.handed_station]
    rw [this]
    exact stationAtStart_of_bound s st
  · rw [hport]
    split
    · next h => subst h; exact ⟨rfl, rfl, rfl, rfl, rfl, rfl, rfl, rfl, fun _ => rfl, rfl, rfl, rfl⟩
    · have k := (s.port q).abort_same
      exact ⟨rfl, rfl, rfl, rfl, rfl, k.role, k.address, k.stretchMode, fun h => (PortUnit.abort_of_still h).2, k.relDelay, k.absDelay, k.muted⟩
  · have hq' := hport q
    rw [if_neg hq] at hq'
    rw [hq']
    refine ⟨(s.port q).abort_same.errors, fun code hc => ⟨?_, fun hst => ?_⟩, fun hst => ⟨fun hr => ?_, fun r hr hn => ?_, fun r n hr hn => ?_⟩,
      fun r hr => ?_, fun he => ?_⟩
    · show (s.port q).abort.slot = _
      rw [PortUnit.abort_of_busy hc, PortUnit.placeReply_slot]
    · obtain ⟨h1, h2, status, h3⟩ := PortUnit.abort_of_held hc hst
      exact ⟨h1, h2, status, by simp [PortUnit.cleared, h3, Reading.noticeGone]⟩
    · simp [PortUnit.cleared, (PortUnit.abort_of_still hst).1, hr]
    · simp [PortUnit.cleared, (PortUnit.abort_of_still hst).1, hr, Reading.noticeGone_of_not_notice hn]
    · have hread : (s.port q).abort.cleared.reading = some ⟨r.status, .notice n, false⟩ := by
        simp [PortUnit.cleared, (PortUnit.abort_of_still hst).1, hr, Reading.noticeGone_of_notice hn]
      refine ⟨hread, congrArg Host.Outcome.next (State.modPort_eq_self (f := PortUnit.deliver) ?_)⟩
      rw [hq', PortUnit.deliver, hread]
    · show (s.port q).abort.slot = _
      rw [PortUnit.abort_of_not_busy (by simp [hr, ReplySlot.isBusy]), hr]
    · show (s.port q).abort.slot = _
      rw [PortUnit.abort_of_not_busy (by simp [he, ReplySlot.isBusy]), he]
  · rw [hport, if_pos rfl]; rfl
  · rw [hport, if_pos rfl]; rfl

/-! ## SET LIMITS and STATUS -/

/-- Settles O20: the limit stored in CLOSED alone, and the report read from the state the hand-over left. -/
theorem limitsAndStatus : Obligations.LimitsAndStatus := by
  intro w s
  refine ⟨fun v ht hp => ?_, fun ht hp => ?_⟩
  · have hex : exec (.setLimits w) s = .next (ownSetLimits w.port v.toNat (s.handed .setLimits w.port)) :=
      congrArg Host.Outcome.next (State.frame_of_takes (owner := ownSetLimits) ht (by rw [hp]; rfl))
    rw [hex]
    refine ⟨fun hs => ?_, fun hs => ?_⟩
    · rw [ownSetLimits, if_neg (by simpa using hs), State.answer_of_ports (t := { s.handed .setLimits w.port with refireLimit := min v.toNat 7 })
        ht.still rfl]
      have : clampStatus (decide (7 < v.toNat)) = if 7 < v.toNat then .clamped else .ok := by simp [clampStatus]
      rw [this]
      rfl
    · rw [ownSetLimits, if_pos (by simpa using hs)]
      exact congrArg _ (State.answer_handed ht.still _ _)
  · have hex : exec (.status w) s = .next (ownStatus w.port () (s.handed .status w.port)) :=
      congrArg Host.Outcome.next (State.frame_of_takes (owner := ownStatus) ht (by rw [hp]; rfl))
    rw [hex, ownStatus, State.answer_handed ht.still]
    have : (s.handed .status w.port).statusReport w.port =
        { service := s.service, clock := s.clock, tickets := s.tickets.length, lines := (s.tickets.map fun t => t.lines.length).sum
          slips := s.slips.length, refireLimit := s.refireLimit
          ticketsLeft := if s.ticketsExhausted then 0 else 65536 - s.nextTicket
          slipsLeft := if s.slipsExhausted then 0 else 65536 - s.nextSlip
          collided := (s.port w.port).collided, overrun := (s.port w.port).overrun, muted := (s.port w.port).muted
          errors := (s.port w.port).errorsAfter } := by
      unfold State.statusReport
      rw [State.handed_port]
      rfl
    rw [this]
    rfl

end Sys2Proof.Machine
end

section
/-! SUPPORT. The wave commands that work on no ticket and no station, and the reach of a delay (chapter 2). -/

namespace Sys2Proof.Machine

/-! ## Records that a notice and a reply leave -/

@[simp] theorem State.wave_post (r : PortId → Bool) (b : NoticeBody) (s : State) (v : WaveId) : (s.post r b).wave v = s.wave v := rfl
@[simp] theorem State.slips_post (r : PortId → Bool) (b : NoticeBody) (s : State) : (s.post r b).slips = s.slips := rfl
@[simp] theorem State.tickets_post (r : PortId → Bool) (b : NoticeBody) (s : State) : (s.post r b).tickets = s.tickets := rfl
@[simp] theorem State.wave_answer (p : PortId) (c : Cmd) (st : Status) (d : ReplyData) (s : State) (v : WaveId) :
    (s.answer p c st d).wave v = s.wave v := rfl
@[simp] theorem State.slips_answer (p : PortId) (c : Cmd) (st : Status) (d : ReplyData) (s : State) : (s.answer p c st d).slips = s.slips := rfl
@[simp] theorem State.tickets_answer (p : PortId) (c : Cmd) (st : Status) (d : ReplyData) (s : State) :
    (s.answer p c st d).tickets = s.tickets := rfl

/-! ## Lookups -/

theorem State.slip?_eq_some {s : State} {n : Nat} {x : Slip} (h : s.slip? n = some x) : x.number = n ∧ x ∈ s.slips :=
  ⟨by simpa using List.find?_some h, List.mem_of_find?_eq_some h⟩

theorem State.ticket?_eq_some {s : State} {n : Nat} {t : Ticket} (h : s.ticket? n = some t) : t.number = n ∧ t ∈ s.tickets :=
  ⟨by simpa using List.find?_some h, List.mem_of_find?_eq_some h⟩

theorem State.slip?_eq_none {s : State} {n : Nat} : s.slip? n = none ↔ ∀ x ∈ s.slips, x.number ≠ n := by
  simp [State.slip?]

theorem State.ticket?_eq_none {s : State} {n : Nat} : s.ticket? n = none ↔ ∀ t ∈ s.tickets, t.number ≠ n := by
  simp [State.ticket?]

/-! ## The sweep -/

/-- A table's offset, mirrored for DOWN (R18). -/
def Sweep.offset (v : Sweep) (t : Nat) : Nat := if v.direction = .down then v.count - 1 - (t - v.first) else t - v.first

theorem Sweep.position_eq (v : Sweep) (t : Nat) : v.position t =
    if v.interlace = true then
      if v.offset t % 2 = 0 then v.offset t / 2 else (v.count + 1) / 2 + (v.offset t - 1) / 2
    else v.offset t := rfl

/-- The table of an offset. -/
theorem Sweep.offset_surj {v : Sweep} {o : Nat} (ho : o < v.count) :
    ∃ t, v.first ≤ t ∧ t ≤ v.first + v.count - 1 ∧ v.offset t = o := by
  unfold Sweep.offset
  by_cases hd : v.direction = .down
  · exact ⟨v.first + (v.count - 1 - o), by omega, by omega, by rw [if_pos hd]; omega⟩
  · exact ⟨v.first + o, by omega, by omega, by rw [if_neg hd]; omega⟩

theorem Sweep.offset_inj {v : Sweep} {t u : Nat} (ht : v.first ≤ t ∧ t ≤ v.first + v.count - 1) (hu : v.first ≤ u ∧ u ≤ v.first + v.count - 1)
    (h : v.offset t = v.offset u) : t = u := by
  unfold Sweep.offset at h
  split at h <;> omega

theorem Sweep.offset_lt {v : Sweep} {t : Nat} (hn : 1 ≤ v.count) (ht : t ≤ v.first + v.count - 1) : v.offset t < v.count := by
  unfold Sweep.offset
  split <;> omega

/-- Settles O22: the offset is a bijection, and so is the split into even and odd offsets. -/
theorem sweepPositionsPermute : Obligations.SweepPositionsPermute := by
  intro v hn
  refine ⟨fun t _ h2 => ⟨v.offset t, rfl, fun hi => ?_, fun hi he => ?_, fun hi ho => ?_, ?_⟩, fun p hp => ?_⟩
  · rw [Sweep.position_eq, hi]; rfl
  · rw [Sweep.position_eq, if_pos hi, if_pos he]
  · rw [Sweep.position_eq, if_pos hi, if_neg (by omega)]
  · have := Sweep.offset_lt hn h2
    rw [Sweep.position_eq]
    split
    · split <;> omega
    · exact this
  · have key : ∃ o, o < v.count ∧ ∀ t, v.first ≤ t → t ≤ v.first + v.count - 1 → (v.position t = p ↔ v.offset t = o) := by
      by_cases hi : v.interlace = true
      · by_cases hh : p < (v.count + 1) / 2
        · refine ⟨2 * p, by omega, fun t _ h2 => ?_⟩
          have := Sweep.offset_lt hn h2
          rw [Sweep.position_eq, if_pos hi]
          split <;> omega
        · refine ⟨2 * (p - (v.count + 1) / 2) + 1, by omega, fun t _ h2 => ?_⟩
          have := Sweep.offset_lt hn h2
          rw [Sweep.position_eq, if_pos hi]
          split <;> omega
      · exact ⟨p, hp, fun t _ _ => by rw [Sweep.position_eq, if_neg hi]⟩
    obtain ⟨o, ho, hiff⟩ := key
    obtain ⟨t, h1, h2, hto⟩ := Sweep.offset_surj ho
    refine ⟨t, ⟨h1, h2, (hiff t h1 h2).mpr hto⟩, ?_⟩
    rintro u ⟨k1, k2, hu⟩
    exact Sweep.offset_inj ⟨k1, k2⟩ ⟨h1, h2⟩ (((hiff u k1 k2).mp hu).trans hto.symm)

/-! ## The freeing of a wave -/

/-- What a wave owes before it is FREE: it is SEALED and has no ticket and no slip (R22). -/
def State.Done (s : State) (w : WaveId) : Prop := (s.wave w).state = .sealed ∧ s.ticketCount w = 0 ∧ s.slipCount w = 0

theorem State.freeIfDone_of_done {s : State} {w : WaveId} (h : s.Done w) :
    s.freeIfDone w = ((s.endDelayOf w).modWave w fun _ => freeWave).post s.watchers (.waveFree w) := if_pos h

theorem State.freeIfDone_of_not_done {s : State} {w : WaveId} (h : ¬s.Done w) : s.freeIfDone w = s := if_neg h

theorem State.endDelayOf_of_some {s : State} {w : WaveId} {d : Delay} (h : (s.wave w).delay = some d) :
    s.endDelayOf w = s.endDelay w d := by
  simp [State.endDelayOf, h]

theorem State.endDelayOf_of_none {s : State} {w : WaveId} (h : (s.wave w).delay = none) : s.endDelayOf w = s := by
  simp [State.endDelayOf, h]

/-- The end of a delay touches the waves and the ports alone. -/
theorem State.endDelayOf_frame (s : State) (w : WaveId) :
    s.endDelayOf w = { s with waves := (s.endDelayOf w).waves, ports := (s.endDelayOf w).ports } := by
  unfold State.endDelayOf
  split <;> rfl

theorem State.freeIfDone_frame (s : State) (w : WaveId) :
    s.freeIfDone w = { s with waves := (s.freeIfDone w).waves, ports := (s.freeIfDone w).ports } := by
  by_cases h : s.Done w
  · rw [State.freeIfDone_of_done h]
    have := s.endDelayOf_frame w
    generalize s.endDelayOf w = a at *
    rw [this]
    rfl
  · rw [State.freeIfDone_of_not_done h]

theorem State.endDelayOf_wave_ne (s : State) {w v : WaveId} (h : v ≠ w) : (s.endDelayOf w).wave v = s.wave v := by
  unfold State.endDelayOf
  split
  · rw [State.endDelay, State.wave_answer, State.wave_modWave_ne h]
  · rfl

/-- The freeing of a done wave leaves it FREE, and every other wave as it was (R22). -/
theorem State.freeIfDone_wave_self {s : State} {w : WaveId} (h : s.Done w) : (s.freeIfDone w).wave w = freeWave := by
  rw [State.freeIfDone_of_done h, State.wave_post, State.wave_modWave_self]

theorem State.freeIfDone_wave_ne (s : State) {w v : WaveId} (h : v ≠ w) : (s.freeIfDone w).wave v = s.wave v := by
  by_cases hd : s.Done w
  · rw [State.freeIfDone_of_done hd, State.wave_post, State.wave_modWave_ne h, s.endDelayOf_wave_ne h]
  · rw [State.freeIfDone_of_not_done hd]

theorem State.freeIfDone_told {s : State} {w : WaveId} (h : s.Done w) {q : PortId} (hq : s.watchers q = true) :
    ((s.freeIfDone w).port q).Told ⟨s.clock, .waveFree w⟩ := by
  rw [State.freeIfDone_of_done h]
  exact ((Kept.endDelayOf w s).trans (.modWave _ w _)).told_post hq _

/-- The ports at the freeing of a done wave: a delay's reply at its port, then WAVE_FREE at the watchers (R22, R28). -/
theorem State.freeIfDone_port {s : State} {w : WaveId} (h : s.Done w) (q : PortId) :
    (s.freeIfDone w).port q =
      if s.watchers q = true then ((s.endDelayOf w).port q).append ⟨s.clock, .waveFree w⟩ else (s.endDelayOf w).port q := by
  have hc : (s.endDelayOf w).clock = s.clock := (Kept.endDelayOf w s).clock
  rw [State.freeIfDone_of_done h, State.port_post, ← hc]
  rfl

/-- The reply of a delay that ends (R29). -/
def Delay.reply (d : Delay) (w : WaveId) (start passed : Nat) : Reply :=
  ⟨Cmd.delayWave.code, clampStatus d.clamped, .delay w start d.amount d.shifted d.unchanged passed⟩

theorem State.endDelay_port (s : State) (w : WaveId) (d : Delay) (q : PortId) :
    (s.endDelay w d).port q = if q = d.port then
      (s.port d.port).placeReply s.inService (d.reply w (s.wave w).sweep.start (d.passed + d.slips.length)) else s.port q := by
  unfold State.endDelay State.answer State.reply
  rw [State.port_modPort]
  rfl

/-- The answer of an owner that changed no port, `u` being the state it made with the ports as they were. -/
theorem State.answer_eq_answered {s t u : State} {p : PortId} {c : Cmd} (hs : (s.port p).stretch = none)
    (ht : t.ports = (s.handed c p).ports) (hu : u = { t with ports := s.ports }) (st : Status) (d : ReplyData) :
    t.answer p c st d = u.answered p ⟨c.code, st, d⟩ := by
  rw [hu]
  exact State.answer_of_ports hs ht st d

/-- A port that holds a reply placed since its read was still or answered has no read held. -/
theorem PortUnit.placeReply_stretch (b : Bool) (r : Reply) (u : PortUnit) : (u.placeReply b r).stretch = none := by
  rcases u.placeReply_spec b r with ⟨hs, h⟩ | ⟨_, h⟩
  · rw [h]; exact hs
  · rw [h]; rfl

/-! ## Waves named by a frame -/

theorem parseWave_byte (v : WaveId) : parseWave [byte v.val] = some v := below_byte v (by omega)

section Frames
variable {w : Written} {s : State} {v : WaveId}

/-- The frame of a wave command that its port takes is handed to its owner with the wave it names. -/
theorem State.frame_of_wave {c : Cmd} {owner : PortId → WaveId → State → State} (h : Takes c w s)
    (hp : paramsOf w.body = some [byte v.val]) : s.frame c parseWave owner w = owner w.port v (s.handed c w.port) :=
  State.frame_of_takes h (by rw [hp]; exact parseWave_byte v)

end Frames

/-! ## SEAL WAVE -/

theorem State.sealWave_of_opened {s : State} {v : WaveId} (h : (s.wave v).state = .opened) :
    s.sealWave v = (s.modWave v fun u => { u with state := .sealed }).freeIfDone v := if_pos h

theorem State.sealWave_of_not_opened {s : State} {v : WaveId} (h : (s.wave v).state ≠ .opened) : s.sealWave v = s := if_neg h

/-- A wave just sealed is done exactly where it has no work. -/
theorem State.done_sealed {s : State} {v : WaveId} :
    (s.modWave v fun u => { u with state := .sealed }).Done v ↔ s.ticketCount v = 0 ∧ s.slipCount v = 0 := by
  unfold State.Done
  rw [State.wave_modWave_self]
  exact ⟨fun h => h.2, fun h => ⟨rfl, h⟩⟩

/-- A notice that is not urgent leaves an asserted line asserted (R162). -/
theorem PortUnit.append_asserted {u : PortUnit} (h : u.attention = .asserted) (n : Notice) : (u.append n).attention = .asserted := by
  rcases u.append_spec n with ⟨_, k⟩ | ⟨_, _, ⟨_, k⟩ | ⟨_, k⟩⟩ | ⟨_, _, k⟩
  · rw [k, h]
  · rw [k]; rfl
  · rw [k, PortUnit.waitLine_of_asserted (by exact h)]; exact h
  · rw [k]; rfl

/-- A second reply takes the place of the first, the notice between them kept (R141, R161). -/
theorem PortUnit.answered_over_reply {u : PortUnit} (h : u.stretch = none) (b b' : Bool) (c : Byte) (r r' : Reply) (n : Notice)
    (hn : n.body.urgent = false) :
    (((u.endRead.handOver c).placeReply b r).append n).placeReply b' r' = (u.append n).answered r' := by
  rw [PortUnit.placeReply_handOver h]
  unfold PortUnit.append PortUnit.waitLine PortUnit.assertLine PortUnit.placeReply PortUnit.answered PortUnit.errorsAfter PortUnit.assertLine
  simp only [hn, h]
  repeat' split
  all_goals simp_all

theorem permits_seal {r : Role} (h : permits .sealWave r = true) : r = .pass := by simpa [permits] using h

/-- Settles O23: the four states of the wave; at the freeing, port by port. -/
theorem sealWaveSeals : Obligations.SealWaveSeals := by
  intro w s v ht hp
  have hex : exec (.sealWave w) s = .next (ownSealWave w.port v (s.handed .sealWave w.port)) :=
    congrArg Host.Outcome.next (State.frame_of_wave (owner := ownSealWave) ht hp)
  rw [hex]
  have hdone : ((s.handed .sealWave w.port).modWave v fun u => { u with state := .sealed }).Done v ↔ s.ticketCount v = 0 ∧ s.slipCount v = 0 :=
    State.done_sealed
  refine ⟨fun hs => ?_, fun hs => ?_, fun hs hn => ?_, fun hs htk hsl => ?_⟩
  · rw [ownSealWave, if_pos (by simpa using hs)]
    exact congrArg _ (State.answer_handed ht.still _ _)
  · rw [ownSealWave, if_neg (by simp [hs]), State.sealWave_of_not_opened (by simp [hs]), State.handed_wave, hs]
    exact congrArg _ (State.answer_handed ht.still _ _)
  · rw [ownSealWave, if_neg (by simp [hs]), State.sealWave_of_opened (by simp [hs]), State.freeIfDone_of_not_done (by rw [hdone]; exact hn),
      State.wave_modWave_self]
    exact congrArg _ (State.answer_eq_answered ht.still (by rfl) (by rfl) _ _)
  · rw [ownSealWave, if_neg (by simp [hs]), State.sealWave_of_opened (by simp [hs])]
    set a := (s.handed .sealWave w.port).modWave v fun u => { u with state := .sealed } with ha
    have had : a.Done v := hdone.mpr ⟨htk, hsl⟩
    have hap (q : PortId) : a.port q = (s.handed .sealWave w.port).port q := rfl
    have hclock : a.clock = s.clock := rfl
    have hwatch (q : PortId) : a.watchers q = true ↔ (s.port q).role = .pass ∨ (s.port q).role = .monitor := by
      rw [State.watchers_iff, hap, State.handed_role]
    have hself : a.watchers w.port = true := (hwatch _).mpr (.inl (permits_seal ht.permitted))
    have hdelay : (a.wave v).delay = (s.wave v).delay := by rw [ha, State.wave_modWave_self, State.handed_wave]
    have hstart : (a.wave v).sweep = (s.wave v).sweep := by rw [ha, State.wave_modWave_self, State.handed_wave]
    refine ⟨_, rfl, ?_, ?_, ?_, ?_, fun u hu => ?_, ?_, fun q hq hd => ?_, fun d hd hdp => ?_⟩
    · have := a.freeIfDone_frame v
      generalize a.freeIfDone v = b at *
      rw [this]
      rfl
    · rw [State.wave_answer, State.freeIfDone_wave_self had]; rfl
    · rw [State.wave_answer, State.freeIfDone_wave_self had]; rfl
    · rw [State.wave_answer, State.freeIfDone_wave_self had]; rfl
    · rw [State.wave_answer, State.freeIfDone_wave_ne a hu, ha, State.wave_modWave_ne hu, State.handed_wave]
    · rw [State.port_answer, State.freeIfDone_wave_self had, State.freeIfDone_port had, if_pos hself, hclock]
      cases hd : (s.wave v).delay with
      | none =>
        rw [State.endDelayOf_of_none (hdelay.trans hd), hap, State.handed_port]
        exact PortUnit.placeReply_append_handOver ht.still _ _ _ _
      | some d =>
        rw [State.endDelayOf_of_some (hdelay.trans hd), State.endDelay_port]
        split
        · next hq =>
          rw [← hq, hap, State.handed_port]
          exact PortUnit.answered_over_reply ht.still _ _ _ _ _ _ rfl
        · rw [hap, State.handed_port]
          exact PortUnit.placeReply_append_handOver ht.still _ _ _ _
    · have hend : (a.endDelayOf v).port q = s.port q := by
        cases hdl : (s.wave v).delay with
        | none => rw [State.endDelayOf_of_none (hdelay.trans hdl), hap, State.handed_port_ne hq]
        | some d => rw [State.endDelayOf_of_some (hdelay.trans hdl), State.endDelay_port, if_neg (hd d hdl), hap, State.handed_port_ne hq]
      rw [State.answer, State.reply, State.port_modPort_ne hq, State.freeIfDone_port had, hend, hclock]
      simp only [hwatch]
    · have hend : (a.endDelayOf v).port d.port = (s.port d.port).placeReply a.inService (d.reply v (s.wave v).sweep.start (d.passed + d.slips.length)) := by
        rw [State.endDelayOf_of_some (hdelay.trans hd), State.endDelay_port, if_pos rfl, hap, State.handed_port_ne hdp, hstart]
      have hst : (d.reply v (s.wave v).sweep.start (d.passed + d.slips.length)) = ⟨0x14, if d.clamped then .clamped else .ok,
          .delay v (s.wave v).sweep.start d.amount d.shifted d.unchanged (d.passed + d.slips.length)⟩ := rfl
      rw [← hst]
      generalize d.reply v (s.wave v).sweep.start (d.passed + d.slips.length) = r at hend ⊢
      obtain ⟨e1, e2, -⟩ := PortUnit.placeReply_effect a.inService r (s.port d.port)
      have e3 := PortUnit.placeReply_stretch a.inService r (s.port d.port)
      rw [State.answer, State.reply, State.port_modPort_ne hdp, State.freeIfDone_port had, hend, hclock]
      split
      · exact ⟨(PortUnit.append_slot _ _).trans e1, PortUnit.append_asserted e2 _, (PortUnit.append_stretch _ _).trans e3,
          fun _ => (PortUnit.toldLast_append _ _).told⟩
      · next h => exact ⟨e1, e2, e3, fun hw => absurd ((hwatch _).mpr hw) h⟩

/-! ## HOLD WAVE, and RELEASE WAVE of a wave that is not held -/

/-- Settles O24: the hold flag set alone, and nothing released. -/
theorem holdSetAndReleaseOfUnheld : Obligations.HoldSetAndReleaseOfUnheld := by
  intro w s v hp
  refine ⟨fun ht => ?_, fun ht => ?_⟩
  · have hex : exec (.holdWave w) s = .next (ownHoldWave w.port v (s.handed .holdWave w.port)) :=
      congrArg Host.Outcome.next (State.frame_of_wave (owner := ownHoldWave) ht hp)
    rw [hex]
    refine ⟨fun hs => ?_, fun hs => ?_⟩
    · rw [ownHoldWave, if_pos (by simpa using hs)]
      exact congrArg _ (State.answer_handed ht.still _ _)
    · rw [ownHoldWave, if_neg (by simpa using hs)]
      exact congrArg _ (State.answer_eq_answered ht.still (by rfl) (by rfl) _ _)
  · have hex : exec (.releaseWave w) s = .next (ownReleaseWave w.port v (s.handed .releaseWave w.port)) :=
      congrArg Host.Outcome.next (State.frame_of_wave (owner := ownReleaseWave) ht hp)
    rw [hex]
    refine ⟨fun hs => ?_, fun hs hh => ?_⟩
    · rw [ownReleaseWave, if_pos (by simpa using hs)]
      exact congrArg _ (State.answer_handed ht.still _ _)
    · rw [ownReleaseWave, if_neg (by simpa using hs), if_neg (by simp [hh])]
      exact congrArg _ (State.answer_handed ht.still _ _)

/-! ## QUERY WAVE -/

/-- Settles O29: the report field by field; the free values only where no delay is in flight. -/
theorem queryWaveReports : Obligations.QueryWaveReports := by
  intro w s v ht hp
  have hex : exec (.queryWave w) s = .next (ownQueryWave w.port v (s.handed .queryWave w.port)) :=
    congrArg Host.Outcome.next (State.frame_of_wave (owner := ownQueryWave) ht hp)
  rw [hex]
  refine ⟨fun hs => ?_, fun d hs hd => ?_, fun hs hd => ?_⟩
  · rw [ownQueryWave, if_pos (by simpa using hs)]
    exact congrArg _ (State.answer_handed ht.still _ _)
  · rw [ownQueryWave, if_neg (by simpa using hs), if_pos (by simp [hd]), State.answer_handed ht.still]
    simp only [State.waveReport, State.handed_wave, hd]
    rfl
  · refine ⟨Config.absentDelayAmount s.freeCount, Config.absentDelayLeft s.freeCount, ?_⟩
    rw [ownQueryWave, if_neg (by simpa using hs), if_neg (by simp [hd])]
    refine congrArg _ ((State.answer_eq_answered ht.still (by rfl) (by rfl) _ _).trans ?_)
    simp only [State.waveReport, State.handed_wave, hd]
    rfl


/-! ## DELAY WAVE -/

/-- A two-byte signed number in two's complement, written out (10.1). -/
theorem signed16_eq (hi lo : Byte) : signed16 hi lo =
    if hi.toNat < 128 then (hi.toNat * 256 + lo.toNat : Int) else hi.toNat * 256 + lo.toNat - 65536 := by
  have h1 := hi.isLt
  have h2 := lo.isLt
  have happ : (hi ++ lo : BitVec 16).toNat = hi.toNat * 256 + lo.toNat := by
    rw [BitVec.toNat_append, ← Nat.shiftLeft_add_eq_or_of_lt h2, Nat.shiftLeft_eq]
  rw [signed16, BitVec.toInt_eq_toNat_cond, happ]
  split <;> split <;> omega

theorem moveTime_eq (t : Nat) (delta : Int) : (moveTime t delta : Int) = max 0 (min 65535 ((t : Int) + delta)) := by
  unfold moveTime clampInt
  omega

theorem State.delayList_eq (s : State) (v : WaveId) :
    s.delayList v = (s.slips.filter fun x => decide (x.wave = v) && x.isPending).map fun x => (x.number, false) := rfl

/-- Settles O27: the refusals, the amount 0, and the start of a delay with a list or without. -/
theorem delayWaveStarts : Obligations.DelayWaveStarts := by
  intro w s v d1 d0 ht hp
  have hparse : parseDelay [byte v.val, d1, d0] = some (v, signed16 d1 d0) := by
    have : waveField (byte v.val) = some v := below_byte v (by omega)
    simp [parseDelay, this]
  have hex : exec (.delayWave w) s = .next (ownDelayWave w.port (v, signed16 d1 d0) (s.handed .delayWave w.port)) :=
    congrArg Host.Outcome.next (State.frame_of_takes (owner := ownDelayWave) ht (by rw [hp]; exact hparse))
  rw [hex]
  refine ⟨fun hs => ?_, fun hs hd => ?_, fun hs hd => ⟨signed16 d1 d0, clampInt (-600) 3600 (signed16 d1 d0),
    moveTime (s.wave v).sweep.start (clampInt (-600) 3600 (signed16 d1 d0)), s.delayList v, signed16_eq d1 d0, rfl, moveTime_eq _ _,
    s.delayList_eq v, fun ha => ?_, fun ha hl => ?_, fun ha hl => ?_⟩⟩
  · rw [ownDelayWave]
    exact congrArg _ ((if_pos hs).trans (State.answer_handed ht.still _ _))
  · rw [ownDelayWave]
    exact congrArg _ ((if_neg hs).trans ((if_pos (by simpa [Option.isSome_iff_ne_none] using hd)).trans (State.answer_handed ht.still _ _)))
  all_goals
    have hown : ownDelayWave w.port (v, signed16 d1 d0) (s.handed .delayWave w.port) =
        if clampInt (-600) 3600 (signed16 d1 d0) = 0 then
          (s.handed .delayWave w.port).answer w.port .delayWave .ok (.delay v (s.wave v).sweep.start 0 0 0 0)
        else (s.handed .delayWave w.port).startDelay w.port v (clampInt (-600) 3600 (signed16 d1 d0))
          (clampInt (-600) 3600 (signed16 d1 d0) != signed16 d1 d0) :=
      (if_neg hs).trans (if_neg (by simp [hd]))
    rw [hown]
  · rw [if_pos ha]
    exact congrArg _ (State.answer_handed ht.still _ _)
  · rw [if_neg ha, State.startDelay_of_empty (s := s.handed .delayWave w.port) hl, clampStatus_bne]
    refine congrArg _ (State.answer_eq_answered ht.still (by rfl) ?_ _ _)
    rw [State.delayWave, ← hd]
    rfl
  · rw [if_neg ha, State.startDelay_of_listed (s := s.handed .delayWave w.port) hl]
    have : (clampInt (-600) 3600 (signed16 d1 d0) != signed16 d1 d0) = decide (clampInt (-600) 3600 (signed16 d1 d0) ≠ signed16 d1 d0) := by
      simp [bne, beq_eq_decide]
    rw [this]
    rfl

/-! ## A delay reaches a slip -/

/-- The wave of a delay once a slip was reached: the list shorter by it, perhaps with more marks, and the counts as given. -/
def State.DelayAt (s u : State) (v : WaveId) (d : Delay) (rest : List (Nat × Bool)) (moved same passed : Nat) : Prop :=
  ∃ left, (left = [] ↔ rest = []) ∧
    u.wave v = { s.wave v with delay := some ⟨d.amount, left, d.port, d.clamped, moved, same, passed⟩ }

/-- A delay's list is reached, and the delay ended where nothing is left of it (R26, R29). -/
theorem execDelayReach_of_listed {s u : State} {v : WaveId} {d : Delay} {n : Nat} {left : Bool} {rest : List (Nat × Bool)}
    {moved same passed : Nat} (hd : (s.wave v).delay = some d) (hs : d.slips = (n, left) :: rest)
    (hu : s.reachSlip v d n left rest = u) (hw : s.DelayAt u v d rest moved same passed) :
    (rest ≠ [] → execDelayReach v s = .next u) ∧
    (rest = [] → execDelayReach v s = .next (({ u with waves := u.waves.set v { u.wave v with delay := none } } : State).reply d.port
      ⟨0x14, if d.clamped then .clamped else .ok, .delay v (s.wave v).sweep.start d.amount moved same passed⟩)) := by
  obtain ⟨l, hl, hwave⟩ := hw
  have hdelay : (u.wave v).delay = some ⟨d.amount, l, d.port, d.clamped, moved, same, passed⟩ := by rw [hwave]
  refine ⟨fun hr => ?_, fun hr => ?_⟩
  · have : l ≠ [] := fun h => hr (hl.mp h)
    simp [execDelayReach, hd, hs, hu, hdelay, this]
  · have : l = [] := hl.mpr hr
    subst this
    simp only [execDelayReach, hd, hs, hu, List.isEmpty_nil, if_true, State.endDelay, State.answer, State.modWave, hwave]
    rfl

/-- A consideration leaves a delay's wave but for marks on its list (R26). -/
theorem State.DelayAt.consider {s u : State} {v : WaveId} {d : Delay} {rest : List (Nat × Bool)} {moved same passed : Nat}
    (h : s.DelayAt u v d rest moved same passed) (st : StationId) : s.DelayAt (u.consider st) v d rest moved same passed := by
  obtain ⟨l, hl, hw⟩ := h
  obtain ⟨marks, hm⟩ := (Quiet.consider st u).waves v
  refine ⟨marked marks l, ?_, by rw [hm, hw]; rfl⟩
  rw [← hl, marked, List.map_eq_nil_iff]

theorem State.reachSlip_of_passed {s : State} {n : Nat} {left : Bool} (h : (if left then none else s.slip? n) = none) (v : WaveId)
    (d : Delay) (rest : List (Nat × Bool)) :
    s.reachSlip v d n left rest = s.modWave v fun u => { u with delay := some { d with slips := rest, passed := d.passed + 1 } } := by
  simp only [State.reachSlip, h]

theorem State.reachSlip_of_found {s : State} {n : Nat} {left : Bool} {x : Slip} (h : (if left then none else s.slip? n) = some x) (v : WaveId)
    (d : Delay) (rest : List (Nat × Bool)) :
    s.reachSlip v d n left rest =
      (if max (moveTime x.fire d.amount) s.clock = x.fire then
        s.modWave v fun u => { u with delay := some { d with slips := rest, unchanged := d.unchanged + 1 } }
      else (s.modWave v fun u => { u with delay := some { d with slips := rest, shifted := d.shifted + 1 } }).refireTime x
        (max (moveTime x.fire d.amount) s.clock)).consider x.station := by
  simp only [State.reachSlip, h]

theorem State.wave_refireTime (x : Slip) (fire : Nat) (s : State) (v : WaveId) : (s.refireTime x fire).wave v = s.wave v := by
  unfold State.refireTime
  split <;> rfl

/-- A fire time given where it differs, and the notice of it (R26, R93). -/
theorem State.refireTime_eq (x : Slip) (fire : Nat) (s : State) : s.refireTime x fire =
    if x.previewed = true then
      (s.modSlip x.number fun y => { y with fire := fire }).post (s.isBound x.station)
        (.changed x.number x.station x.item x.state fire x.portions x.members.length)
    else s.modSlip x.number fun y => { y with fire := fire } := rfl

/-- Settles O28: the list's first slip passed over or moved, then the end of the delay where the list is empty. -/
theorem delayReachMovesOne : Obligations.DelayReachMovesOne := by
  intro s v
  refine ⟨fun h => by simp [exec, execDelayReach, h], fun d ended hd he => ⟨fun hl => ?_, fun n left rest hl => ?_⟩⟩
  · have : exec (.delayReach v) s = .next (s.endDelay v d) := by simp [exec, execDelayReach, hd, hl]
    rw [this, he, State.endDelay, hl]
    rfl
  · show ∃ u moved same passed, (rest ≠ [] → execDelayReach v s = _) ∧ (rest = [] → execDelayReach v s = _) ∧ _
    cases hf : (if left then none else s.slip? n) with
    | none =>
      have hu := State.reachSlip_of_passed hf v d rest
      have hw : s.DelayAt (s.reachSlip v d n left rest) v d rest d.shifted d.unchanged (d.passed + 1) :=
        ⟨rest, Iff.rfl, by rw [hu, State.wave_modWave_self]⟩
      obtain ⟨h1, h2⟩ := execDelayReach_of_listed hd hl rfl hw
      refine ⟨_, _, _, _, h1, fun hr => (h2 hr).trans (by rw [he]), fun _ => ⟨rfl, rfl, rfl, hu⟩, fun hleft x hx => ?_⟩
      rw [hleft, hx] at hf
      cases hf
    | some x =>
      have hleft : left = false := by cases left <;> simp_all
      have hx : s.slip? n = some x := by rw [hleft] at hf; exact hf
      have hxn : x.number = n := (State.slip?_eq_some hx).1
      have hu := State.reachSlip_of_found hf v d rest
      set fire := max (moveTime x.fire d.amount) s.clock with hfire
      have hw : s.DelayAt (s.reachSlip v d n left rest) v d rest (if fire = x.fire then d.shifted else d.shifted + 1)
          (if fire = x.fire then d.unchanged + 1 else d.unchanged) d.passed := by
        rw [hu]
        refine State.DelayAt.consider ⟨rest, Iff.rfl, ?_⟩ _
        split
        · rw [State.wave_modWave_self]
        · rw [State.wave_refireTime, State.wave_modWave_self]
      obtain ⟨h1, h2⟩ := execDelayReach_of_listed hd hl rfl hw
      refine ⟨_, _, _, _, h1, fun hr => (h2 hr).trans (by rw [he]), fun h => (by rw [hleft] at h; cases h), fun _ y hy f hfe => ?_⟩
      rw [hx] at hy
      cases hy
      have hff : f = fire := by
        have := moveTime_eq x.fire d.amount
        omega
      rw [hff]
      refine ⟨rfl, fun h => by simp [h], fun h => by simp [h], fun r hr => ?_⟩
      by_cases hsame : fire = x.fire
      · have hslips : (s.slips.map fun y => if y.number = n ∧ fire ≠ x.fire then { y with fire := fire } else y) = s.slips := by simp [hsame]
        have hrr : r = s.modWave v fun u => { u with delay := some { d with slips := rest, unchanged := d.unchanged + 1 } } := by
          rw [hr, hslips, if_pos hsame, if_pos hsame]; rfl
        rw [hu, if_pos hsame, hrr]
        exact ⟨fun h => absurd hsame h.1, fun _ => rfl⟩
      · have hrr : r = (s.modWave v fun u => { u with delay := some { d with slips := rest, shifted := d.shifted + 1 } }).modSlip x.number
            fun y => { y with fire := fire } := by
          rw [hr, if_neg hsame, if_neg hsame]
          simp only [hsame, ne_eq, not_false_eq_true, and_true, hxn]
          rfl
        rw [hu, if_neg hsame, State.refireTime_eq]
        refine ⟨fun h => ?_, fun h => ?_⟩
        · rw [if_pos h.2, hrr, hxn]; rfl
        · rw [if_neg fun hp => h ⟨hsame, hp⟩, hrr]

end Sys2Proof.Machine
end

section
/-! SUPPORT. The menu store's commands but MARK OUT (chapter 3). -/

namespace Sys2Proof.Machine

/-! ## Fields of a frame -/

theorem itemField_of {i1 i0 : Byte} {c : ItemCode} (h : i1.toNat * 256 + i0.toNat = c.toNat) : itemField i1 i0 = some c :=
  itemField_eq_some.mpr h.symm

theorem stationField_byte (st : StationId) : stationField (byte st.val) = some st := below_byte st (by omega)

theorem parseItem_of {i1 i0 : Byte} {c : ItemCode} (h : i1.toNat * 256 + i0.toNat = c.toNat) : parseItem [i1, i0] = some c := itemField_of h

theorem parseStation_byte (st : StationId) : parseStation [byte st.val] = some st := stationField_byte st

/-- A frame with an item code that its port takes is handed to its owner with the code. -/
theorem State.frame_of_item {w : Written} {s : State} {c : Cmd} {owner : PortId → ItemCode → State → State} {i1 i0 : Byte} {item : ItemCode}
    (h : Takes c w s) (hi : i1.toNat * 256 + i0.toNat = item.toNat) (hp : paramsOf w.body = some [i1, i0]) :
    s.frame c parseItem owner w = owner w.port item (s.handed c w.port) :=
  State.frame_of_takes h (by rw [hp]; exact parseItem_of hi)

/-! ## Lookups of the menu -/

theorem State.entry?_of_mem {s : State} (h : s.MenuSound) {e : MenuEntry} (he : e ∈ s.menu) {c : ItemCode} (hc : e.item = c) :
    s.entry? c = some e := by
  cases hf : s.entry? c with
  | none => exact absurd hc (State.entry?_eq_none.mp hf e he)
  | some f =>
    obtain ⟨hm, hi⟩ := State.entry?_eq_some hf
    rw [h.unique he hm (.inl (hi.trans hc.symm))]

theorem State.freeEntry?_of_lowest {s : State} {i : Nat} (hi : i < 256) (hfree : ∀ e ∈ s.menu, e.index ≠ i)
    (hlow : ∀ j, j < i → ∃ e ∈ s.menu, e.index = j) : s.freeEntry? = some i := by
  rw [State.freeEntry?, List.find?_range_eq_some]
  refine ⟨by simpa using hfree, by simpa [Config.menuCapacity] using hi, fun j hj => ?_⟩
  simpa using hlow j hj

theorem State.freeEntry?_of_full {s : State} (h : ∀ j, j < 256 → ∃ e ∈ s.menu, e.index = j) : s.freeEntry? = none := by
  rw [State.freeEntry?, List.find?_range_eq_none]
  intro j hj
  simpa using h j hj

/-- The entry of an item overwritten: in a sound menu it takes the place of the item's entry alone (R34). -/
theorem mem_replaced_menu {s : State} (h : s.MenuSound) {e new : MenuEntry} {c : ItemCode} (he : e ∈ s.menu) (hc : e.item = c)
    (f : MenuEntry) : f ∈ (s.menu.map fun g => if g.index = e.index then new else g) ↔ f = new ∨ f ∈ s.menu ∧ f.item ≠ c := by
  have key (g : MenuEntry) (hg : g ∈ s.menu) : g.index = e.index ↔ g.item = c :=
    ⟨fun hi => by rw [h.unique he hg (.inr hi), hc], fun hi => by rw [h.unique he hg (.inl (hi.trans hc.symm))]⟩
  rw [List.mem_map]
  constructor
  · rintro ⟨g, hg, rfl⟩
    split
    · exact .inl rfl
    · next hi => exact .inr ⟨hg, fun hcg => hi ((key g hg).mpr hcg)⟩
  · rintro (rfl | ⟨hf, hi⟩)
    · exact ⟨e, he, if_pos rfl⟩
    · exact ⟨f, hf, if_neg fun hx => hi ((key f hf).mp hx)⟩

/-! ## SET ITEM -/

theorem parseSetItem_of {i1 i0 c1 c0 batch : Byte} {c : ItemCode} (st : StationId) (h : i1.toNat * 256 + i0.toNat = c.toNat) :
    parseSetItem [i1, i0, byte st.val, c1, c0, batch] = some ⟨c, st, word16 c1 c0, batch.toNat⟩ := by
  simp [parseSetItem, itemField_of h, stationField_byte]

theorem itemClamped_status (a : ItemParams) : clampStatus (itemClamped a) =
    if min a.cook 5400 = a.cook ∧ clampTo 1 64 a.batch = a.batch then .ok else .clamped := by
  unfold itemClamped clampStatus
  by_cases h1 : min a.cook 5400 = a.cook <;> by_cases h2 : clampTo 1 64 a.batch = a.batch <;> simp [h1, h2]

/-- Settles O30: the item's entry in place, the lowest free index, or a full menu. -/
theorem setItemWrites : Obligations.SetItemWrites := by
  intro w s c st i1 i0 c1 c0 batch ht hi hp
  set a : ItemParams := ⟨c, st, word16 c1 c0, batch.toNat⟩ with ha
  have hex : exec (.setItem w) s = .next (ownSetItem w.port a (s.handed .setItem w.port)) :=
    congrArg Host.Outcome.next (State.frame_of_takes (owner := ownSetItem) ht (by rw [hp]; exact parseSetItem_of st hi))
  have hentry : (s.handed .setItem w.port).entry? a.item = s.entry? c := rfl
  have hfree : (s.handed .setItem w.port).freeEntry? = s.freeEntry? := rfl
  rw [hex]
  refine ⟨fun hs => ?_, fun hs hm => ⟨min (word16 c1 c0) 5400, clampTo 1 64 batch.toNat, clampStatus (itemClamped a), rfl, rfl,
    itemClamped_status a, fun e he hc => ?_, fun i hno hlt hidx hlow => ?_, fun hno hfull => ?_⟩⟩
  · exact congrArg _ ((if_pos hs).trans (State.answer_handed ht.still _ _))
  · refine ⟨s.menu.map fun f => if f.index = e.index then storedEntry e.index a else f, ?_, fun f => mem_replaced_menu hm he hc f⟩
    rw [ownSetItem, if_neg (by simpa using hs), hentry, State.entry?_of_mem hm he hc]
    exact congrArg _ (State.answer_eq_answered ht.still (by rfl) (by rfl) _ _)
  · refine ⟨insertEntry (storedEntry i a) s.menu, ?_, fun f => insertEntry_mem _ _ f⟩
    rw [ownSetItem, if_neg (by simpa using hs), hentry, State.entry?_eq_none.mpr hno, hfree, State.freeEntry?_of_lowest hlt hidx hlow]
    exact congrArg _ (State.answer_eq_answered ht.still (by rfl) (by rfl) _ _)
  · rw [ownSetItem, if_neg (by simpa using hs), hentry, State.entry?_eq_none.mpr hno, hfree, State.freeEntry?_of_full hfull]
    exact congrArg _ (State.answer_handed ht.still _ _)

/-! ## CLEAR ITEM and CLEAR MENU -/

/-- In a sound menu the entry of an item leaves with its index, and no other does (R36). -/
theorem filter_index_eq_filter_item {s : State} (h : s.MenuSound) {e : MenuEntry} {c : ItemCode} (he : e ∈ s.menu) (hc : e.item = c) :
    (s.menu.filter fun f => f.index != e.index) = s.menu.filter fun f => decide (f.item ≠ c) := by
  refine List.filter_congr fun f hf => ?_
  rw [Bool.eq_iff_iff]
  simp only [bne_iff_ne, ne_eq, decide_eq_true_eq]
  exact not_congr ⟨fun hi => by rw [h.unique he hf (.inr hi), hc], fun hi => by rw [h.unique he hf (.inl (hi.trans hc.symm))]⟩

/-- Settles O31: one entry cleared, or all. -/
theorem menuEntriesCleared : Obligations.MenuEntriesCleared := by
  intro w s
  refine ⟨fun c i1 i0 ht hi hp => ?_, fun ht hp => ?_⟩
  · have hex : exec (.clearItem w) s = .next (ownClearItem w.port c (s.handed .clearItem w.port)) :=
      congrArg Host.Outcome.next (State.frame_of_item (owner := ownClearItem) ht hi hp)
    have hentry : (s.handed .clearItem w.port).entry? c = s.entry? c := rfl
    rw [hex]
    refine ⟨fun hs => ?_, fun hs hno => ?_, fun hs hm e he hc => ?_⟩
    · exact congrArg _ ((if_pos hs).trans (State.answer_handed ht.still _ _))
    · rw [ownClearItem, if_neg (by simpa using hs), hentry, State.entry?_eq_none.mpr hno]
      exact congrArg _ (State.answer_handed ht.still _ _)
    · rw [ownClearItem, if_neg (by simpa using hs), hentry, State.entry?_of_mem hm he hc, ← filter_index_eq_filter_item hm he hc]
      exact congrArg _ (State.answer_eq_answered ht.still (by rfl) (by rfl) _ _)
  · have hex : exec (.clearMenu w) s = .next (ownClearMenu w.port () (s.handed .clearMenu w.port)) :=
      congrArg Host.Outcome.next (State.frame_of_takes (owner := ownClearMenu) ht (by rw [hp]; rfl))
    rw [hex]
    refine ⟨fun hs => ?_, fun hs => ?_⟩
    · exact congrArg _ ((if_pos hs).trans (State.answer_handed ht.still _ _))
    · rw [ownClearMenu, if_neg (by simpa using hs)]
      exact congrArg _ (State.answer_eq_answered ht.still (by rfl) (by rfl) _ _)

/-! ## The tables reported, SET DIVERSION and MARK IN -/

theorem parseSetDiversion_of {c1 c0 m1 m0 : Byte} {code mask : ItemCode} (i : DiversionId) (flags mods : Byte) (st : StationId)
    (hc : c1.toNat * 256 + c0.toNat = code.toNat) (hm : m1.toNat * 256 + m0.toNat = mask.toNat) :
    parseSetDiversion [byte i.val, flags, c1, c0, m1, m0, mods, byte st.val] = some (i, ⟨flags.getLsbD 0, code, mask, mods, st⟩) := by
  have hi : below 8 (byte i.val).toNat = some i := below_byte i (by omega)
  simp only [parseSetDiversion, hi, itemField_of hc, itemField_of hm, stationField_byte]
  rfl

/-- Settles O32: two queries and a table written whole. -/
theorem menuTablesReported : Obligations.MenuTablesReported := by
  intro w s
  refine ⟨fun c i1 i0 ht hi hp => ?_, fun i flags c1 c0 m1 m0 mods code mask st ht hc hm hp => ?_, fun i ht hp => ?_⟩
  · have hex : exec (.queryItem w) s = .next (s.answered w.port ⟨0x23, .ok, .item c (s.entry? c) (s.isOut c) s.menu.length⟩) :=
      (congrArg Host.Outcome.next (State.frame_of_item (owner := ownQueryItem) ht hi hp)).trans
        (congrArg _ (State.answer_handed ht.still _ _))
    rw [hex]
    exact ⟨fun hno => by rw [State.entry?_eq_none.mpr hno]; rfl, fun hm e he hc => by rw [State.entry?_of_mem hm he hc]; rfl⟩
  · have hex : exec (.setDiversion w) s =
        .next (ownSetDiversion w.port (i, ⟨flags.getLsbD 0, code, mask, mods, st⟩) (s.handed .setDiversion w.port)) :=
      congrArg Host.Outcome.next (State.frame_of_takes (owner := ownSetDiversion) ht
        (by rw [hp]; exact parseSetDiversion_of i flags mods st hc hm))
    rw [hex]
    refine ⟨fun hs => ?_, fun hs => ?_⟩
    · exact congrArg _ ((if_pos hs).trans (State.answer_handed ht.still _ _))
    · rw [ownSetDiversion, if_neg (by simpa using hs)]
      exact congrArg _ (State.answer_eq_answered ht.still (by rfl) (by rfl) _ _)
  · have hi : parseDiversionIndex [byte i.val] = some i := below_byte i (by omega)
    exact (congrArg Host.Outcome.next (State.frame_of_takes (owner := ownQueryDiversion) ht (by rw [hp]; exact hi))).trans
      (congrArg _ (State.answer_handed ht.still _ _))

/-- Settles O35: the code filtered from the out board. -/
theorem markInClears : Obligations.MarkInClears := by
  intro w s c i1 i0 ht hi hp
  have hout : (s.outBoard.filter fun d => d != c) = s.outBoard.filter fun d => decide (d ≠ c) := by
    refine List.filter_congr fun d _ => ?_
    simp [bne, beq_eq_decide]
  have hex : exec (.markIn w) s = .next (ownMarkIn w.port c (s.handed .markIn w.port)) :=
    congrArg Host.Outcome.next (State.frame_of_item (owner := ownMarkIn) ht hi hp)
  rw [hex, ← hout]
  exact congrArg _ (State.answer_eq_answered ht.still (by rfl) (by rfl) _ _)

end Sys2Proof.Machine
end

section
/-! SUPPORT. The checks of SUBMIT TICKET (4.4). -/

namespace Sys2Proof.Machine

section Checks
variable {s : State} {a : Submission}

theorem State.checkSubmission_of_ticket {st : Status} (h : s.checkTicket a = some st) : s.checkSubmission a = some (st, .empty) := by
  simp [State.checkSubmission, h]

theorem State.checkSubmission_of_lines {r : Status × ReplyData} (ht : s.checkTicket a = none) (h : s.checkLines a = some r) :
    s.checkSubmission a = some r := by
  simp [State.checkSubmission, ht, h]

theorem State.checkSubmission_of_room {st : Status} (ht : s.checkTicket a = none) (hl : s.checkLines a = none) (h : s.checkRoom a = some st) :
    s.checkSubmission a = some (st, .empty) := by
  simp [State.checkSubmission, ht, hl, h]

/-- A ticket of the wave at the table (R60 check 4). -/
theorem State.duplicate_iff : (s.tickets.any fun t => t.wave == a.wave && t.table == a.table) = true ↔
    ∃ k ∈ s.tickets, k.wave = a.wave ∧ k.table = a.table := by
  simp

/-- The four checks on the ticket as a whole, passed (R60). -/
theorem State.checkTicket_eq_none (hs : s.service = .opened) (hw : (s.wave a.wave).state = .opened)
    (hlo : (s.wave a.wave).sweep.first ≤ a.table) (hhi : a.table ≤ (s.wave a.wave).sweep.first + (s.wave a.wave).sweep.count - 1)
    (hd : ∀ k ∈ s.tickets, ¬(k.wave = a.wave ∧ k.table = a.table)) : s.checkTicket a = none := by
  have : (s.tickets.any fun t => t.wave == a.wave && t.table == a.table) = false := by
    rw [Bool.eq_false_iff, Ne, State.duplicate_iff]
    exact fun ⟨k, hk, h⟩ => hd k hk h
  simp [State.checkTicket, hs, hw, hlo, hhi, this]

theorem LineEntry.badQty_iff (e : LineEntry) : e.badQty = true ↔ ¬(1 ≤ e.qty ∧ e.qty ≤ 24) := by
  simp [LineEntry.badQty]; omega

/-- The first entry that a check names is found where it fails and no earlier one does. -/
theorem findIdx?_first {α : Type} {p : α → Bool} {l : List α} {i : Nat} {e : α} (h : l[i]? = some e) (hp : p e = true)
    (hlow : ∀ j f, j < i → l[j]? = some f → p f = false) : l.findIdx? p = some i := by
  obtain ⟨hi, he⟩ := List.getElem?_eq_some_iff.mp h
  rw [List.findIdx?_eq_some_iff_getElem]
  exact ⟨hi, he ▸ hp, fun j hj => by simpa using hlow j l[j] hj (List.getElem?_eq_getElem (by omega))⟩

/-- Whether a line that is not out finds no station (R61 check 7). -/
def State.unrouted (s : State) (e : LineEntry) : Bool := !s.isOut e.item && (s.route e.item e.modifiers).isNone

theorem State.isOut_iff {c : ItemCode} : s.isOut c = true ↔ c ∈ s.outBoard := by simp [State.isOut]

theorem State.unrouted_iff (e : LineEntry) : s.unrouted e = true ↔ e.item ∉ s.outBoard ∧ s.route e.item e.modifiers = none := by
  simp [State.unrouted, ← State.isOut_iff]

/-- The checks on the lines, one after the other (R61). -/
theorem State.checkLines_eq (h : 1 ≤ a.lines.length ∧ a.lines.length ≤ 12) : s.checkLines a =
    match a.lines.findIdx? LineEntry.badQty, a.lines.findIdx? (fun e => (s.entry? e.item).isNone), a.lines.findIdx? s.unrouted with
    | some i, _, _ => some (.malformed, .lineIndex i)
    | none, some i, _ => some (.unknownItem, .lineIndex i)
    | none, none, some i => some (.noStation, .lineIndex i)
    | none, none, none => if a.lines.all fun e => s.isOut e.item then some (.allOut, .empty) else none := by
  have hu : (fun e : LineEntry => !s.isOut e.item && (s.route e.item e.modifiers).isNone) = s.unrouted := rfl
  unfold State.checkLines
  rw [if_neg (by omega), hu]
  cases a.lines.findIdx? LineEntry.badQty <;> cases a.lines.findIdx? (fun e => (s.entry? e.item).isNone) <;>
    cases a.lines.findIdx? s.unrouted <;> rfl

theorem findIdx?_qty (h : ∀ e ∈ a.lines, 1 ≤ e.qty ∧ e.qty ≤ 24) : a.lines.findIdx? LineEntry.badQty = none :=
  List.findIdx?_eq_none_iff.mpr fun e he => by simpa [← Bool.not_eq_true, LineEntry.badQty_iff] using h e he

theorem findIdx?_entry (h : ∀ e ∈ a.lines, s.entry? e.item ≠ none) : a.lines.findIdx? (fun e => (s.entry? e.item).isNone) = none :=
  List.findIdx?_eq_none_iff.mpr fun e he => by simpa [Option.isSome_iff_ne_none] using h e he

theorem findIdx?_unrouted (h : ∀ e ∈ a.lines, e.item ∉ s.outBoard → s.route e.item e.modifiers ≠ none) :
    a.lines.findIdx? s.unrouted = none :=
  List.findIdx?_eq_none_iff.mpr fun e he => by
    rw [← Bool.not_eq_true, State.unrouted_iff]
    exact fun ⟨h1, h2⟩ => h e he h1 h2

end Checks

/-- Settles O36: check by check, each reached where those before it pass. -/
theorem submitChecksInOrder : Obligations.SubmitChecksInOrder := by
  rintro w s a ht hp refuse rfl
  have key {st : Status} {d : ReplyData} (h : s.checkSubmission a = some (st, d)) :
      exec (.submitTicket w) s = .next (s.answered w.port ⟨0x30, st, d⟩) := by
    have hex : exec (.submitTicket w) s = .next (ownSubmitTicket w.port a (s.handed .submitTicket w.port)) :=
      congrArg Host.Outcome.next (State.frame_of_takes (owner := ownSubmitTicket) ht hp)
    have hc : (s.handed .submitTicket w.port).checkSubmission a = s.checkSubmission a := rfl
    rw [hex, ownSubmitTicket, hc, h]
    exact congrArg _ (State.answer_handed ht.still _ _)
  refine ⟨fun hs => key (State.checkSubmission_of_ticket (by simp [State.checkTicket, hs])), fun hs =>
    ⟨fun hw => key (State.checkSubmission_of_ticket (by simp [State.checkTicket, hs, hw])),
      fun hw => key (State.checkSubmission_of_ticket (by simp [State.checkTicket, hs, hw])), fun hw => ⟨fun hr => ?_, fun hlo hhi => ⟨fun hd => ?_, fun hd => ?_⟩⟩⟩⟩
  · exact key (State.checkSubmission_of_ticket (by simp only [State.checkTicket, hs, hw]; simp [hr]))
  · refine key (State.checkSubmission_of_ticket ?_)
    simp only [State.checkTicket, State.duplicate_iff.mpr hd, hs, hw]
    simp [hlo, hhi]
  · have htk := State.checkTicket_eq_none hs hw hlo hhi hd
    refine ⟨fun hn => key (State.checkSubmission_of_lines htk (by rw [State.checkLines, if_pos hn])), fun h1 h12 => ?_⟩
    have hlines := State.checkLines_eq (s := s) ⟨h1, h12⟩
    refine ⟨fun i e he hq hlow => key (State.checkSubmission_of_lines htk ?_), fun hq => ⟨fun i e he hno hlow =>
      key (State.checkSubmission_of_lines htk ?_), fun hentry => ⟨fun i e he hout hno hlow => key (State.checkSubmission_of_lines htk ?_),
      fun hroute => ⟨fun hall => key (State.checkSubmission_of_lines htk ?_), fun hsome => ?_⟩⟩⟩⟩
    · have := findIdx?_first (p := LineEntry.badQty) he ((LineEntry.badQty_iff e).mpr hq) fun j f hj hf => by
        simpa [← Bool.not_eq_true, LineEntry.badQty_iff] using hlow j f hj hf
      rw [hlines, this]
    · have := findIdx?_first (p := fun e => (s.entry? e.item).isNone) he (by simp [hno]) fun j f hj hf => by
        simpa [Option.isSome_iff_ne_none] using hlow j f hj hf
      rw [hlines, findIdx?_qty hq, this]
    · have := findIdx?_first (p := s.unrouted) he ((State.unrouted_iff e).mpr ⟨hout, hno⟩) fun j f hj hf => by
        rw [← Bool.not_eq_true, State.unrouted_iff]
        exact fun ⟨k1, k2⟩ => hlow j f hj hf k1 k2
      rw [hlines, findIdx?_qty hq, findIdx?_entry hentry, this]
    · rw [hlines, findIdx?_qty hq, findIdx?_entry hentry, findIdx?_unrouted hroute]
      exact if_pos (List.all_eq_true.mpr fun e he => State.isOut_iff.mpr (hall e he))
    · have hl : s.checkLines a = none := by
        rw [hlines, findIdx?_qty hq, findIdx?_entry hentry, findIdx?_unrouted hroute]
        refine if_neg fun h => ?_
        obtain ⟨e, he, hout⟩ := hsome
        exact hout (State.isOut_iff.mp (List.all_eq_true.mp h e he))
      refine ⟨fun hfull => key (State.checkSubmission_of_room htk hl ?_), fun hlt hex => ⟨fun hsum =>
        key (State.checkSubmission_of_room htk hl ?_), fun hsum hslip => key (State.checkSubmission_of_room htk hl ?_)⟩⟩
      · refine if_pos ?_
        simpa [Config.ticketCapacity] using hfull
      · refine (if_neg ?_).trans (if_pos hsum)
        simpa [Config.ticketCapacity, hex] using hlt
      · refine (if_neg ?_).trans ((if_neg (Nat.not_lt.mpr hsum)).trans (if_pos hslip))
        simpa [Config.ticketCapacity, hex] using hlt

end Sys2Proof.Machine
end

section
/-! SUPPORT. The queries of records, the queue's order, and the port units' own commands, reads and timers (4.8, 5.8, 6.4, 6.10, 8, 9.4). -/

namespace Sys2Proof.Machine

/-! ## Records by their numbers -/

/-- Where numbers rise a member is found by its number. -/
theorem find?_of_rising {α : Type} {f : α → Nat} {l : List α} (h : l.Pairwise fun a b => f a < f b) {a : α} (ha : a ∈ l) :
    (l.find? fun b => f b == f a) = some a := by
  induction l with
  | nil => cases ha
  | cons b l ih =>
    obtain ⟨hb, hl⟩ := List.pairwise_cons.mp h
    rcases List.mem_cons.mp ha with rfl | ha
    · simp
    · have : f b ≠ f a := Nat.ne_of_lt (hb a ha)
      simp [this, ih hl ha]

theorem State.RecordsSound.slip? {s : State} (h : s.RecordsSound) {x : Slip} (hx : x ∈ s.slips) : s.slip? x.number = some x :=
  find?_of_rising h.slips_rise hx

theorem State.RecordsSound.ticket? {s : State} (h : s.RecordsSound) {k : Ticket} (hk : k ∈ s.tickets) : s.ticket? k.number = some k :=
  find?_of_rising h.tickets_rise hk

theorem State.RecordsSound.slip_unique {s : State} (h : s.RecordsSound) {x y : Slip} (hx : x ∈ s.slips) (hy : y ∈ s.slips)
    (hn : y.number = x.number) : y = x :=
  Option.some.inj ((h.slip? hy).symm.trans (hn ▸ h.slip? hx))

theorem State.RecordsSound.ticket_unique {s : State} (h : s.RecordsSound) {j k : Ticket} (hj : j ∈ s.tickets) (hk : k ∈ s.tickets)
    (hn : k.number = j.number) : k = j :=
  Option.some.inj ((h.ticket? hk).symm.trans (hn ▸ h.ticket? hj))

/-! ## The queue and the ticket state (6.4, 4.3) -/

theorem Slip.isPending_iff {x : Slip} : x.isPending = true ↔ x.state = .pending := by simp [Slip.isPending]

theorem Slip.queueLe_total (a b : Slip) : a.queueLe b ∨ b.queueLe a := by
  unfold Slip.queueLe; omega

theorem Slip.queueLe_trans (a b c : Slip) (h : a.queueLe b) (k : b.queueLe c) : a.queueLe c := by
  unfold Slip.queueLe at *; omega

theorem State.queue_perm (s : State) (st : StationId) : (s.queue st).Perm (s.slips.filter fun x => x.station == st && x.isPending) :=
  List.perm_insertionSort _ _

theorem State.queue_sorted (s : State) (st : StationId) : (s.queue st).Pairwise Slip.queueLe :=
  haveI : Std.Total Slip.queueLe := ⟨Slip.queueLe_total⟩
  haveI : IsTrans Slip Slip.queueLe := ⟨Slip.queueLe_trans⟩
  List.pairwise_insertionSort _ _

/-- Queue order in words: PRIORITY before NORMAL, then fire time, then number (R104). -/
theorem Slip.queueLe_iff (x y : Slip) : x.queueLe y ↔
    (x.cls = .priority ∧ y.cls = .normal) ∨ (x.cls = y.cls ∧ (x.fire < y.fire ∨ x.fire = y.fire ∧ x.number ≤ y.number)) := by
  unfold Slip.queueLe
  cases x.cls <;> cases y.cls <;> simp [SlipClass.rank]

theorem LineState.isReady_iff {l : LineState} : l.isReady = true ↔ ∃ t, l = .ready t := by cases l <;> simp [LineState.isReady]
theorem LineState.isWaiting_iff {l : LineState} : l.isWaiting = true ↔ ∃ n, l = .waiting n := by cases l <;> simp [LineState.isWaiting]
theorem LineState.isVoid_iff {l : LineState} : l.isVoid = true ↔ l = .void := by cases l <;> simp [LineState.isVoid]

/-- A ticket is UP where every line is READY or VOID and one is READY (R56). -/
theorem Ticket.workedState_up (k : Ticket) : k.workedState = .up ↔
    (∀ l ∈ k.lines, (∃ t, l.state = .ready t) ∨ l.state = .void) ∧ ∃ l ∈ k.lines, ∃ t, l.state = .ready t := by
  unfold Ticket.workedState
  simp only [← LineState.isReady_iff, ← LineState.isVoid_iff, ← Bool.or_eq_true]
  rw [← List.all_eq_true, ← List.any_eq_true, ← Bool.and_eq_true]
  split
  · next h => simp [h]
  · next h => split <;> simp [h]

/-- A ticket is PLANNED where every line that is not VOID is WAITING (R56). -/
theorem Ticket.workedState_planned (k : Ticket) : k.workedState = .planned ↔ ∀ l ∈ k.lines, l.state ≠ .void → ∃ n, l.state = .waiting n := by
  have hall : (k.lines.all fun l => l.state.isWaiting || l.state.isVoid) = true ↔ ∀ l ∈ k.lines, l.state ≠ .void → ∃ n, l.state = .waiting n := by
    rw [List.all_eq_true]
    simp only [Bool.or_eq_true, LineState.isWaiting_iff, LineState.isVoid_iff]
    exact forall₂_congr fun l _ => by rw [or_comm, or_iff_not_imp_left]
  rw [← hall]
  by_cases hu : k.workedState = .up
  · obtain ⟨_, l, hl, t, hr⟩ := (Ticket.workedState_up k).mp hu
    rw [hu]
    refine ⟨nofun, fun h => ?_⟩
    have := List.all_eq_true.mp h l hl
    simp [hr, LineState.isWaiting, LineState.isVoid] at this
  · unfold Ticket.workedState at hu ⊢
    split at hu
    · exact absurd rfl hu
    · next h =>
      rw [if_neg h]
      split
      · next h => simp [h]
      · next h => simp [h]

/-- A ticket worked out by its number, where it is the one of its number (R56, R57). -/
theorem State.workOut_of_ticket? {s : State} {n : Nat} {k : Ticket} (h : s.ticket? n = some k) : s.workOut n =
    if k.workedState = .up ∧ k.state ≠ .up then
      (s.modTicket n fun t => { t with state := t.workedState }).post
        (s.watchersAnd k.origin) (.up n k.wave k.table (s.target k) k.late)
    else s.modTicket n fun t => { t with state := t.workedState } := by
  simp only [State.workOut, h]

/-- Settles O39: the sorted filter, the worked state, and the one notice of the ticket that becomes UP. -/
theorem queueOrderAndTicketState : Obligations.QueueOrderAndTicketState := by
  refine ⟨fun s st => ⟨?_, (s.queue_sorted st).imp fun {a b} h => (Slip.queueLe_iff a b).mp h⟩,
    fun k => ⟨k.workedState_up, k.workedState_planned⟩, fun s k hr hk => ⟨?_, fun q => ?_⟩⟩
  · have : (fun x : Slip => decide (x.station = st) && decide (x.state = .pending)) = fun x => x.station == st && x.isPending := by
      funext x
      simp [Slip.isPending, beq_eq_decide]
    rw [this]
    exact s.queue_perm st
  · have htickets : (s.modTicket k.number fun t => { t with state := t.workedState }).tickets =
        s.tickets.map (fun j => if j.number = k.number then { k with state := k.workedState } else j) := by
      refine List.map_congr_left fun j hj => ?_
      split
      · next hn => rw [hr.ticket_unique hk hj hn]
      · rfl
    rw [State.workOut_of_ticket? (hr.ticket? hk)]
    split <;> exact htickets
  · rw [State.workOut_of_ticket? (hr.ticket? hk)]
    by_cases hu : k.workedState = .up ∧ k.state ≠ .up
    · have hw : s.watchersAnd k.origin q = true ↔
          (s.port q).role = .pass ∨ (s.port q).role = .monitor ∨ q = k.origin := State.watchersAnd_iff
      rw [if_pos hu, State.port_post]
      simp only [hw, hu, ne_eq, not_false_eq_true, true_and]
      rfl
    · rw [if_neg hu, if_neg fun h => hu ⟨h.1, h.2.1⟩]
      rfl

/-! ## The queries -/

theorem parseIndexed_of {m i n : Nat} {n1 n0 : Byte} (h : n1.toNat * 256 + n0.toNat = n) (hi : i < m) (hm : m ≤ 256) :
    parseIndexed m [n1, n0, byte i] = some (n, i) := by
  have hb : (byte i).toNat = i := by
    show i % 256 = i
    omega
  simp only [parseIndexed, hb, hi, if_true]
  exact congrArg some (Prod.ext h rfl)

theorem parseNumber_of {n : Nat} {n1 n0 : Byte} (h : n1.toNat * 256 + n0.toNat = n) : parseNumber [n1, n0] = some n := congrArg some h

theorem foldl_max_ge (l : List Nat) (a : Nat) : a ≤ l.foldl max a ∧ ∀ x ∈ l, x ≤ l.foldl max a := by
  induction l generalizing a with
  | nil => simp
  | cons b l ih =>
    obtain ⟨h1, h2⟩ := ih (max a b)
    refine ⟨by simp only [List.foldl_cons]; omega, fun x hx => ?_⟩
    rcases List.mem_cons.mp hx with rfl | hx
    · simp only [List.foldl_cons]; omega
    · exact h2 x hx

theorem foldl_max_mem (l : List Nat) (a : Nat) : l.foldl max a = a ∨ l.foldl max a ∈ l := by
  induction l generalizing a with
  | nil => simp
  | cons b l ih =>
    rcases ih (max a b) with h | h
    · rcases max_choice a b with hm | hm
      · left; rw [List.foldl_cons, h, hm]
      · right; rw [List.foldl_cons, h, hm]; exact List.mem_cons_self
    · right; exact List.mem_cons_of_mem _ h

/-- The projected up time is the latest projection (R96). -/
theorem State.projectedUp_spec (s : State) (k : Ticket) :
    (∀ l ∈ k.lines, ∀ time, s.projectedReady l = some time → time ≤ s.projectedUp k) ∧
    (s.projectedUp k = 0 ∨ ∃ l ∈ k.lines, s.projectedReady l = some (s.projectedUp k)) := by
  refine ⟨fun l hl time h => (foldl_max_ge _ 0).2 time (List.mem_filterMap.mpr ⟨l, hl, h⟩), ?_⟩
  rcases foldl_max_mem (k.lines.filterMap s.projectedReady) 0 with h | h
  · exact .inl h
  · exact .inr (List.mem_filterMap.mp h)

/-- The report of a station counts its slips (R120). -/
theorem State.stationReport_eq (s : State) (st : StationId) : s.stationReport st =
    { state := (s.station st).state, lag := (s.station st).lag
      busy := (s.slips.filter fun x => decide (x.station = st) && !x.isPending).length
      called := (s.slips.filter fun x => decide (x.station = st) && x.isCalled).length
      taken := (s.slips.filter fun x => decide (x.station = st) && x.isTaken).length
      queued := (s.slips.filter fun x => decide (x.station = st) && x.isPending).length
      due := (s.slips.filter fun x => decide (x.station = st) && x.isPending && decide (x.fire ≤ s.clock)).length
      missed := (s.station st).missed, evacuating := (s.station st).evacuating } := by
  have hcalled : ((s.busySet st).filter Slip.isCalled) = s.slips.filter fun x => decide (x.station = st) && x.isCalled := by
    rw [State.busySet, List.filter_filter]
    refine List.filter_congr fun x _ => ?_
    cases hs : x.state <;> simp [Slip.isCalled, Slip.isPending, hs, beq_eq_decide]
  have htaken : ((s.busySet st).filter Slip.isTaken) = s.slips.filter fun x => decide (x.station = st) && x.isTaken := by
    rw [State.busySet, List.filter_filter]
    refine List.filter_congr fun x _ => ?_
    cases hs : x.state <;> simp [Slip.isTaken, Slip.isPending, hs, beq_eq_decide]
  have hdue : ((s.queue st).filter fun x => decide (x.fire ≤ s.clock)).length =
      (s.slips.filter fun x => decide (x.station = st) && x.isPending && decide (x.fire ≤ s.clock)).length := by
    rw [((s.queue_perm st).filter _).length_eq, List.filter_filter]
    refine congrArg List.length (List.filter_congr fun x _ => ?_)
    rw [Bool.and_comm, beq_eq_decide]
  simp only [State.stationReport, hcalled, htaken, hdue, (s.queue_perm st).length_eq]
  rfl

/-- A line's projection from its slip, the item's cook time at hand (R95). -/
theorem State.projectedReady_spec {s : State} (h : s.RecordsSound) (l : Line) :
    (l.state = .void → s.projectedReady l = none) ∧
    (∀ time, l.state = .ready time → s.projectedReady l = some time) ∧
    ∀ e, s.entry? l.item = some e → ∀ x ∈ s.slips,
      (l.state = .waiting x.number → s.projectedReady l =
        some (min (x.fire + e.cook + (s.station x.station).config.plate + (s.station x.station).lag) 65535)) ∧
      (l.state = .called x.number ∨ l.state = .cooking x.number →
        ∀ time, x.state = .taken time ∨ (∃ timer, x.state = .called time timer) → s.projectedReady l =
          some (min (time + e.cook + (s.station x.station).config.plate + (s.station x.station).lag) 65535)) := by
  refine ⟨fun hl => by simp [State.projectedReady, hl], fun time hl => by simp [State.projectedReady, hl], fun e he x hx => ?_⟩
  have hlead (t : Nat) : sat16 (t + s.leadTime l.item x.station) =
      min (t + e.cook + (s.station x.station).config.plate + (s.station x.station).lag) 65535 := by
    simp only [State.leadTime, State.cookTime, he, sat16, Config.maxTime]
    omega
  refine ⟨fun hl => ?_, fun hl time ht => ?_⟩
  · simp only [State.projectedReady, hl, h.slip? hx, hlead]
  · rcases hl with hl | hl <;> rcases ht with ht | ⟨timer, ht⟩ <;> simp only [State.projectedReady, hl, h.slip? hx, ht, hlead]

/-- Settles O43: the three queries, and the projection they report. -/
theorem recordQueries : Obligations.RecordQueries := by
  intro w s hr
  refine ⟨fun n i n1 n0 ht hn hi hp => ?_, fun n i n1 n0 ht hn hi hp => ?_, fun st ht hp => ?_, s.projectedUp_spec, State.projectedReady_spec hr⟩
  · have hex : exec (.queryTicket w) s = .next (ownQueryTicket w.port (n, i) (s.handed .queryTicket w.port)) :=
      congrArg Host.Outcome.next (State.frame_of_takes (owner := ownQueryTicket) ht (by rw [hp]; exact parseIndexed_of hn hi (by omega)))
    have hlook : (s.handed .queryTicket w.port).ticket? n = s.ticket? n := rfl
    rw [hex, ownQueryTicket, hlook]
    refine ⟨fun hno => ?_, fun k hk hkn => ?_⟩
    · rw [State.ticket?_eq_none.mpr hno]
      exact congrArg _ (State.answer_handed ht.still _ _)
    · subst hkn
      rw [hr.ticket? hk]
      exact congrArg _ (State.answer_handed ht.still _ _)
  · have hex : exec (.querySlip w) s = .next (ownQuerySlip w.port (n, i) (s.handed .querySlip w.port)) :=
      congrArg Host.Outcome.next (State.frame_of_takes (owner := ownQuerySlip) ht (by rw [hp]; exact parseIndexed_of hn hi (by omega)))
    have hlook : (s.handed .querySlip w.port).slip? n = s.slip? n := rfl
    rw [hex, ownQuerySlip, hlook]
    refine ⟨fun hno => ?_, fun x hx hxn => ?_⟩
    · rw [State.slip?_eq_none.mpr hno]
      exact congrArg _ (State.answer_handed ht.still _ _)
    · subst hxn
      rw [hr.slip? hx]
      exact congrArg _ (State.answer_handed ht.still _ _)
  · have hex : exec (.queryStation w) s = .next (ownQueryStation w.port st (s.handed .queryStation w.port)) :=
      congrArg Host.Outcome.next (State.frame_of_takes (owner := ownQueryStation) ht (by rw [hp]; exact parseStation_byte st))
    rw [hex, ownQueryStation, State.answer_handed ht.still, State.stationReport_eq]
    rfl

/-! ## Reads and deliveries (8.5 to 8.7) -/

theorem State.inService_eq (s : State) : s.inService = decide (s.service ≠ .closed) := by
  cases h : s.service <;> simp [State.inService, h]

theorem not_isEmpty_eq {α : Type} [DecidableEq α] (l : List α) : (!l.isEmpty) = decide (l ≠ []) := by cases l <;> simp

theorem PortUnit.makeUp_eq (b : Bool) (u : PortUnit) : u.makeUp b = { u with
    reading := some ⟨packByte u.slot.isReady u.slot.isBusy u.collided u.overrun u.muted (decide (u.notices ≠ [])) b false,
      u.chooseRecord, decide (u.chooseRecord ≠ .nothing)⟩
    collided := false
    stretch := none } := by
  have : (u.chooseRecord != .nothing) = decide (u.chooseRecord ≠ .nothing) := by simp [bne, beq_eq_decide]
  simp only [PortUnit.makeUp, PortUnit.statusByte, this, not_isEmpty_eq]

/-- A delivery of a record that is live takes it from its place, and the line is released where nothing is left (R146, R164). -/
theorem PortUnit.releaseIfDry_of_left {u : PortUnit} (h : u.slot.isReady = true ∨ u.notices ≠ []) : u.releaseIfDry = u := by
  rw [PortUnit.releaseIfDry, not_isEmpty_eq]
  exact if_pos (by simpa using h)

theorem PortUnit.releaseIfDry_of_dry {u : PortUnit} (h : u.slot.isReady = false) (hn : u.notices = []) :
    u.releaseIfDry = { u with attention := .released, relTimer := none, absTimer := none } := by
  rw [PortUnit.releaseIfDry, if_neg (by simp [h, hn])]

/-- Settles O58: the start of a read by the slot and the stretch mode, and a delivery by the record under way. -/
theorem readsAndDeliveries : Obligations.ReadsAndDeliveries := by
  refine ⟨fun p address s => ⟨fun h => by simp [exec, execReadTransaction, h], fun h hst => ?_⟩, fun p s => ?_⟩
  · have hex : exec (.readTransaction p address) s = .next (s.modPort p (PortUnit.startRead s.inService)) := by
      simp [exec, execReadTransaction, h]
    rw [hex]
    refine ⟨fun code hb hm => congrArg _ (State.modPort_congr ?_), fun hn => ⟨(s.port p).chooseRecord, congrArg _ (State.modPort_congr ?_), ?_⟩⟩
    · simp [PortUnit.startRead, hst, hb, ReplySlot.isBusy, hm]
    · have : ((s.port p).slot.isBusy && (s.port p).stretchMode) = false := by simpa [← Bool.not_eq_true, Bool.and_eq_true] using hn
      simp [PortUnit.startRead, hst, this, PortUnit.makeUp_eq, State.inService_eq]
    · refine ⟨fun r h => ?_, fun code h => ?_, fun n rest h hn => ?_, fun h hn => ?_⟩
      · simp [PortUnit.chooseRecord, h]
      · simp [PortUnit.chooseRecord, h]
      · simp [PortUnit.chooseRecord, h, hn]
      · simp [PortUnit.chooseRecord, h, hn]
  · have hex : exec (.recordDelivery p) s = .next (s.modPort p PortUnit.deliver) := rfl
    rw [hex]
    refine ⟨fun h => congrArg _ (State.modPort_eq_self ?_), fun status record h => congrArg _ (State.modPort_eq_self ?_),
      fun status r h => ⟨fun hn => congrArg _ (State.modPort_congr ?_), fun hn => congrArg _ (State.modPort_congr ?_)⟩,
      fun status n h => ⟨fun hn => congrArg _ (State.modPort_congr ?_), fun hr hn => congrArg _ (State.modPort_congr ?_)⟩⟩
    · simp only [PortUnit.deliver, h]
    · cases record <;> simp only [PortUnit.deliver, h]
    · simp only [PortUnit.deliver, h]
      exact PortUnit.releaseIfDry_of_left (.inr hn)
    · simp only [PortUnit.deliver, h]
      exact PortUnit.releaseIfDry_of_dry rfl hn
    · simp only [PortUnit.deliver, h]
      exact PortUnit.releaseIfDry_of_left hn
    · simp only [PortUnit.deliver, h]
      exact (PortUnit.releaseIfDry_of_dry (u := { s.port p with notices := (s.port p).notices.tail, reading := _ }) hr hn).trans (by rw [hn])

/-! ## The port's timers (8.6, 9.5) -/

/-- Settles O59: an attention timer acts in WAITING while it runs, and the stretch timer while a read is held. -/
theorem portTimersExpire : Obligations.PortTimersExpire := by
  intro p s
  have hrel : exec (.relativeTimerExpiry p) s = .next (s.modPort p PortUnit.relativeExpires) := rfl
  have habs : exec (.absoluteTimerExpiry p) s = .next (s.modPort p PortUnit.absoluteExpires) := rfl
  have hst : exec (.stretchTimerExpiry p) s = .next (s.modPort p (PortUnit.stretchExpires s.inService)) := rfl
  rw [hrel, habs, hst]
  refine ⟨fun hw => ⟨fun hn => ?_, fun hn => ?_⟩, fun hw => ?_, fun hn => ?_, fun hn => ?_, fun hn => ?_, fun code hb hn => ?_⟩
  · have hu : (s.port p).relativeExpires = (s.port p).assertLine := by
      simp [PortUnit.relativeExpires, hw, Option.isSome_iff_ne_none.mpr hn]
    refine ⟨congrArg _ (State.modPort_congr hu), fun t ht => ?_⟩
    cases ht
    exact congrArg Host.Outcome.next (State.modPort_eq_self (f := PortUnit.absoluteExpires) (by simp [hu, PortUnit.absoluteExpires]))
  · have hu : (s.port p).absoluteExpires = (s.port p).assertLine := by
      simp [PortUnit.absoluteExpires, hw, Option.isSome_iff_ne_none.mpr hn]
    refine ⟨congrArg _ (State.modPort_congr hu), fun t ht => ?_⟩
    cases ht
    exact congrArg Host.Outcome.next (State.modPort_eq_self (f := PortUnit.relativeExpires) (by simp [hu, PortUnit.relativeExpires]))
  · exact ⟨congrArg _ (State.modPort_eq_self (by simp [PortUnit.relativeExpires, hw])),
      congrArg _ (State.modPort_eq_self (by simp [PortUnit.absoluteExpires, hw]))⟩
  · exact congrArg _ (State.modPort_eq_self (by simp [PortUnit.relativeExpires, hn]))
  · exact congrArg _ (State.modPort_eq_self (by simp [PortUnit.absoluteExpires, hn]))
  · exact congrArg _ (State.modPort_eq_self (by simp [PortUnit.stretchExpires, hn]))
  · refine congrArg _ (State.modPort_congr ?_)
    have hs : (s.port p).stretch.isSome = true := Option.isSome_iff_ne_none.mpr hn
    simp only [PortUnit.stretchExpires, hs, if_true, PortUnit.makeUp_eq, State.inService_eq, PortUnit.chooseRecord, hb]
    simp [ReplySlot.isReady, ReplySlot.isBusy]

/-! ## SET PORT MODE, PORT RESTART and LIST -/

/-- The issuing port after its own command changed its unit and answered. -/
theorem State.modPort_answer_handed {s : State} {p : PortId} {c : Cmd} (f : PortUnit → PortUnit) (st : Status) (d : ReplyData) :
    ((s.handed c p).modPort p f).answer p c st d =
      s.modPort p fun u => (f (u.endRead.handOver c.code)).placeReply s.inService ⟨c.code, st, d⟩ := by
  rw [State.answer, State.reply, State.modPort_modPort, State.handed, State.modPort_modPort]
  rfl

/-- Settles O55: the port's own settings, and its reply. -/
theorem portModeAndRestart : Obligations.PortModeAndRestart := by
  intro w s
  refine ⟨fun mode rel abs ht hp => ⟨_, rfl, ?_⟩, fun ha he hs hp => ?_⟩
  · have hex : exec (.setPortMode w) s = .next (ownSetPortMode w.port (mode.toNat, rel.toNat, abs.toNat) (s.handed .setPortMode w.port)) :=
      congrArg Host.Outcome.next (State.frame_of_takes (owner := ownSetPortMode) ht (by rw [hp]; rfl))
    have hne : (mode.toNat != 0) = decide (mode.toNat ≠ 0) := by simp [bne, beq_eq_decide]
    rw [hex, ownSetPortMode, State.modPort_answer_handed, hne]
    refine congrArg _ (State.modPort_congr ?_)
    simp [PortUnit.placeReply, PortUnit.handOver, PortUnit.endRead, PortUnit.assertLine, PortUnit.answered, PortUnit.errorsAfter, ht.still,
      clampStatus, Cmd.code]
  · have ht : Takes .portRestart w s := ⟨ha, he, hs, .inr (.inr rfl), rfl⟩
    have hex : exec (.portRestart w) s = .next (ownPortRestart w.port () (s.handed .portRestart w.port)) :=
      congrArg Host.Outcome.next (State.frame_of_takes (owner := ownPortRestart) ht (by rw [hp]; rfl))
    rw [hex, ownPortRestart, State.modPort_answer_handed]
    refine congrArg _ (State.modPort_congr ?_)
    simp [PortUnit.placeReply, PortUnit.handOver, PortUnit.endRead, PortUnit.assertLine, PortUnit.answered, PortUnit.errorsAfter, hs, Cmd.code]

/-- Settles O56: the records its role follows, and the overrun flag with the cursor 0. -/
theorem listPages : Obligations.ListPages := by
  intro w s cursor n1 n0 ht hn hp
  have hex : exec (.list w) s = .next (ownList w.port cursor (s.handed .list w.port)) :=
    congrArg Host.Outcome.next (State.frame_of_takes (owner := ownList) ht (by rw [hp]; exact parseNumber_of hn))
  refine ⟨(s.handed .list w.port).listed w.port cursor, fun hr => ?_, fun hr => ?_, fun hr => ?_, ?_⟩
  · simp only [State.listed, State.handed_role, hr, beq_eq_decide]
    rfl
  · rcases hr with hr | hr <;> simp only [State.listed, State.handed_role, hr] <;> rfl
  · have hlists (x : Slip) : (s.handed .list w.port).listsSlip w.port x =
        (decide ((s.station x.station).config.port = some w.port) && (!x.isPending || x.previewed)) := by
      rw [State.listsSlip, State.isBound, State.handed_role, hr]
      simp [beq_eq_decide]
    simp only [State.listed, State.handed_role, hr, hlists]
    rfl
  · rw [hex, ownList, State.modPort_answer_handed]
    refine congrArg _ (State.modPort_congr ?_)
    have hne : (cursor != 0) = decide (cursor ≠ 0) := by simp [bne, beq_eq_decide]
    have hover : ((s.handed .list w.port).port w.port).overrun = (s.port w.port).overrun := by rw [State.handed_port]; rfl
    simp only [hover, hne, beq_eq_decide]
    simp [PortUnit.placeReply, PortUnit.handOver, PortUnit.endRead, PortUnit.assertLine, PortUnit.answered, PortUnit.errorsAfter, ht.still,
      Cmd.code, Config.listPage]
    rfl

end Sys2Proof.Machine
end

section
/-! SUPPORT. Records on the wire (chapter 10). -/

namespace Sys2Proof.Machine

/-! ## Bytes and their parts -/

@[simp] theorem twoBytes_length (n : Nat) : (twoBytes n).length = 2 := rfl

@[simp] theorem signedBytes_length (z : Int) : (signedBytes z).length = 2 := rfl

theorem byte_toNat (n : Nat) : (byte n).toNat = n % 256 := BitVec.toNat_ofNat n 8

/-- Two's complement in two bytes (10.1). -/
theorem signedBytes_eq {z : Int} (h1 : -32768 ≤ z) (h2 : z ≤ 32767) :
    signedBytes z = twoBytes (if z < 0 then (65536 + z).toNat else z.toNat) := by
  have : (BitVec.ofInt 16 z).toNat = if z < 0 then (65536 + z).toNat else z.toNat := by
    rw [BitVec.toNat_ofInt]
    split <;> omega
  rw [signedBytes, this]

/-- The three low flags of a packed byte. -/
theorem packByte_low (b0 b1 b2 b3 b4 b5 b6 b7 : Bool) :
    (packByte b0 b1 b2 b3 b4 b5 b6 b7).getLsbD 0 = b0 ∧ (packByte b0 b1 b2 b3 b4 b5 b6 b7).getLsbD 1 = b1 ∧
      (packByte b0 b1 b2 b3 b4 b5 b6 b7).getLsbD 2 = b2 := by
  revert b0 b1 b2 b3 b4 b5 b6 b7
  decide

/-- The flags of the STATUS reply stand in bits 2, 3 and 4 alone (R168). -/
theorem portFlagsByte_bits (r : StatusReport) (i : Nat) (h : i < 8) : (portFlagsByte r).getLsbD i = true ↔
    i = 2 ∧ r.collided = true ∨ i = 3 ∧ r.overrun = true ∨ i = 4 ∧ r.muted = true := by
  have key : ∀ (c o m : Bool) (j : Fin 8), (packByte false false c o m false false false).getLsbD j.val = true ↔
      j.val = 2 ∧ c = true ∨ j.val = 3 ∧ o = true ∨ j.val = 4 ∧ m = true := by decide
  exact key r.collided r.overrun r.muted ⟨i, h⟩

theorem sweepFlagsByte_bits (v : Sweep) :
    ((sweepFlagsByte v).getLsbD 0 = true ↔ v.direction = .down) ∧ (sweepFlagsByte v).getLsbD 1 = v.interlace := by
  obtain ⟨h0, h1, _⟩ := packByte_low (v.direction == .down) v.interlace false false false false false false
  exact ⟨by rw [sweepFlagsByte, h0, beq_iff_eq], h1⟩

/-- Entries of one width laid end to end. -/
theorem flatten_map_length {α : Type} (f : α → List Byte) (k : Nat) (h : ∀ a, (f a).length = k) (l : List α) :
    (l.map f).flatten.length = k * l.length := by
  induction l with
  | nil => rfl
  | cons a l ih => simp [h, ih]; ring

theorem optionalByte_eq {n : Nat} {o : Option (Fin n)} {b : Byte} (hs : ∀ i, o = some i → b = byte i.val) (hn : o = none → b = 0xFF) :
    optionalByte o = b := by
  cases o with
  | none => exact (hn rfl).symm
  | some i => exact (hs i rfl).symm

/-! ## Lengths (10.4, 10.5) -/

theorem NoticeBody.fields_length (b : NoticeBody) (h : ∀ slip st item cls portions fire members,
    b = .call slip st item cls portions fire members → members.length ≤ 16) : b.fields.length ≤ 56 := by
  cases b with
  | call slip st item cls portions fire members =>
    have hm := h _ _ _ _ _ _ _ rfl
    have := flatten_map_length (fun m : Nat × Nat => twoBytes m.1 ++ [byte m.2]) 3 (fun _ => rfl) members
    simp only [NoticeBody.fields, List.length_append, List.length_cons, List.length_nil, twoBytes_length, this]
    omega
  | _ => simp [NoticeBody.fields]

theorem ListEntry.bytes_length (e : ListEntry) : e.bytes.length = 4 := by cases e <;> rfl

theorem ReplyData.bytes_length (d : ReplyData) (ht : ∀ h lines, d = .ticket h lines → lines.length ≤ 6)
    (hs : ∀ h members, d = .slip h members → members.length ≤ 10)
    (hl : ∀ more cleared clock entries, d = .list more cleared clock entries → entries.length ≤ 14) : d.bytes.length ≤ 60 := by
  cases d with
  | ticket h lines =>
    have hm := ht _ _ rfl
    have := flatten_map_length lineBytes 7 (fun _ => rfl) lines
    simp only [ReplyData.bytes, List.length_append, List.length_cons, List.length_nil, twoBytes_length, this]
    omega
  | slip h members =>
    have hm := hs _ _ rfl
    have := flatten_map_length memberBytes 4 (fun _ => rfl) members
    simp only [ReplyData.bytes, List.length_append, List.length_cons, List.length_nil, twoBytes_length, this]
    omega
  | list more cleared clock entries =>
    have hm := hl _ _ _ _ rfl
    have := flatten_map_length ListEntry.bytes 4 ListEntry.bytes_length entries
    simp only [ReplyData.bytes, List.length_append, List.length_cons, List.length_nil, twoBytes_length, this]
    omega
  | item c e out valid => cases e <;> simp [ReplyData.bytes]
  | _ => simp [ReplyData.bytes, sweepBytes, configBytes]

/-! ## The entries of QUERY TICKET (R170) -/

/-- The two packed bytes of a line entry. -/
def linePlace (l : Line) : Byte × Byte :=
  (byte (l.qty % 32 + 32 * l.state.code.toNat), byte ((match l.station with | some st => st.val | none => 15) + 128 * l.late.toNat))

theorem zip_map_self {α β : Type} (f : α → β) (l : List α) : l.zip (l.map f) = l.map fun a => (a, f a) := by
  induction l with
  | nil => rfl
  | cons a l ih => simp [ih]

theorem LineState.code_le (l : LineState) : l.code.toNat ≤ 4 := by cases l <;> exact Nat.le_of_ble_eq_true rfl

theorem linePlace_spec {l : Line} (h : l.qty < 32) :
    (linePlace l).1.toNat = l.qty + 32 * l.state.code.toNat ∧
    (linePlace l).2.toNat = (match l.station with | some st => st.val | none => 15) + if l.late then 128 else 0 := by
  have hc := l.state.code_le
  constructor
  · rw [linePlace, byte_toNat]; omega
  · rw [linePlace, byte_toNat]
    have hst : (match l.station with | some st => st.val | none => 15) < 16 := by
      cases l.station with
      | none => decide
      | some st => exact Nat.lt_of_lt_of_le st.isLt (by decide)
    generalize (match l.station with | some st => st.val | none => 15) = n at hst ⊢
    cases l.late
    · exact Nat.mod_eq_of_lt (by simp; omega)
    · exact Nat.mod_eq_of_lt (by simp; omega)

theorem wave_and_code (v : WaveId) (c : TicketState) : (byte (v.val + 32 * c.code.toNat)).toNat = v.val + 32 * c.code.toNat := by
  have hc : c.code.toNat ≤ 2 := by cases c <;> decide
  rw [byte_toNat]
  omega

/-- The bytes of a read past the record are FFh (R144, R168). -/
theorem Reading.byteAt_spec (r : Reading) : r.byteAt 0 = r.status ∧
    (∀ i b, r.record.bytes[i]? = some b → r.byteAt (i + 1) = b) ∧ ∀ i, r.record.bytes.length < i → r.byteAt i = 0xFF := by
  refine ⟨rfl, fun i b h => ?_, fun i h => ?_⟩
  · simp [Reading.byteAt, h]
  · have : (r.status :: r.record.bytes)[i]? = none := List.getElem?_eq_none (by simp; omega)
    simp [Reading.byteAt, this]

/-! ## The records whose bytes hold packed flags or counted entries -/

/-- The ticket's data (R170): each entry takes the packed bytes of its own line. -/
theorem ReplyData.ticket_bytes (h : TicketHeader) (lines : List Line) : (ReplyData.ticket h lines).bytes =
    twoBytes h.number ++ [byte h.origin.val, byte h.wave.val] ++ twoBytes h.table
      ++ [byte h.position, ticketMarksByte h, h.state.code, byte h.refires] ++ twoBytes h.accepted ++ twoBytes h.target ++ twoBytes h.projected
      ++ [byte h.lineCount] ++ ((lines.zip (lines.map linePlace)).flatMap fun e =>
        twoBytes e.1.item.toNat ++ [e.2.1, e.2.2, e.1.modifiers] ++ twoBytes
          (match e.1.state with | .waiting n | .called n | .cooking n | .ready n => n | .void => 0)) := by
  rw [zip_map_self, List.flatMap_def, List.map_map, ReplyData.bytes]
  rfl

theorem configBytes_eq (c : StationConfig) {port backup : Byte} (hp : ∀ q, c.port = some q → port = byte q.val) (hn : c.port = none → port = 0xFF)
    (hb : ∀ b, c.backup = some b → backup = byte b.val) (hm : c.backup = none → backup = 0xFF) :
    configBytes c = [port, byte c.slots, byte c.reserve] ++ twoBytes c.plate ++ [byte c.timeout, backup] ++ twoBytes c.horizon
      ++ twoBytes c.window ++ twoBytes c.initialLag := by
  rw [configBytes, optionalByte_eq hp hn, optionalByte_eq hb hm]

/-- A listed ticket's entry: its wave and state share a byte, its marks stand in the last. -/
theorem ListEntry.ticket_bytes (n : Nat) (v : WaveId) (state : TicketState) (late exceptional : Bool) : ∃ place marks : Byte,
    (ListEntry.ticket n v state late exceptional).bytes = twoBytes n ++ [place, marks] ∧ place.toNat = v.val + 32 * state.code.toNat ∧
      marks.getLsbD 0 = late ∧ marks.getLsbD 1 = exceptional :=
  have ⟨h0, h1, _⟩ := packByte_low late exceptional false false false false false false
  ⟨_, _, rfl, wave_and_code v state, h0, h1⟩

/-- A notice record holds its own length, at most 61 (10.5). -/
theorem Notice.bytes_spec (n : Notice) (h : ∀ slip st item cls portions fire members,
    n.body = .call slip st item cls portions fire members → members.length ≤ 16) :
    ∃ (len : Nat) (fields : List Byte), 5 ≤ len ∧ len ≤ 61 ∧ fields.length + 5 = len ∧ n.body.fields = fields ∧
      n.bytes = [byte len, n.body.code, byte (n.clock / 256), byte n.clock, byte (n.body.subject / 256), byte n.body.subject] ++ fields :=
  ⟨n.body.fields.length + 5, n.body.fields, Nat.le_add_left _ _, Nat.add_le_add_right (n.body.fields_length h) 5, rfl, rfl, rfl⟩

/-- A reply record holds its own length, at most 62 (10.4). -/
theorem Reply.bytes_spec (r : Reply) (ht : ∀ h lines, r.data = .ticket h lines → lines.length ≤ 6)
    (hs : ∀ h members, r.data = .slip h members → members.length ≤ 10)
    (hl : ∀ more cleared clock entries, r.data = .list more cleared clock entries → entries.length ≤ 14) :
    ∃ (len : Nat) (data : List Byte), 2 ≤ len ∧ len ≤ 62 ∧ data.length + 2 = len ∧ (r.data = .empty → data = []) ∧ r.data.bytes = data ∧
      r.bytes = [byte len, r.code, r.status.code] ++ data :=
  ⟨r.data.bytes.length + 2, r.data.bytes, Nat.le_add_left _ _, Nat.add_le_add_right (r.data.bytes_length ht hs hl) 2, rfl,
    fun h => by rw [h]; rfl, rfl, rfl⟩

/-- Settles O60, row by row of the tables of chapter 10. -/
theorem recordsOnTheWire : Obligations.RecordsOnTheWire := by
  refine ⟨Notice.bytes_spec, Reply.bytes_spec, Reading.byteAt_spec, fun _ => rfl, fun _ => signedBytes_eq, rfl, rfl, rfl, rfl, rfl,
    fun _ _ _ => ⟨rfl, rfl⟩, rfl, rfl, rfl, rfl, rfl, ?preview, ?call, ?changed, ?withdrawn, ?ticketNotices, ?lineNotices, ?station, ?others,
    fun d => ?data⟩
  case preview => rintro n st item cls fire portions members b rfl; exact ⟨rfl, rfl, rfl⟩
  case call => rintro n st item cls fire portions members b rfl; exact ⟨rfl, rfl, rfl⟩
  case changed => rintro n st item state fire portions members b rfl; exact ⟨rfl, rfl, rfl⟩
  case withdrawn =>
    rintro n st d item reason b backup rfl
    exact ⟨rfl, rfl, by rintro rfl; rfl, by rintro rfl; rfl⟩
  case ticketNotices =>
    intro n table target line v late b
    exact ⟨by rintro rfl; exact ⟨rfl, rfl, rfl⟩, by rintro rfl; exact ⟨rfl, rfl, rfl⟩⟩
  case lineNotices =>
    intro n line refires item set cause b
    exact ⟨by rintro rfl; exact ⟨rfl, rfl, rfl⟩, by rintro rfl; exact ⟨rfl, rfl, rfl⟩, by rintro rfl; exact ⟨rfl, rfl, rfl⟩⟩
  case station =>
    rintro st d state cause left backup b rfl
    exact ⟨rfl, rfl, by rintro rfl; rfl, by rintro rfl; rfl⟩
  case others =>
    intro v state cause b
    exact ⟨by rintro rfl; exact ⟨rfl, rfl, rfl⟩, by rintro rfl; exact ⟨rfl, rfl, rfl⟩⟩
  case data =>
    refine ⟨?_, ?_, ?_, ?status, ?sweep, ?_, ?_, ?_, ?_, ?_, ?wave, ?_, ?_, ?_, ?_, ?_, ?_, ?_, ?_, ?_, ?_, ?pickup, ?_, ?ticket, ?slip, ?config,
      ?_, ?_, ?_, ?_, ?down, ?_, ?_, ?_, ?list⟩
    case status => rintro r rfl; exact ⟨portFlagsByte r, rfl, portFlagsByte_bits r⟩
    case sweep => rintro v rfl; exact ⟨sweepFlagsByte v, rfl, sweepFlagsByte_bits v⟩
    case wave => rintro r rfl; exact ⟨sweepFlagsByte r.sweep, rfl, sweepFlagsByte_bits r.sweep⟩
    case pickup =>
      rintro r rfl
      have ⟨h0, h1, _⟩ := packByte_low r.late r.exceptional false false false false false false
      exact ⟨pickupMarksByte r, rfl, h0, h1⟩
    case ticket =>
      rintro h lines rfl hq
      have ⟨h0, h1, h2⟩ := packByte_low h.rush h.late h.exceptional false false false false false
      refine ⟨ticketMarksByte h, lines.map linePlace, ReplyData.ticket_bytes h lines, h0, h1, h2, List.length_map _, ?_⟩
      rw [zip_map_self]
      intro e he
      obtain ⟨l, hl, rfl⟩ := List.mem_map.mp he
      exact linePlace_spec (hq l hl)
    case slip =>
      rintro h members rfl
      have ⟨h0, h1, _⟩ := packByte_low h.previewed h.delayListed false false false false false false
      exact ⟨slipMarksByte h, rfl, h0, h1⟩
    case config =>
      intro st c state port backup hp hn hb hm
      have hc := configBytes_eq c hp hn hb hm
      refine ⟨?_, ?_⟩
      · rintro rfl; rw [ReplyData.bytes, hc]; rfl
      · rintro r rfl; rw [ReplyData.bytes, hc]; rfl
    case down =>
      intro state left
      exact ⟨by rintro b rfl; rfl, by rintro rfl; rfl⟩
    case list =>
      rintro more cleared clock entries rfl
      have ⟨h0, h1, _⟩ := packByte_low more cleared false false false false false false
      refine ⟨listFlagsByte more cleared, rfl, h0, h1, fun e _ => ⟨by rintro n st state rfl; rfl, ?_⟩⟩
      rintro n v state late exceptional rfl
      exact ListEntry.ticket_bytes n v state late exceptional
    all_goals intros; subst d; rfl

end Sys2Proof.Machine
end

section
/-! SUPPORT. The events that leave the service running: what stands through them, and the records they keep numbered (R1, R3, R4, R77, R98). -/

namespace Sys2Proof.Machine

/-! ## What stands through the board's and the stations' operations -/

/-- From `s` to `t` nothing but waves, tickets, slips, stations and ports has changed. -/
def Stands (s t : State) : Prop :=
  t = { s with waves := t.waves, tickets := t.tickets, slips := t.slips, stations := t.stations, ports := t.ports }

theorem Stands.refl (s : State) : Stands s s := rfl

theorem Stands.trans {s t u : State} (h : Stands s t) (k : Stands t u) : Stands s u := by
  unfold Stands at *
  rw [k, h]

theorem Stands.foldl {α : Type} {f : State → α → State} (hf : ∀ s a, Stands s (f s a)) (l : List α) (s : State) : Stands s (l.foldl f s) := by
  induction l generalizing s with
  | nil => exact .refl s
  | cons a l ih => exact (hf s a).trans (ih _)

theorem Quiet.stands {s t : State} (h : Quiet s t) : Stands s t := by
  rw [h.frame]
  rfl

theorem Stands.service {s t : State} (h : Stands s t) : t.service = s.service := by rw [h]
theorem Stands.secondTimer {s t : State} (h : Stands s t) : t.secondTimer = s.secondTimer := by rw [h]
theorem Stands.clock {s t : State} (h : Stands s t) : t.clock = s.clock := by rw [h]

section Operations

variable (s : State) (x : Slip) (st : StationId)

theorem Stands.post (r : PortId → Bool) (b : NoticeBody) : Stands s (s.post r b) := rfl
theorem Stands.answer (p : PortId) (c : Cmd) (k : Status) (d : ReplyData) : Stands s (s.answer p c k d) := rfl
theorem Stands.modStation (f : StationUnit → StationUnit) : Stands s (s.modStation st f) := rfl
theorem Stands.modWave (w : WaveId) (f : Wave → Wave) : Stands s (s.modWave w f) := rfl
theorem Stands.modSlip (n : Nat) (f : Slip → Slip) : Stands s (s.modSlip n f) := rfl
theorem Stands.modTicket (n : Nat) (f : Ticket → Ticket) : Stands s (s.modTicket n f) := rfl
theorem Stands.modLine (n i : Nat) (f : Line → Line) : Stands s (s.modLine n i f) := rfl
theorem Stands.lowerTimers : Stands s (s.lowerTimers st) := rfl

theorem Stands.freeIfDone (w : WaveId) : Stands s (s.freeIfDone w) := by
  rw [Stands, s.freeIfDone_frame w]

theorem Stands.endEvacuation (c : StationCause) (n : Nat) : Stands s (s.endEvacuation st c n) := rfl

theorem Stands.finishEvacuation : Stands s (s.finishEvacuation st) := by
  unfold State.finishEvacuation
  split
  · exact .endEvacuation s st _ _
  · exact .refl s

theorem Stands.dropSlip : Stands s (s.dropSlip x) := by
  unfold State.dropSlip
  extract_lets s1 s2
  have h2 : Stands s s2 := Stands.trans (t := { s1 with slips := s1.slips.filter fun y => y.number != x.number }) rfl (.freeIfDone _ x.wave)
  split
  · exact h2.trans (.finishEvacuation s2 x.station)
  · exact h2

theorem Stands.emptySlip : Stands s (s.emptySlip x) := by
  unfold State.emptySlip
  split
  · exact (Stands.post s _ _).trans (.dropSlip _ x)
  · exact .dropSlip s x

theorem Stands.removeMember (n i : Nat) : Stands s (s.removeMember x n i) := by
  unfold State.removeMember
  split
  · exact .emptySlip s x
  · dsimp only
    split <;> rfl

theorem Stands.discard : Stands s (s.discard x) := (Stands.post s _ _).trans (.dropSlip _ x)

theorem Stands.loseBackup (d : StationId) : Stands s (s.loseBackup st d) := by
  unfold State.loseBackup
  split
  · exact .endEvacuation s d _ _
  · exact .refl s

theorem Stands.goDown (c : StationCause) : Stands s (s.goDown st c) := by
  unfold State.goDown
  extract_lets s1 s2 backup left s3 s4
  have h2 : Stands s s2 := (Stands.modStation s st _).trans (Stands.foldl (fun s x => (Quiet.returnSlip x _ s).stands) _ s1)
  have h4 : Stands s s4 := (h2.trans (Stands.post s2 _ _)).trans (Stands.foldl (fun s d => .loseBackup s st d) _ s3)
  split
  · exact h4.trans (.modStation s4 st _)
  · exact h4

theorem Stands.timeoutSlip : Stands s (s.timeoutSlip x) := by
  unfold State.timeoutSlip
  extract_lets s1
  have h1 : Stands s s1 := (Quiet.returnSlip x _ s).stands.trans (.modStation _ _ _)
  split
  · exact h1.trans (.goDown s1 x.station _)
  · exact h1

theorem Stands.timeoutAll (l : List Slip) : Stands s (s.timeoutAll st l) := by
  induction l generalizing s with
  | nil => exact .refl s
  | cons x l ih =>
    unfold State.timeoutAll
    extract_lets s1
    split
    · exact .timeoutSlip s x
    · exact (Stands.timeoutSlip s x).trans (ih s1)

theorem Stands.secondAt : Stands s (s.secondAt st) := by
  unfold State.secondAt
  extract_lets s1
  split
  · exact ((Stands.lowerTimers s st).trans (.timeoutAll s1 st _)).trans (Quiet.consider st _).stands
  · exact .refl s

theorem Stands.finishSlip : Stands s (s.finishSlip x) :=
  ((Quiet.setMembers x.members _ s).trans (.workOutAll _ _)).stands.trans (.dropSlip _ x)

theorem Stands.voidWaiting (n i : Nat) : Stands s (s.voidWaiting n i) := by
  unfold State.voidWaiting
  split
  · split
    · dsimp only
      split
      · exact (Stands.modLine s n i _).trans (.removeMember _ _ n i)
      · exact .modLine s n i _
    all_goals exact .refl s
  · exact .refl s

theorem Stands.sealWave (w : WaveId) : Stands s (s.sealWave w) := by
  unfold State.sealWave
  split
  · exact (Stands.modWave s w _).trans (.freeIfDone _ w)
  · exact .refl s

theorem Stands.refireTime (fire : Nat) : Stands s (s.refireTime x fire) := by
  unfold State.refireTime
  dsimp only
  split <;> rfl

theorem Stands.reachSlip (w : WaveId) (d : Delay) (n : Nat) (left : Bool) (rest : List (Nat × Bool)) : Stands s (s.reachSlip w d n left rest) := by
  unfold State.reachSlip
  split
  · exact .modWave s w _
  · refine Stands.trans ?_ (Quiet.consider _ _).stands
    split
    · exact .modWave s w _
    · exact (Stands.modWave s w _).trans (.refireTime _ _ _)

theorem Stands.moveSlip (b : StationId) : Stands s (s.moveSlip st b x) := by
  unfold State.moveSlip
  extract_lets s1 s2 s3
  have h1 : Stands s s1 := by
    simp only [s1]
    split
    · exact .post s _ _
    · exact .refl s
  have h3 : Stands s s3 := (h1.trans (t := s1) (u := s2) rfl).trans (Stands.foldl (fun s (m : Member) => .modLine s _ _ _) _ s2)
  exact (h3.trans (Quiet.consider b s3).stands).trans (.finishEvacuation _ st)

theorem Stands.reopen : Stands s (s.reopen st) := by
  unfold State.reopen
  extract_lets s1 s2
  have h1 : Stands s s1 := by
    simp only [s1]
    split
    · exact .endEvacuation s st _ _
    · exact .refl s
  have h3 : Stands s (s2.announceStation st .opened .reopened) := Stands.trans (t := s1) h1 rfl
  exact h3.trans (Quiet.consider st _).stands

theorem Stands.takeSlip (t : Nat) : Stands s (s.takeSlip x t) := by
  unfold State.takeSlip State.clearMissed
  refine Stands.trans ?_ (.modStation _ _ _)
  refine .trans ?_ (Quiet.workOutAll _ _).stands
  refine .trans ?_ (Quiet.setMembers _ _ _).stands
  exact .modSlip s _ _

theorem Stands.bumpSlip (t : Nat) : Stands s (s.bumpSlip x t) :=
  (Stands.trans (t := (s.clearMissed x.station).learn x.station (s.sampleOf x t)) rfl (.finishSlip _ x)).trans (Quiet.consider _ _).stands

theorem Stands.forceSlip : Stands s (s.forceSlip x) := by
  unfold State.forceSlip
  extract_lets s1 s2 s3
  have h3 : Stands s s3 := Stands.trans (t := s2) (by simp only [s2]; split <;> rfl) (.finishSlip s2 x)
  split
  · exact h3
  · exact h3.trans (Quiet.consider _ _).stands

theorem Stands.fireWave (w : WaveId) : Stands s (s.fireWave w) :=
  (Stands.foldl (fun s' (x : Slip) => .refireTime s' x _) _ s).trans (Quiet.considerAll _ _).stands

theorem Stands.releaseWave (w : WaveId) : Stands s (s.releaseWave w) := (Stands.modWave s w _).trans (Quiet.considerAll _ _).stands

end Operations

theorem Voiding.line_stands (n : Nat) (v : Voiding) (i : Nat) : Stands v.state (v.line n i).state := by
  unfold Voiding.line
  split
  · dsimp only
    split
    · split
      · exact (Stands.modLine _ n i _).trans (.removeMember _ _ n i)
      · exact .refl _
    · split
      · exact (Stands.modLine _ n i _).trans (.removeMember _ _ n i)
      · exact .refl _
    · split
      · exact (Stands.modLine _ n i _).trans (.modSlip _ _ _)
      · exact .refl _
    all_goals exact .refl _
  · exact .refl _

/-! ## Slips of one number -/

/-- Slip `x` is the only one of its number in the store, if it stands there at all. -/
def State.Only (s : State) (x : Slip) : Prop := ∀ y ∈ s.slips, y.number = x.number → y = x

theorem State.RecordsSound.only {s : State} (h : s.RecordsSound) {x : Slip} (hx : x ∈ s.slips) : s.Only x :=
  fun _ hy hn => h.slip_unique hx hy hn

theorem State.Only.congr {s t : State} {x : Slip} (h : s.Only x) (ht : t.slips = s.slips) : t.Only x := by rwa [State.Only, ht]

theorem State.Only.subset {s t : State} {x : Slip} (h : s.Only x) (ht : t.slips ⊆ s.slips) : t.Only x := fun y hy => h y (ht hy)

theorem Kept.removeMember_of_only {s : State} {x : Slip} (h : s.Only x) (n i : Nat) : Kept s (s.removeMember x n i) :=
  .removeMember (fun y hy hn => by rw [h y hy hn]; exact List.Subset.refl _) n i

theorem Kept.detachMember_of_only {s : State} {x : Slip} (h : s.Only x) (n i : Nat) : Kept s (s.detachMember x n i) :=
  .detachMember (fun y hy hn => by rw [h y hy hn]; exact List.Subset.refl _) n i

/-! ## Records kept -/

/-- Of the rest of the part no record's soundness tells. -/
theorem State.RecordsSound.beside {s t : State} (h : s.RecordsSound) (ht : t = { s with
    refireLimit := t.refireLimit, waves := t.waves, menu := t.menu, outBoard := t.outBoard, diversions := t.diversions, stations := t.stations
    ports := t.ports, tenthDivider := t.tenthDivider, freeCount := t.freeCount, pending := t.pending }) : t.RecordsSound := by
  rw [ht]
  exact ⟨h.clock_le, h.timer_iff, h.closed_empty, h.nextTicket_range, h.nextSlip_range, h.ticketsLast, h.slipsLast, h.tickets_rise,
    h.slips_rise, h.tickets_given, h.slips_given, h.members_given⟩

/-- What no operation that keeps the records and lets the service stand can break. -/
theorem State.RecordsSound.kept {s t : State} (h : s.RecordsSound) (k : Kept s t) (hs : Stands s t) : t.RecordsSound where
  clock_le := by rw [hs.clock]; exact h.clock_le
  timer_iff := by rw [hs.service, hs.secondTimer]; exact h.timer_iff
  closed_empty := fun hc => by
    obtain ⟨ht, hx⟩ := h.closed_empty (by rwa [hs.service] at hc)
    have k1 := k.tickets
    have k2 := k.slips
    rw [ht] at k1
    rw [hx] at k2
    exact ⟨List.map_eq_nil_iff.mp (List.sublist_nil.mp k1), List.map_eq_nil_iff.mp (List.sublist_nil.mp k2)⟩
  nextTicket_range := by rw [hs]; exact h.nextTicket_range
  nextSlip_range := by rw [hs]; exact h.nextSlip_range
  ticketsLast := by rw [hs]; exact h.ticketsLast
  slipsLast := by rw [hs]; exact h.slipsLast
  tickets_rise := by
    have := (List.pairwise_map (f := Ticket.number) (R := fun a b => a < b)).mpr h.tickets_rise
    exact List.pairwise_map.mp (this.sublist k.tickets)
  slips_rise := by
    have := (List.pairwise_map (f := Slip.number) (R := fun a b => a < b)).mpr h.slips_rise
    exact List.pairwise_map.mp (this.sublist k.slips)
  tickets_given := fun t' ht => by
    obtain ⟨u, hu, hn⟩ := List.mem_map.mp (k.tickets.subset (List.mem_map_of_mem (f := Ticket.number) ht))
    rw [hs, ← hn]
    exact h.tickets_given u hu
  slips_given := fun y hy => by
    obtain ⟨x, hx, hn⟩ := List.mem_map.mp (k.slips.subset (List.mem_map_of_mem (f := Slip.number) hy))
    rw [hs, ← hn]
    exact h.slips_given x hx
  members_given := fun y hy m hm => by
    obtain ⟨x, hx, _, hsub⟩ := k.members y hy
    rw [hs]
    exact h.members_given x hx m (hsub hm)

theorem State.RecordsSound.congr {s t : State} (h : s.RecordsSound) (hs : Stands s t) (ht : t.tickets = s.tickets) (hx : t.slips = s.slips) :
    t.RecordsSound := by
  obtain ⟨h1, h2, h3, h4, h5, h6, h7, h8, h9, h10, h11, h12⟩ := h
  rw [hs, ht, hx]
  exact ⟨h1, h2, h3, h4, h5, h6, h7, h8, h9, h10, h11, h12⟩

/-! ## The end of draining (R8, R9) -/

theorem State.dropSlip_slips (s : State) (x : Slip) : (s.dropSlip x).slips = s.slips.filter fun y => y.number != x.number := by
  unfold State.dropSlip
  extract_lets s1 s2
  have h2 : s2.slips = s.slips.filter fun y => y.number != x.number := by
    simp only [s2]
    rw [State.freeIfDone_frame]
    rfl
  split
  · unfold State.finishEvacuation
    split <;> exact h2
  · exact h2

theorem State.discard_slips (s : State) (x : Slip) : (s.discard x).slips = s.slips.filter fun y => y.number != x.number :=
  (s.postWithdrawn x .discarded).dropSlip_slips x

theorem State.discardAll_slips (l : List Slip) (s : State) :
    (l.foldl State.discard s).slips = s.slips.filter fun y => l.all fun x => y.number != x.number := by
  induction l generalizing s with
  | nil => simp
  | cons x l ih =>
    rw [List.foldl_cons, ih, State.discard_slips, List.filter_filter]
    refine List.filter_congr fun y _ => ?_
    rw [List.all_cons, Bool.and_comm]

/-- The end of draining leaves no slip (R9). -/
theorem State.endDraining_slips (s : State) : s.endDraining.slips = [] := by
  have h : s.endDraining.slips = (s.slips.foldl State.discard s).slips := rfl
  rw [h, State.discardAll_slips, List.filter_eq_nil_iff]
  intro y hy hall
  have := List.all_eq_true.mp hall y hy
  simp at this

theorem Stands.discardAll (l : List Slip) (s : State) : Stands s (l.foldl State.discard s) := Stands.foldl (fun s x => .discard s x) l s

theorem State.RecordsSound.endDraining {s : State} (h : s.RecordsSound) (ht : s.tickets = []) : s.endDraining.RecordsSound := by
  have ha := h.kept (Kept.foldl Kept.discard s.slips s) (Stands.discardAll s.slips s)
  have hx : (s.slips.foldl State.discard s).slips = [] := s.endDraining_slips
  have hk : (s.slips.foldl State.discard s).tickets = [] := by
    have := (Kept.foldl Kept.discard s.slips s).tickets
    rw [ht] at this
    exact List.map_eq_nil_iff.mp (List.sublist_nil.mp this)
  unfold State.endDraining
  generalize s.slips.foldl State.discard s = a at ha hx hk
  exact ⟨ha.clock_le, ⟨fun _ => rfl, fun _ => rfl⟩, fun _ => ⟨hk, hx⟩, ha.nextTicket_range, ha.nextSlip_range, ha.ticketsLast, ha.slipsLast,
    ha.tickets_rise, ha.slips_rise, ha.tickets_given, ha.slips_given, ha.members_given⟩

theorem State.RecordsSound.endIfDrained {s : State} (h : s.RecordsSound) : s.endIfDrained.RecordsSound := by
  unfold State.endIfDrained
  split
  · next hd => exact h.endDraining hd.2
  · exact h

theorem State.RecordsSound.leaveTable {s : State} (h : s.RecordsSound) (t : Ticket) : (s.leaveTable t).RecordsSound := by
  refine (h.kept (t := { s with tickets := s.tickets.filter fun u => u.number != t.number }.freeIfDone t.wave) ?_ ?_).endIfDrained
  · exact (Kept.filterTickets s _).trans (.freeIfDone _ _)
  · exact Stands.trans (t := { s with tickets := s.tickets.filter fun u => u.number != t.number }) rfl (.freeIfDone _ _)

theorem Kept.sealWaves (l : List WaveId) (s : State) : Kept s (l.foldl (fun s w => s.sealWave w) s) :=
  Kept.foldl (fun s w => .sealWave w s) l s

theorem Stands.sealWaves (l : List WaveId) (s : State) : Stands s (l.foldl (fun s w => s.sealWave w) s) :=
  Stands.foldl (fun s w => .sealWave s w) l s

/-- What CLOSE SERVICE does in OPEN: the waves sealed, the service DRAINING, the end of draining where it is due (R7). -/
theorem State.closeService_eq (s : State) : s.closeService =
    (({ allWaves.foldl (fun s w => s.sealWave w) s with service := .draining } : State).post everyPort (.service .draining .draining)).endIfDrained :=
  rfl

theorem State.RecordsSound.drain {s : State} (h : s.RecordsSound) (ho : s.service = .opened) :
    ({ s with service := .draining } : State).RecordsSound := by
  have ht : s.secondTimer ≠ none := fun hn => by rw [h.timer_iff.mp hn] at ho; cases ho
  exact ⟨h.clock_le, ⟨fun hn => absurd hn ht, nofun⟩, nofun, h.nextTicket_range, h.nextSlip_range, h.ticketsLast, h.slipsLast,
    h.tickets_rise, h.slips_rise, h.tickets_given, h.slips_given, h.members_given⟩

theorem State.RecordsSound.closeService {s : State} (h : s.RecordsSound) (ho : s.service = .opened) : s.closeService.RecordsSound := by
  have hk := Kept.sealWaves allWaves s
  have hst := Stands.sealWaves allWaves s
  rw [State.closeService_eq]
  generalize allWaves.foldl (fun s w => s.sealWave w) s = s1 at hk hst
  have h1 := (h.kept hk hst).drain (hst.service.trans ho)
  exact (h1.kept (.post _ _ _) (.post _ _ _)).endIfDrained

/-! ## Members and tickets leaving -/

theorem State.RecordsSound.voidWaiting {s : State} (h : s.RecordsSound) (n i : Nat) : (s.voidWaiting n i).RecordsSound := by
  refine h.kept ?_ (.voidWaiting s n i)
  unfold State.voidWaiting
  split
  · split
    · next k _ =>
      dsimp only
      split
      · next x hx =>
        have ho : (s.modLine n i fun l => { l with state := .void }).Only x := h.only (State.slip?_eq_some hx).2
        exact (Kept.modLine s n i _).trans (.removeMember_of_only ho n i)
      · exact .modLine s n i _
    all_goals exact .refl s
  · exact .refl s

theorem State.RecordsSound.voidWaitings {s : State} (h : s.RecordsSound) (n : Nat) (l : List Nat) :
    (l.foldl (State.voidWaiting n) s).RecordsSound := by
  induction l generalizing s with
  | nil => exact h
  | cons i l ih => exact ih (h.voidWaiting n i)

theorem State.RecordsSound.shortTicket {s : State} (h : s.RecordsSound) (c : ItemCode) (t : Ticket) : (s.shortTicket c t).RecordsSound := by
  unfold State.shortTicket
  extract_lets s1 s2
  have h1 : s1.RecordsSound := h.voidWaitings t.number (t.linesHit c)
  clear_value s1
  have h2 : s2.RecordsSound := h1.kept (.post _ _ s1) (.post s1 _ _)
  clear_value s2
  split
  · split
    · rw [State.retire]
      exact (h2.kept (.post _ _ s2) (.post s2 _ _)).leaveTable _
    · exact h2.kept (.workOut _ s2) (Quiet.workOut _ s2).stands
  · exact h2

theorem State.RecordsSound.markOut {s : State} (h : s.RecordsSound) (c : ItemCode) : (s.markOut c).RecordsSound := by
  have h0 : (s.setOutBoard (insertCode c s.outBoard)).RecordsSound := h.beside rfl
  unfold State.markOut
  generalize (if s.inService then s.ticketsHit c else []) = hit
  generalize s.setOutBoard _ = a at h0
  induction hit generalizing a with
  | nil => exact h0
  | cons t l ih => exact ih _ (h0.shortTicket c t)

theorem Voiding.line_recordsSound {v : Voiding} (h : v.state.RecordsSound) (n i : Nat) : (v.line n i).state.RecordsSound := by
  refine h.kept ?_ (v.line_stands n i)
  have hk (y : Slip) (hy : y ∈ v.state.slips) : Kept v.state ((v.state.modLine n i fun l => { l with state := .void }).removeMember y n i) :=
    (Kept.modLine v.state n i _).trans (.removeMember_of_only (s := v.state.modLine n i _) (h.only hy) n i)
  unfold Voiding.line
  split
  · dsimp only
    split
    · split
      · next hx => exact hk _ (State.slip?_eq_some hx).2
      · exact .refl _
    · split
      · next hx => exact hk _ (State.slip?_eq_some hx).2
      · exact .refl _
    · split
      · next hx => exact (Kept.modLine v.state n i _).trans (.detachMember_of_only (s := v.state.modLine n i _) (h.only (State.slip?_eq_some hx).2) n i)
      · exact .refl _
    all_goals exact .refl _
  · exact .refl _

theorem State.RecordsSound.voidLines {s : State} (h : s.RecordsSound) (t : Ticket) : (s.voidLines t).state.RecordsSound := by
  unfold State.voidLines
  have : ∀ (l : List Nat) (v : Voiding), v.state.RecordsSound → (l.foldl (Voiding.line t.number) v).state.RecordsSound := by
    intro l
    induction l with
    | nil => exact fun v hv => hv
    | cons i l ih => exact fun v hv => ih _ (v.line_recordsSound hv t.number i)
  exact this _ ⟨s, 0, 0, 0, []⟩ h

theorem State.RecordsSound.voidTicket {s : State} (h : s.RecordsSound) (t : Ticket) : (s.voidTicket t).RecordsSound := by
  unfold State.voidTicket
  extract_lets v s1
  have h1 : s1.RecordsSound := (h.voidLines t).kept (.considerAll _ _) (Quiet.considerAll _ _).stands
  exact (h1.congr (Stands.post s1 _ _) rfl rfl).leaveTable t

/-! ## Slips and tickets made -/

/-- A new slip takes the next number, which the counter then leaves (R4, R78). -/
theorem State.RecordsSound.createSlip {s : State} (h : s.RecordsSound) (hl : s.slipsLeft ≠ 0) (ho : s.service ≠ .closed) {m : Member}
    (hm : Given m.ticket s.nextTicket s.ticketsExhausted) (st : StationId) (c : ItemCode) (w : WaveId) (k : SlipClass) (fire : Nat) :
    (s.createSlip st c w k fire m).RecordsSound ∧ (s.createSlip st c w k fire m).slipsLeft = s.slipsLeft - 1 := by
  have hx : s.slipsExhausted = false := by
    cases he : s.slipsExhausted with
    | false => rfl
    | true => simp [State.slipsLeft, he] at hl
  have hr := h.nextSlip_range
  have hlt : ∀ x ∈ s.slips, x.number < s.nextSlip := fun x hx' => by
    rcases (h.slips_given x hx').2 with hlt | ⟨he, _⟩
    · exact hlt
    · rw [hx] at he; cases he
  have rise (x : Slip) (hn : x.number = s.nextSlip) : (s.slips ++ [x]).Pairwise fun a b => a.number < b.number :=
    List.pairwise_append.mpr ⟨h.slips_rise, List.pairwise_singleton _ _, fun a ha b hb => by
      rw [List.mem_singleton.mp hb, hn]; exact hlt a ha⟩
  have tickets (f : Line → Line) : (s.modLine m.ticket m.line f).tickets.Pairwise fun a b => a.number < b.number := by
    have := (List.pairwise_map (f := Ticket.number) (R := fun a b => a < b)).mpr h.tickets_rise
    rw [← s.modLine_numbers m.ticket m.line f] at this
    exact List.pairwise_map.mp this
  have given (f : Line → Line) : ∀ t ∈ (s.modLine m.ticket m.line f).tickets, Given t.number s.nextTicket s.ticketsExhausted := fun t ht => by
    have := List.mem_map_of_mem (f := Ticket.number) ht
    rw [s.modLine_numbers m.ticket m.line f] at this
    obtain ⟨u, hu, hn⟩ := List.mem_map.mp this
    rw [← hn]
    exact h.tickets_given u hu
  have members (x : Slip) (hxm : x.members = [m]) : ∀ y ∈ s.slips ++ [x], ∀ j ∈ y.members, Given j.ticket s.nextTicket s.ticketsExhausted := by
    intro y hy j hj
    rcases List.mem_append.mp hy with hy | hy
    · exact h.members_given y hy j hj
    · rw [List.mem_singleton.mp hy, hxm, List.mem_singleton] at hj
      rwa [hj]
  unfold State.createSlip
  extract_lets x
  by_cases hn : s.nextSlip < 65535
  · have hg : ({ s with slips := s.slips ++ [x] } : State).giveSlipNumber = { s with slips := s.slips ++ [x], nextSlip := s.nextSlip + 1 } :=
      if_pos hn
    rw [hg]
    refine ⟨⟨h.clock_le, h.timer_iff, fun hc => absurd hc ho, h.nextTicket_range, ?_, h.ticketsLast, ?_, tickets _, rise x rfl, given _,
      fun y hy => ?_, members x rfl⟩, ?_⟩
    · exact ⟨by simp, by simp; omega⟩
    · simp [hx]
    · refine ⟨?_, .inl ?_⟩
      · rcases List.mem_append.mp hy with hy | hy
        · exact (h.slips_given y hy).1
        · rw [List.mem_singleton.mp hy]; exact hr.1
      · rcases List.mem_append.mp hy with hy | hy
        · exact Nat.lt_succ_of_lt (hlt y hy)
        · rw [List.mem_singleton.mp hy]; exact Nat.lt_succ_self _
    · simp [State.slipsLeft, hx]; omega
  · have hg : ({ s with slips := s.slips ++ [x] } : State).giveSlipNumber = { s with slips := s.slips ++ [x], slipsExhausted := true } :=
      if_neg hn
    rw [hg]
    refine ⟨⟨h.clock_le, h.timer_iff, fun hc => absurd hc ho, h.nextTicket_range, h.nextSlip_range, h.ticketsLast, fun _ => ?_, tickets _, rise x rfl,
      given _, fun y hy => ?_, members x rfl⟩, ?_⟩
    · show s.nextSlip = 65535
      omega
    · rcases List.mem_append.mp hy with hy | hy
      · exact ⟨(h.slips_given y hy).1, .inl (hlt y hy)⟩
      · rw [List.mem_singleton.mp hy]
        exact ⟨hr.1, .inr ⟨rfl, by show s.nextSlip = 65535; omega⟩⟩
    · simp [State.slipsLeft, hx]; omega

theorem State.RecordsSound.joinSlip {s : State} (h : s.RecordsSound) {x : Slip} (hx : x ∈ s.slips) {m : Member}
    (hm : Given m.ticket s.nextTicket s.ticketsExhausted) (fire : Nat) : (s.joinSlip x fire m).RecordsSound := by
  have hj : (s.modSlip x.number fun _ => { x with members := x.members ++ [m], portions := x.portions + m.qty, fire := min x.fire fire }).RecordsSound := by
    have hnum : (s.modSlip x.number fun _ => { x with members := x.members ++ [m], portions := x.portions + m.qty, fire := min x.fire fire }).slips.map
        Slip.number = s.slips.map Slip.number := by
      rw [State.modSlip_slips, List.map_map]
      refine List.map_congr_left fun y _ => ?_
      simp only [Function.comp]
      split
      · next hy => exact hy.symm
      · rfl
    refine ⟨h.clock_le, h.timer_iff, fun hc => ?_, h.nextTicket_range, h.nextSlip_range, h.ticketsLast, h.slipsLast, h.tickets_rise, ?_,
      h.tickets_given, fun y hy => ?_, fun y hy j hj => ?_⟩
    · rw [(h.closed_empty hc).2] at hx; cases hx
    · have := (List.pairwise_map (f := Slip.number) (R := fun a b => a < b)).mpr h.slips_rise
      rw [← hnum] at this
      exact List.pairwise_map.mp this
    · have := List.mem_map_of_mem (f := Slip.number) hy
      rw [hnum] at this
      obtain ⟨u, hu, hn⟩ := List.mem_map.mp this
      rw [← hn]
      exact h.slips_given u hu
    · rw [State.modSlip_slips] at hy
      obtain ⟨z, hz, rfl⟩ := List.mem_map.mp hy
      split at hj
      · rcases List.mem_append.mp hj with hj | hj
        · exact h.members_given x hx j hj
        · rw [List.mem_singleton.mp hj]; exact hm
      · exact h.members_given z hz j hj
  have hl := hj.kept (Kept.modLine _ m.ticket m.line fun l => { l with state := .waiting x.number }) (Stands.modLine _ _ _ _)
  unfold State.joinSlip
  dsimp only
  split
  · exact hl.kept (Kept.post _ _ _) (Stands.post _ _ _)
  · exact hl

theorem Kept.readied (n i : Nat) (st : StationId) (late : Bool) (s : State) : Kept s (s.readied n i st late) := by
  unfold State.readied
  split
  · exact (Kept.modLine s _ _ _).trans (.setLate _ _ _)
  · exact .modLine s _ _ _

theorem Stands.setLate (n i : Nat) (s : State) : Stands s (s.setLate n i) := by
  unfold State.setLate
  dsimp only
  repeat' split
  all_goals rfl

theorem Stands.readied (n i : Nat) (st : StationId) (late : Bool) (s : State) : Stands s (s.readied n i st late) := by
  unfold State.readied
  split
  · exact (Stands.modLine s _ _ _).trans (.setLate _ _ _)
  · exact .modLine s _ _ _

theorem State.joined?_mem {s : State} {t : Ticket} {l : Line} {st : StationId} {fire : Nat} {x : Slip} (h : s.joined? t l st fire = some x) :
    x ∈ s.queue st ∧ s.qualifies st l.item t.wave fire l.qty x = true := by
  unfold State.joined? at h
  split at h
  · cases h
  · exact ⟨List.mem_of_find?_eq_some h, List.find?_some h⟩

/-- A line placed uses at most one slip number, and leaves the service and the ticket numbers as they were. -/
theorem State.RecordsSound.placeLine {s : State} (h : s.RecordsSound) (hl : s.slipsLeft ≠ 0) (ho : s.service ≠ .closed) {t : Ticket}
    (ht : Given t.number s.nextTicket s.ticketsExhausted) (i : Nat) (l : Line) :
    (s.placeLine t i l).1.RecordsSound ∧ s.slipsLeft - 1 ≤ (s.placeLine t i l).1.slipsLeft ∧ (s.placeLine t i l).1.service = s.service ∧
      (s.placeLine t i l).1.nextTicket = s.nextTicket ∧ (s.placeLine t i l).1.ticketsExhausted = s.ticketsExhausted := by
  cases hr : s.route l.item l.modifiers with
  | none =>
    rw [State.placeLine_of_no_route hr]
    exact ⟨h, Nat.sub_le _ _, rfl, rfl, rfl⟩
  | some st =>
    rw [State.placeLine_of_route hr]
    generalize (s.planned t l.item st).1 = fire
    have hk := Kept.readied t.number i st (s.planned t l.item st).2 s
    have hs := Stands.readied t.number i st (s.planned t l.item st).2 s
    generalize s.readied t.number i st (s.planned t l.item st).2 = a at hk hs
    have ha := h.kept hk hs
    have hleft : a.slipsLeft = s.slipsLeft := by rw [hs]; rfl
    have hgiven : Given (⟨t.number, i, l.qty⟩ : Member).ticket a.nextTicket a.ticketsExhausted := by rw [hs]; exact ht
    have hserv : a.service = s.service ∧ a.nextTicket = s.nextTicket ∧ a.ticketsExhausted = s.ticketsExhausted := by
      rw [hs]; exact ⟨rfl, rfl, rfl⟩
    obtain ⟨hserv, hnext, hex⟩ := hserv
    cases hj : a.joined? t l st fire with
    | some x =>
      have hx := (State.mem_queue.mp (State.joined?_mem hj).1).1
      have hstand : (a.joinSlip x fire ⟨t.number, i, l.qty⟩).slipsLeft = a.slipsLeft ∧ (a.joinSlip x fire ⟨t.number, i, l.qty⟩).service = a.service ∧
          (a.joinSlip x fire ⟨t.number, i, l.qty⟩).nextTicket = a.nextTicket ∧
          (a.joinSlip x fire ⟨t.number, i, l.qty⟩).ticketsExhausted = a.ticketsExhausted := by
        unfold State.joinSlip
        dsimp only
        split <;> exact ⟨rfl, rfl, rfl, rfl⟩
      obtain ⟨h1, h2, h3, h4⟩ := hstand
      exact ⟨ha.joinSlip hx hgiven fire, by rw [h1, hleft]; omega, h2.trans hserv, h3.trans hnext, h4.trans hex⟩
    | none =>
      have hc := ha.createSlip (hleft ▸ hl) (hserv ▸ ho) hgiven st l.item t.wave t.slipClass fire
      have hstand : (a.createSlip st l.item t.wave t.slipClass fire ⟨t.number, i, l.qty⟩).service = a.service ∧
          (a.createSlip st l.item t.wave t.slipClass fire ⟨t.number, i, l.qty⟩).nextTicket = a.nextTicket ∧
          (a.createSlip st l.item t.wave t.slipClass fire ⟨t.number, i, l.qty⟩).ticketsExhausted = a.ticketsExhausted := by
        unfold State.createSlip State.giveSlipNumber
        dsimp only
        split <;> exact ⟨rfl, rfl, rfl⟩
      obtain ⟨h2, h3, h4⟩ := hstand
      exact ⟨hc.1, by rw [hc.2, hleft], h2.trans hserv, h3.trans hnext, h4.trans hex⟩

/-- Lines of ticket `k` can be placed: the records sound, numbers left for `n` slips, the service running, the ticket's number given. -/
structure State.Placing (k : Ticket) (n : Nat) (s : State) : Prop where
  records : s.RecordsSound
  left : n ≤ s.slipsLeft
  running : s.service ≠ .closed
  given : Given k.number s.nextTicket s.ticketsExhausted

theorem State.Placing.placeLine {s : State} {k : Ticket} {n : Nat} (h : s.Placing k (n + 1)) (i : Nat) (l : Line) :
    (s.placeLine k i l).1.Placing k n := by
  have hl := h.left
  obtain ⟨h1, h2, h3, h4, h5⟩ := h.records.placeLine (by omega) h.running h.given i l
  exact ⟨h1, by omega, by rw [h3]; exact h.running, by rw [h4, h5]; exact h.given⟩

theorem State.placeLine_isOut (k : Ticket) (i : Nat) (l : Line) (s : State) (c : ItemCode) : (s.placeLine k i l).1.isOut c = s.isOut c := by
  rw [State.isOut, (State.Works.placeLine k i l s).outBoard, State.isOut]

/-- What passing over the lines of items marked out and placing every other keeps, holds once all are placed (R63, R88). -/
theorem State.placeLines_induct {P : Nat → State → Prop} {k : Ticket}
    (hout : ∀ (a : State) i l, k.lines[i]? = some l → a.isOut l.item = true → P i a → P (i + 1) a)
    (hplace : ∀ (a : State) i l, a.Placing k 1 → k.lines[i]? = some l → a.isOut l.item = false → P i a → P (i + 1) (a.placeLine k i l).1)
    (ls : List Line) (i : Nat) {s : State} (hls : k.lines.drop i = ls) (hi : i ≤ k.lines.length)
    (h : s.Placing k (ls.filter fun l => !s.isOut l.item).length) (hP : P i s) :
    (s.placeLines k i ls).1.RecordsSound ∧ P k.lines.length (s.placeLines k i ls).1 := by
  induction ls generalizing i s with
  | nil =>
    have hle : k.lines.length ≤ i := List.drop_eq_nil_iff.mp hls
    rw [Nat.le_antisymm hle hi]
    exact ⟨h.records, hP⟩
  | cons l ls ih =>
    have hl : k.lines[i]? = some l := by rw [← List.head?_drop, hls]; rfl
    have hlt : i < k.lines.length := (List.getElem?_eq_some_iff.mp hl).1
    have hdrop : k.lines.drop (i + 1) = ls := by rw [← List.drop_drop, hls]; rfl
    unfold State.placeLines
    split
    · next ho => exact ih (i + 1) hdrop hlt (by simpa [List.filter_cons, ho] using h) (hout s i l hl ho hP)
    · next ho =>
      have ho' : s.isOut l.item = false := Bool.eq_false_iff.mpr ho
      have h' : s.Placing k ((ls.filter fun l => !s.isOut l.item).length + 1) := by simpa [List.filter_cons, ho'] using h
      refine ih (i + 1) hdrop hlt ?_ (hplace s i l ⟨h'.records, Nat.le_trans (Nat.le_add_left _ _) h'.left, h'.running, h'.given⟩ hl ho' hP)
      simp only [State.placeLine_isOut]
      exact h'.placeLine i l

/-- What an accepted submission was checked for (R60, R62). -/
theorem State.checkSubmission_none {s : State} {a : Submission} (h : s.checkSubmission a = none) :
    s.service = .opened ∧ (s.wave a.wave).state = .opened ∧ s.ticketsExhausted = false ∧ s.liveLines a ≤ s.slipsLeft ∧ a.lines ≠ [] := by
  unfold State.checkSubmission at h
  split at h
  · cases h
  · next ht =>
    split at h
    · cases h
    · next hl =>
      have hr : s.checkRoom a = none := Option.map_eq_none_iff.mp h
      unfold State.checkTicket at ht
      unfold State.checkRoom at hr
      extract_lets w at ht
      split at ht
      · cases ht
      · next hs =>
        split at ht
        · cases ht
        · next hfree =>
          split at ht
          · cases ht
          · next hsealed =>
            split at hr
            · cases hr
            · next hroom =>
              split at hr
              · cases hr
              · split at hr
                · cases hr
                · next hslips =>
                  refine ⟨not_not.mp hs, ?_, by simpa using (not_or.mp hroom).2, by simpa using (not_or.mp hslips).2, ?_⟩
                  · show w.state = .opened
                    cases hw : w.state with
                    | opened => rfl
                    | free => exact absurd hw hfree
                    | sealed => exact absurd hw hsealed
                  · rintro hn
                    simp [State.checkLines, hn] at hl

/-- The state in which the lines of an accepted submission are placed: the ticket entered, its number given (R63 step 1). -/
def State.entered (s : State) (p : PortId) (a : Submission) : State :=
  { s with tickets := s.tickets ++ [s.newTicket p a] }.giveTicketNumber

theorem State.acceptTicket_eq (p : PortId) (a : Submission) (s : State) : s.acceptTicket p a =
    (((s.entered p a).placeLines (s.newTicket p a) 0 (s.newTicket p a).lines).1.considerAll fun st =>
      ((s.entered p a).placeLines (s.newTicket p a) 0 (s.newTicket p a).lines).2.contains st).workOut s.nextTicket := rfl

theorem State.RecordsSound.entered {s : State} (h : s.RecordsSound) {a : Submission} (ha : s.checkSubmission a = none) (p : PortId) :
    (s.entered p a).Placing (s.newTicket p a) ((s.newTicket p a).lines.filter fun l => !(s.entered p a).isOut l.item).length := by
  obtain ⟨hs, _, hx, hl, _⟩ := State.checkSubmission_none ha
  have hr := h.nextTicket_range
  have ho : s.service ≠ .closed := by rw [hs]; decide
  have hlt : ∀ t ∈ s.tickets, t.number < s.nextTicket := fun t ht => by
    rcases (h.tickets_given t ht).2 with hlt | ⟨he, _⟩
    · exact hlt
    · rw [hx] at he; cases he
  have rise : (s.tickets ++ [s.newTicket p a]).Pairwise fun a b => a.number < b.number :=
    List.pairwise_append.mpr ⟨h.tickets_rise, List.pairwise_singleton _ _, fun u hu v hv => by
      rw [List.mem_singleton.mp hv]; exact hlt u hu⟩
  have live : ((s.newTicket p a).lines.filter fun l => !s.isOut l.item).length = s.liveLines a := by
    simp only [State.newTicket, State.liveLines, List.filter_map, List.length_map]
    rfl
  unfold State.entered State.giveTicketNumber
  by_cases hn : s.nextTicket < 65535
  · rw [if_pos hn]
    refine ⟨⟨h.clock_le, h.timer_iff, fun hc => absurd hc ho, ⟨by simp, by simp; omega⟩, h.nextSlip_range, by simp [hx], h.slipsLast, rise, h.slips_rise,
      fun u hu => ?_, h.slips_given, fun x hx' m hm => ?_⟩, live ▸ hl, ho, hr.1, .inl (Nat.lt_succ_self _)⟩
    · rcases List.mem_append.mp hu with hu | hu
      · exact ⟨(h.tickets_given u hu).1, .inl (Nat.lt_succ_of_lt (hlt u hu))⟩
      · rw [List.mem_singleton.mp hu]; exact ⟨hr.1, .inl (Nat.lt_succ_self _)⟩
    · obtain ⟨h1, h2⟩ := h.members_given x hx' m hm
      exact ⟨h1, h2.imp Nat.lt_succ_of_lt id⟩
  · have hlast : s.nextTicket = 65535 := by omega
    rw [if_neg hn]
    refine ⟨⟨h.clock_le, h.timer_iff, fun hc => absurd hc ho, hr, h.nextSlip_range, fun _ => hlast, h.slipsLast, rise, h.slips_rise, fun u hu => ?_,
      h.slips_given, fun x hx' m hm => ?_⟩, live ▸ hl, ho, hr.1, .inr ⟨rfl, hlast⟩⟩
    · rcases List.mem_append.mp hu with hu | hu
      · exact ⟨(h.tickets_given u hu).1, .inl (hlt u hu)⟩
      · rw [List.mem_singleton.mp hu]; exact ⟨hr.1, .inr ⟨rfl, hlast⟩⟩
    · obtain ⟨h1, h2⟩ := h.members_given x hx' m hm
      exact ⟨h1, h2.imp id fun hh => ⟨rfl, hh.2⟩⟩

/-- What the ticket's entry begins and the placing of its lines keeps, holds of an accepted submission before its stations consider. -/
theorem State.RecordsSound.placed {s : State} (h : s.RecordsSound) {a : Submission} (ha : s.checkSubmission a = none) (p : PortId)
    {P : Nat → State → Prop} (h0 : P 0 (s.entered p a))
    (hout : ∀ (u : State) i l, (s.newTicket p a).lines[i]? = some l → u.isOut l.item = true → P i u → P (i + 1) u)
    (hplace : ∀ (u : State) i l, u.Placing (s.newTicket p a) 1 → (s.newTicket p a).lines[i]? = some l → u.isOut l.item = false → P i u →
      P (i + 1) (u.placeLine (s.newTicket p a) i l).1) :
    ((s.entered p a).placeLines (s.newTicket p a) 0 (s.newTicket p a).lines).1.RecordsSound ∧
      P (s.newTicket p a).lines.length ((s.entered p a).placeLines (s.newTicket p a) 0 (s.newTicket p a).lines).1 :=
  State.placeLines_induct hout hplace _ 0 rfl (Nat.zero_le _) (h.entered ha p) h0

theorem State.RecordsSound.acceptTicket {s : State} (h : s.RecordsSound) {a : Submission} (ha : s.checkSubmission a = none) (p : PortId) :
    (s.acceptTicket p a).RecordsSound := by
  have hp := (h.placed ha p (P := fun _ _ => True) trivial (fun _ _ _ _ _ _ => trivial) fun _ _ _ _ _ _ _ => trivial).1
  rw [State.acceptTicket_eq]
  exact (hp.kept (.considerAll _ _) (Quiet.considerAll _ _).stands).kept (.workOut _ _) (Quiet.workOut _ _).stands

theorem Kept.countRefire (n i : Nat) (s : State) : Kept s (s.countRefire n i) := by
  unfold State.countRefire
  split
  · exact .refl s
  · dsimp only
    split
    · refine .trans ?_ (.post _ _ _)
      exact .modTicket fun _ => rfl
    · exact .modTicket fun _ => rfl

theorem Stands.countRefire (n i : Nat) (s : State) : Stands s (s.countRefire n i) := by
  unfold State.countRefire
  dsimp only
  repeat' split
  all_goals rfl

theorem State.RecordsSound.refireLine {s : State} (h : s.RecordsSound) {t : Ticket} (ht : t ∈ s.tickets) (hl : s.slipsLeft ≠ 0) (i : Nat) (l : Line)
    (st : StationId) : (s.refireLine t i l st).RecordsSound := by
  unfold State.refireLine
  extract_lets s1
  have ho : s.service ≠ .closed := fun hc => by rw [(h.closed_empty hc).1] at ht; cases ht
  have h0 := h.kept (.modLine s t.number i fun l => { l with station := some st }) (.modLine s _ _ _)
  have h1 : s1.RecordsSound := (h0.createSlip (m := ⟨t.number, i, l.qty⟩) hl ho (h.tickets_given t ht) st l.item t.wave .priority s.clock).1
  have h2 := h1.kept ((Kept.workOut t.number s1).trans (.countRefire t.number i _)) ((Quiet.workOut t.number s1).stands.trans (.countRefire t.number i _))
  exact h2.kept (.consider st _) (Quiet.consider st _).stands

/-! ## Every step (R1, R3, R4, R77, R98) -/

theorem State.RecordsSound.empty {s : State} (h1 : s.service = .closed) (h2 : s.secondTimer = none) (h3 : s.clock ≤ 65535) (h4 : s.tickets = [])
    (h5 : s.slips = []) (h6 : s.nextTicket = 1) (h7 : s.nextSlip = 1) (h8 : s.ticketsExhausted = false) (h9 : s.slipsExhausted = false) :
    s.RecordsSound where
  clock_le := h3
  timer_iff := by simp [h1, h2]
  closed_empty _ := ⟨h4, h5⟩
  nextTicket_range := by simp [h6]
  nextSlip_range := by simp [h7]
  ticketsLast := by simp [h8]
  slipsLast := by simp [h9]
  tickets_rise := by simp [h4]
  slips_rise := by simp [h5]
  tickets_given := by simp [h4]
  slips_given := by simp [h5]
  members_given := by simp [h5]

theorem State.RecordsSound.openService {s : State} (h : s.RecordsSound) (hc : s.service = .closed) : s.openService.RecordsSound := by
  obtain ⟨ht, hx⟩ := h.closed_empty hc
  have ht' : s.openService.tickets = [] := ht
  have hx' : s.openService.slips = [] := hx
  exact ⟨Nat.zero_le _, ⟨nofun, nofun⟩, nofun, ⟨Nat.le_refl 1, Nat.le_of_ble_eq_true rfl⟩, ⟨Nat.le_refl 1, Nat.le_of_ble_eq_true rfl⟩, nofun, nofun, by rw [ht']; exact .nil,
    by rw [hx']; exact .nil, by rw [ht']; exact nofun, by rw [hx']; exact nofun, by rw [hx']; exact nofun⟩

theorem Deed.recordsSound {p : PortId} {s u : State} {c : Cmd} (k : Deed p s c u) (h : s.RecordsSound) : u.RecordsSound := by
  cases k with
  | nothing => exact h
  | openService hs => exact h.openService hs
  | closeService hs => exact h.closeService hs
  | resetService => exact .empty rfl rfl (Nat.zero_le _) rfl rfl rfl rfl rfl rfl
  | sealWave w => exact h.kept (.sealWave w s) (.sealWave s w)
  | releaseWave w => exact h.kept ((Kept.modWave s w _).trans (.considerAll _ _)) (.releaseWave s w)
  | fireWave w => exact h.kept (.fireWave w s) (.fireWave s w)
  | markOut c => exact h.markOut c
  | submitTicket a ha => exact h.acceptTicket ha p
  | voidTicket n t => exact h.voidTicket t
  | pickup n t => exact h.leaveTable t
  | refire n i t l st ht _ _ _ hn => exact h.refireLine (State.ticket?_eq_some ht).2 hn i l st
  | resumeStation st =>
    exact h.kept (((Kept.modStation rfl : Kept s (s.modStation st fun u => { u with state := .opened })).trans (.post _ _ _)).trans (.consider st _))
      (Stands.trans (t := s.announceStation st .opened .resumed) rfl (Quiet.consider st _).stands)
  | stationDown st => exact h.kept (.goDown st _ s) (.goDown s st _)
  | stationOpen st => exact h.kept (Kept.reopen st s) (.reopen s st)
  | take n x t k hx =>
    exact h.kept (Kept.takeSlip x t s) (.takeSlip s x t)
  | bump n x t => exact h.kept (Kept.bumpSlip x t s) (.bumpSlip s x t)
  | forceBump n x => exact h.kept (Kept.forceSlip x s) (.forceSlip s x)
  | _ => exact h.beside rfl

theorem Framed.recordsSound {c : Cmd} {p : PortId} {s t : State} (k : Framed c p s t) (h : s.RecordsSound) : t.RecordsSound := by
  cases k with
  | owned _ ho =>
    obtain ⟨u, hu, ⟨st, d, rfl⟩ | ⟨_, rfl, _⟩⟩ := ho
    · exact (hu.recordsSound (h.congr rfl rfl rfl)).congr rfl rfl rfl
    · exact hu.recordsSound (h.congr rfl rfl rfl)
  | _ => exact h.congr rfl rfl rfl

theorem State.RecordsSound.secondExpires {s : State} (h : s.RecordsSound) : s.secondExpires.RecordsSound := by
  unfold State.secondExpires
  split
  · next ht =>
    have hs : s.service ≠ .closed := fun hc => by rw [h.timer_iff.mpr hc] at ht; cases ht
    exact ⟨Nat.min_le_right _ _, ⟨nofun, fun hc => absurd hc hs⟩, h.closed_empty, h.nextTicket_range, h.nextSlip_range, h.ticketsLast, h.slipsLast,
      h.tickets_rise, h.slips_rise, h.tickets_given, h.slips_given, h.members_given⟩
  · exact h

theorem State.RecordsSound.refclkCycle {s : State} (h : s.RecordsSound) : s.refclkCycle.RecordsSound := by
  have h1 : (s.mapPorts fun _ u => u.stretchCycle s.inService).secondCycle.RecordsSound := by
    have h0 : (s.mapPorts fun _ u => u.stretchCycle s.inService).RecordsSound := h.congr rfl rfl rfl
    unfold State.secondCycle
    split
    · next n hn =>
      split
      · have hs : s.service ≠ .closed := fun hc => by rw [State.mapPorts_secondTimer, h.timer_iff.mpr hc] at hn; cases hn
        exact ⟨h.clock_le, ⟨nofun, fun hc => absurd hc hs⟩, h.closed_empty, h.nextTicket_range, h.nextSlip_range, h.ticketsLast, h.slipsLast,
          h.tickets_rise, h.slips_rise, h.tickets_given, h.slips_given, h.members_given⟩
      · exact h0.secondExpires
    · exact h0
  unfold State.refclkCycle State.tenthCycle
  generalize State.secondCycle _ = a at h1
  split <;> exact h1.beside rfl

theorem Happens.recordsSound {s t : State} (k : Happens s t) (h : s.RecordsSound) : t.RecordsSound := by
  cases k with
  | frame c p k => exact k.recordsSound h
  | powerOn => exact .empty rfl rfl (Nat.zero_le _) rfl rfl rfl rfl rfl rfl
  | resetPin => exact .empty rfl rfl (Nat.zero_le _) rfl rfl rfl rfl rfl rfl
  | second => exact h.secondExpires
  | stationSecond st =>
    exact h.kept ((Kept.modStation rfl : Kept s (s.modStation st fun u => { u with due := u.due - 1 })).trans (.secondAt st _))
      (Stands.trans (t := s.modStation st fun u => { u with due := u.due - 1 }) rfl (.secondAt _ st))
  | takeTimeout n x => exact h.kept (.timeoutSlip x s) (.timeoutSlip s x)
  | reachEmpty w d => exact h.congr rfl rfl rfl
  | reach w d e rest _ _ ht =>
    have hr : (s.reachSlip w d e.1 e.2 rest).RecordsSound := h.kept (Kept.reachSlip w d e.1 e.2 rest s) (.reachSlip s w d e.1 e.2 rest)
    rcases ht with rfl | ⟨d', _, rfl⟩
    · exact hr
    · exact hr.congr rfl rfl rfl
  | evacuationMove st b x => exact h.kept (Kept.moveSlip st b x s) (.moveSlip s x st b)
  | cycle => exact h.refclkCycle
  | _ => exact h.congr rfl rfl rfl

/-- Settles O7: every event keeps the records it finds numbered, gives each new record the next number, and empties the board as it closes. -/
theorem stepKeepsRecordsSound : Obligations.StepKeepsRecordsSound := by
  intro s t h hstep
  obtain ⟨rest, k⟩ := step_happens hstep
  exact k.recordsSound (h.beside rfl)

end Sys2Proof.Machine
end

section
/-! SUPPORT. Lines, slips and tickets under the operations that change slip states: what each writes, and the agreement of lines and
slips through them (R51 to R56, R80). -/

namespace Sys2Proof.Machine

/-! ## What the operations on members write -/

@[simp] theorem State.slips_workOut (n : Nat) (s : State) : (s.workOut n).slips = s.slips := by
  unfold State.workOut
  split
  · rfl
  · dsimp only
    split <;> rfl

@[simp] theorem State.wave_workOut (n : Nat) (s : State) (v : WaveId) : (s.workOut n).wave v = s.wave v := by
  unfold State.workOut
  split
  · rfl
  · dsimp only
    split <;> rfl

/-- A ticket with its state worked out (R56). -/
def Ticket.worked (t : Ticket) : Ticket := { t with state := t.workedState }

@[simp] theorem Ticket.worked_lines (t : Ticket) : t.worked.lines = t.lines := rfl
@[simp] theorem Ticket.worked_number (t : Ticket) : t.worked.number = t.number := rfl
@[simp] theorem Ticket.worked_worked (t : Ticket) : t.worked.worked = t.worked := rfl

/-- Working a ticket out changes that ticket alone. -/
theorem State.tickets_workOut (n : Nat) (s : State) : (s.workOut n).tickets = s.tickets.map fun t => if t.number = n then t.worked else t := by
  cases h : s.ticket? n with
  | none =>
    have hn := State.ticket?_eq_none.mp h
    have : s.workOut n = s := by simp only [State.workOut, h]
    rw [this]
    exact (List.map_id s.tickets).symm.trans (List.map_congr_left fun t ht => (if_neg (hn t ht)).symm)
  | some k =>
    rw [State.workOut_of_ticket? h]
    split <;> rfl

@[simp] theorem State.slips_workOutAll (ms : List Member) (s : State) : (s.workOutAll ms).slips = s.slips := by
  unfold State.workOutAll
  induction ms generalizing s with
  | nil => rfl
  | cons m ms ih => rw [List.foldl_cons, ih, State.slips_workOut]

@[simp] theorem State.wave_workOutAll (ms : List Member) (s : State) (v : WaveId) : (s.workOutAll ms).wave v = s.wave v := by
  unfold State.workOutAll
  induction ms generalizing s with
  | nil => rfl
  | cons m ms ih => rw [List.foldl_cons, ih, State.wave_workOut]

/-- The tickets of the members worked out, each once (R52). -/
theorem State.tickets_workOutAll (ms : List Member) (s : State) :
    (s.workOutAll ms).tickets = s.tickets.map fun t => if ms.any (fun m => decide (m.ticket = t.number)) then t.worked else t := by
  unfold State.workOutAll
  induction ms generalizing s with
  | nil => simp
  | cons m ms ih =>
    rw [List.foldl_cons, ih, State.tickets_workOut, List.map_map]
    refine List.map_congr_left fun t _ => ?_
    by_cases hm : m.ticket = t.number
    · simp [Function.comp, hm]
    · simp [Function.comp, hm, Ne.symm hm]

@[simp] theorem State.slips_setMembers (ms : List Member) (ls : LineState) (s : State) : (s.setMembers ms ls).slips = s.slips := by
  unfold State.setMembers
  induction ms generalizing s with
  | nil => rfl
  | cons m ms ih => rw [List.foldl_cons, ih]; rfl

@[simp] theorem State.wave_setMembers (ms : List Member) (ls : LineState) (s : State) (v : WaveId) : (s.setMembers ms ls).wave v = s.wave v := by
  unfold State.setMembers
  induction ms generalizing s with
  | nil => rfl
  | cons m ms ih => rw [List.foldl_cons, ih]; rfl

/-- A ticket with the lines that some members name given one state. -/
def Ticket.setLines (ms : List Member) (ls : LineState) (t : Ticket) : Ticket :=
  { t with lines := t.lines.mapIdx fun i l => if ms.any (fun m => decide (m.ticket = t.number ∧ m.line = i)) then { l with state := ls } else l }

/-- A ticket that no member names keeps its lines. -/
theorem Ticket.setLines_of_none {ms : List Member} {t : Ticket} (h : ∀ m ∈ ms, m.ticket ≠ t.number) (ls : LineState) : t.setLines ms ls = t := by
  have hany (i : Nat) : ¬ms.any (fun m => decide (m.ticket = t.number ∧ m.line = i)) = true := by
    rw [List.any_eq_true]
    rintro ⟨m, hm, hd⟩
    exact h m hm (of_decide_eq_true hd).1
  have hlines : (t.lines.mapIdx fun i l => if ms.any (fun m => decide (m.ticket = t.number ∧ m.line = i)) then { l with state := ls } else l) = t.lines := by
    refine List.ext_getElem? fun i => ?_
    rw [List.getElem?_mapIdx]
    cases t.lines[i]? with
    | none => rfl
    | some l => rw [Option.map_some, if_neg (hany i)]
  rw [Ticket.setLines, hlines]

theorem State.tickets_setMembers (ms : List Member) (ls : LineState) (s : State) :
    (s.setMembers ms ls).tickets = s.tickets.map (Ticket.setLines ms ls) := by
  unfold State.setMembers
  induction ms generalizing s with
  | nil => exact (List.map_id s.tickets).symm.trans (List.map_congr_left fun t _ => (Ticket.setLines_of_none (fun _ h => absurd h List.not_mem_nil) ls).symm)
  | cons m ms ih =>
    rw [List.foldl_cons, ih]
    show ((s.tickets.map fun t => if t.number = m.ticket then _ else t).map _) = _
    rw [List.map_map]
    refine List.map_congr_left fun t _ => ?_
    by_cases hm : t.number = m.ticket
    · simp only [Function.comp, if_pos hm, Ticket.setLines, List.any_cons]
      congr 1
      refine List.ext_getElem? fun i => ?_
      simp only [List.getElem?_mapIdx, List.getElem?_modify]
      cases t.lines[i]? with
      | none => simp
      | some l =>
        by_cases hi : m.line = i
        · simp [hm, hi]
        · simp [hm, hi]
    · simp [Function.comp, if_neg hm, Ticket.setLines, Ne.symm hm]

/-! ## Lines by their place -/

/-- Line `i` of ticket `n`. -/
def State.lineAt (s : State) (n i : Nat) : Option Line := (s.ticket? n).bind fun t => t.lines[i]?

theorem State.ticket?_of_map {s t : State} {f : Ticket → Ticket} (ht : t.tickets = s.tickets.map f) (hf : ∀ k, (f k).number = k.number) (n : Nat) :
    t.ticket? n = (s.ticket? n).map f := by
  rw [State.ticket?, ht, List.find?_map]
  congr 1
  exact List.find?_congr fun k _ => by simp [hf]

theorem State.lineAt_congr {s t : State} (h : t.tickets = s.tickets) (n i : Nat) : t.lineAt n i = s.lineAt n i := by
  rw [State.lineAt, State.ticket?, h]
  rfl

/-- Where tickets keep their numbers and lines, lines stand where they stood. -/
theorem State.lineAt_of_map {s t : State} {f : Ticket → Ticket} (ht : t.tickets = s.tickets.map f) (hf : ∀ k, (f k).number = k.number)
    (hl : ∀ k, (f k).lines = k.lines) (n i : Nat) : t.lineAt n i = s.lineAt n i := by
  rw [State.lineAt, State.ticket?_of_map ht hf, Option.bind_map, State.lineAt]
  exact Option.bind_congr fun k _ => by simp [hl]

theorem State.lineAt_workOut (m : Nat) (s : State) (n i : Nat) : (s.workOut m).lineAt n i = s.lineAt n i :=
  State.lineAt_of_map (s.tickets_workOut m) (fun k => by split <;> rfl) (fun k => by split <;> rfl) n i

theorem State.lineAt_workOutAll (ms : List Member) (s : State) (n i : Nat) : (s.workOutAll ms).lineAt n i = s.lineAt n i :=
  State.lineAt_of_map (s.tickets_workOutAll ms) (fun k => by split <;> rfl) (fun k => by split <;> rfl) n i

/-- A line written is the one named; every other stays. -/
theorem State.lineAt_modLine (a b : Nat) (f : Line → Line) (s : State) (n i : Nat) :
    (s.modLine a b f).lineAt n i = if n = a ∧ i = b then (s.lineAt n i).map f else s.lineAt n i := by
  rw [State.lineAt, State.ticket?_of_map (s := s) (f := fun t => if t.number = a then { t with lines := t.lines.modify b f } else t) rfl
    (fun k => by split <;> rfl), State.lineAt]
  cases h : s.ticket? n with
  | none => simp
  | some k =>
    have hk := (State.ticket?_eq_some h).1
    by_cases ha : n = a
    · subst ha
      simp only [Option.map_some, Option.bind_some, hk, if_true, List.getElem?_modify]
      by_cases hb : b = i
      · simp [hb]
      · simp [hb, Ne.symm hb]
    · simp [hk, ha]

theorem State.lineAt_setMembers (ms : List Member) (ls : LineState) (s : State) (n i : Nat) : (s.setMembers ms ls).lineAt n i =
    (s.lineAt n i).map fun l => if ms.any (fun m => decide (m.ticket = n ∧ m.line = i)) then { l with state := ls } else l := by
  rw [State.lineAt, State.ticket?_of_map (s.tickets_setMembers ms ls) fun _ => rfl, State.lineAt]
  cases h : s.ticket? n with
  | none => rfl
  | some k => simp [Ticket.setLines, (State.ticket?_eq_some h).1]

theorem State.RecordsSound.lineAt {s : State} (h : s.RecordsSound) {t : Ticket} (ht : t ∈ s.tickets) (i : Nat) :
    s.lineAt t.number i = t.lines[i]? := by
  rw [State.lineAt, h.ticket? ht]
  rfl

theorem State.lineAt_eq_some {s : State} {n i : Nat} {l : Line} (h : s.lineAt n i = some l) :
    ∃ t ∈ s.tickets, t.number = n ∧ t.lines[i]? = some l := by
  obtain ⟨t, ht, hl⟩ := Option.bind_eq_some_iff.mp h
  obtain ⟨hn, hm⟩ := State.ticket?_eq_some ht
  exact ⟨t, hm, hn, hl⟩

/-! ## Lines and slips in agreement (R51, R80) -/

/-- Lines and slips agree: each member entry names a line in its slip's state, with its quantity; each line in a slip is an entry of it; no
entry stands twice; a PENDING or CALLED slip has members, and its portions are theirs. -/
structure State.Linked (s : State) : Prop where
  entries : ∀ x ∈ s.slips, ∀ m ∈ x.members, ∃ l, s.lineAt m.ticket m.line = some l ∧ l.state = .follows x.number x.state ∧ l.qty = m.qty
  lines : ∀ n i l k, s.lineAt n i = some l → l.state.slipNumber = some k → ∃ x ∈ s.slips, x.number = k ∧ ∃ m ∈ x.members, m.ticket = n ∧ m.line = i
  once : ∀ x ∈ s.slips, (x.members.map fun m => (m.ticket, m.line)).Nodup
  portions : ∀ x ∈ s.slips, x.isTaken = false → x.members ≠ [] ∧ x.portions = (x.members.map Member.qty).sum

/-- Every ticket but those that `ex` names has the state its lines give, and a line that is not VOID (R56). -/
def State.WorkedBut (s : State) (ex : Nat → Prop) : Prop := ∀ t ∈ s.tickets, ¬ex t.number → t.state = t.workedState ∧ t.allVoid = false

/-- The agreement of lines and slips is what the invariant says of them. -/
theorem State.RecordsSound.membersSound_iff {s : State} (h : s.RecordsSound) : s.MembersSound ↔ s.Linked ∧ s.WorkedBut fun _ => False := by
  constructor
  · intro k
    refine ⟨⟨fun x hx m hm => ?_, fun n i l j hl hj => ?_, k.once, k.portions⟩, fun t ht _ => k.worked t ht⟩
    · obtain ⟨t, ht, hn, l, hl, hs, hq⟩ := k.entries x hx m hm
      exact ⟨l, by rw [← hn, h.lineAt ht, hl], hs, hq⟩
    · obtain ⟨t, ht, hn, hl⟩ := State.lineAt_eq_some hl
      obtain ⟨x, hx, hk, m, hm, hm1, hm2⟩ := k.lines t ht i l j hl hj
      exact ⟨x, hx, hk, m, hm, hm1.trans hn, hm2⟩
  · rintro ⟨k, hw⟩
    refine ⟨fun x hx m hm => ?_, fun t ht i l n hl hn => ?_, k.once, k.portions, fun t ht => hw t ht id⟩
    · obtain ⟨l, hl, hs, hq⟩ := k.entries x hx m hm
      obtain ⟨t, ht, hn, hl⟩ := State.lineAt_eq_some hl
      exact ⟨t, ht, hn, l, hl, hs, hq⟩
    · exact k.lines t.number i l n (by rw [h.lineAt ht, hl]) hn

theorem State.Linked.congr {s t : State} (h : s.Linked) (hx : t.slips = s.slips) (hl : ∀ n i, t.lineAt n i = s.lineAt n i) : t.Linked := by
  obtain ⟨h1, h2, h3, h4⟩ := h
  refine ⟨?_, ?_, ?_, ?_⟩ <;> simp only [hx, hl]
  · exact h1
  · exact h2
  · exact h3
  · exact h4

/-- What the agreement of lines and slips reads of a slip. -/
structure Slip.SameLinks (x y : Slip) : Prop where
  number : y.number = x.number
  follows : LineState.follows y.number y.state = LineState.follows x.number x.state
  taken : y.isTaken = x.isTaken
  members : y.members = x.members
  portions : y.portions = x.portions

/-- Slips and lines changed in nothing that the agreement reads. -/
theorem State.Linked.of_map {s t : State} (h : s.Linked) {f : Slip → Slip} (ht : t.slips = s.slips.map f) (hf : ∀ x ∈ s.slips, x.SameLinks (f x))
    {g : Nat → Nat → Line → Line} (hl : ∀ n i, t.lineAt n i = (s.lineAt n i).map (g n i))
    (hg : ∀ n i l, (g n i l).state = l.state ∧ (g n i l).qty = l.qty) : t.Linked where
  entries := fun y hy m hm => by
    rw [ht] at hy
    obtain ⟨x, hx, rfl⟩ := List.mem_map.mp hy
    rw [(hf x hx).members] at hm
    obtain ⟨l, h1, h2, h3⟩ := h.entries x hx m hm
    exact ⟨g _ _ l, by rw [hl, h1]; rfl, by rw [(hg _ _ l).1, h2, (hf x hx).follows], by rw [(hg _ _ l).2, h3]⟩
  lines := fun n i l k hlk hk => by
    rw [hl] at hlk
    obtain ⟨l0, hl0, rfl⟩ := Option.map_eq_some_iff.mp hlk
    rw [(hg _ _ l0).1] at hk
    obtain ⟨x, hx, hn, m, hm, hmn⟩ := h.lines n i l0 k hl0 hk
    exact ⟨f x, ht ▸ List.mem_map_of_mem hx, (hf x hx).number.trans hn, m, (hf x hx).members ▸ hm, hmn⟩
  once := fun y hy => by
    rw [ht] at hy
    obtain ⟨x, hx, rfl⟩ := List.mem_map.mp hy
    rw [(hf x hx).members]
    exact h.once x hx
  portions := fun y hy hty => by
    rw [ht] at hy
    obtain ⟨x, hx, rfl⟩ := List.mem_map.mp hy
    rw [(hf x hx).taken] at hty
    rw [(hf x hx).members, (hf x hx).portions]
    exact h.portions x hx hty

theorem LineState.slipNumber_follows (n : Nat) (k : SlipState) : (LineState.follows n k).slipNumber = some n := by cases k <;> rfl

/-- An entry stands in one slip alone. -/
theorem State.Linked.entry_unique {s : State} (h : s.Linked) {x y : Slip} (hx : x ∈ s.slips) (hy : y ∈ s.slips) {m j : Member} (hm : m ∈ x.members)
    (hj : j ∈ y.members) (ht : m.ticket = j.ticket) (hl : m.line = j.line) : y.number = x.number := by
  obtain ⟨l, hl1, hs1, _⟩ := h.entries x hx m hm
  obtain ⟨l', hl2, hs2, _⟩ := h.entries y hy j hj
  rw [ht, hl, hl2] at hl1
  cases hl1
  have := congrArg LineState.slipNumber (hs1.symm.trans hs2)
  rw [LineState.slipNumber_follows, LineState.slipNumber_follows] at this
  exact (Option.some.inj this).symm

/-! ## A slip put in a state, with its lines (R52, R53) -/

/-- Slip `x` put in state `k`, its lines following it and their tickets worked out: what a call, a return and a TAKE share. -/
def State.restate (x : Slip) (k : SlipState) (s : State) : State :=
  ((s.modSlip x.number fun y => { y with state := k }).setMembers x.members (.follows x.number k)).workOutAll x.members

theorem State.callSlip_eq (st : StationId) (x : Slip) (s : State) : s.callSlip st x =
    ((s.markLeft x.wave x.number).restate x (.called s.clock (s.station st).config.timeout)).post (s.isBound st)
      (.call x.number st x.item x.cls x.portions x.fire (x.members.map fun m => (m.ticket, m.qty))) := rfl

theorem State.returnSlip_eq (x : Slip) (r : WithdrawReason) (s : State) : s.returnSlip x r = (s.restate x .pending).postWithdrawn x r := rfl

theorem State.takeSlip_eq (x : Slip) (time : Nat) (s : State) : s.takeSlip x time = (s.restate x (.taken time)).clearMissed x.station := rfl

@[simp] theorem State.wave_restate (x : Slip) (k : SlipState) (s : State) (v : WaveId) : (s.restate x k).wave v = s.wave v := by
  simp [State.restate]

theorem State.slips_restate (x : Slip) (k : SlipState) (s : State) :
    (s.restate x k).slips = s.slips.map fun y => if y.number = x.number then { y with state := k } else y := by
  simp [State.restate]

theorem State.tickets_restate (x : Slip) (k : SlipState) (s : State) : (s.restate x k).tickets = s.tickets.map fun t =>
    if x.members.any (fun m => decide (m.ticket = t.number)) then (t.setLines x.members (.follows x.number k)).worked else t := by
  rw [State.restate, State.tickets_workOutAll, State.tickets_setMembers, List.map_map]
  refine List.map_congr_left fun t _ => ?_
  simp only [Function.comp]
  have hn : (t.setLines x.members (.follows x.number k)).number = t.number := rfl
  rw [hn]
  split
  · rfl
  · next hno =>
    exact Ticket.setLines_of_none (by simpa using hno) _

theorem State.lineAt_restate (x : Slip) (k : SlipState) (s : State) (n i : Nat) : (s.restate x k).lineAt n i =
    (s.lineAt n i).map fun l => if x.members.any (fun m => decide (m.ticket = n ∧ m.line = i)) then { l with state := .follows x.number k } else l := by
  rw [State.restate, State.lineAt_workOutAll, State.lineAt_setMembers]
  rfl

theorem Quiet.restate (x : Slip) (k : SlipState) (s : State) : Quiet s (s.restate x k) := by
  unfold State.restate
  refine .trans ?_ (.workOutAll _ _)
  refine .trans ?_ (.setMembers _ _ _)
  exact Quiet.modSlip fun _ => ⟨rfl, id⟩

theorem Kept.restate (x : Slip) (k : SlipState) (s : State) : Kept s (s.restate x k) := by
  unfold State.restate
  refine .trans ?_ (.workOutAll _ _)
  refine .trans ?_ (.setMembers _ _ _)
  exact .modSlip (fun _ h => h) fun _ _ _ _ h => h

theorem State.mem_restate {s : State} {x y : Slip} {k : SlipState} (hx : s.Only x) (hy : y ∈ (s.restate x k).slips) :
    y = { x with state := k } ∧ x ∈ s.slips ∨ y ∈ s.slips ∧ y.number ≠ x.number := by
  rw [State.slips_restate] at hy
  obtain ⟨z, hz, rfl⟩ := List.mem_map.mp hy
  split
  · next h => have := hx z hz h; subst this; exact .inl ⟨rfl, hz⟩
  · next h => exact .inr ⟨hz, h⟩

theorem State.restate_mem_self {s : State} {x : Slip} (k : SlipState) (hx : x ∈ s.slips) : { x with state := k } ∈ (s.restate x k).slips := by
  rw [State.slips_restate]
  exact List.mem_map.mpr ⟨x, hx, if_pos rfl⟩

theorem State.restate_mem_ne {s : State} {x y : Slip} (k : SlipState) (hy : y ∈ s.slips) (hn : y.number ≠ x.number) : y ∈ (s.restate x k).slips := by
  rw [State.slips_restate]
  exact List.mem_map.mpr ⟨y, hy, if_neg hn⟩

/-- A slip and its lines change state together. -/
theorem State.Linked.restate {s : State} (h : s.Linked) {x : Slip} (ho : s.Only x) (hx : x ∈ s.slips) (ht : x.isTaken = false) (k : SlipState) :
    (s.restate x k).Linked where
  entries := fun y hy m hm => by
    rcases State.mem_restate ho hy with ⟨rfl, _⟩ | ⟨hy, hn⟩
    · obtain ⟨l, hl, _, hq⟩ := h.entries x hx m hm
      refine ⟨{ l with state := .follows x.number k }, ?_, rfl, hq⟩
      have : x.members.any (fun j => decide (j.ticket = m.ticket ∧ j.line = m.line)) = true :=
        List.any_eq_true.mpr ⟨m, hm, by simp⟩
      rw [State.lineAt_restate, hl, Option.map_some, if_pos this]
    · obtain ⟨l, hl, hs, hq⟩ := h.entries y hy m hm
      refine ⟨l, ?_, hs, hq⟩
      have : ¬x.members.any (fun j => decide (j.ticket = m.ticket ∧ j.line = m.line)) = true := by
        rw [List.any_eq_true]
        rintro ⟨j, hj, hd⟩
        obtain ⟨h1, h2⟩ := of_decide_eq_true hd
        exact hn (h.entry_unique hx hy hj hm h1 h2)
      rw [State.lineAt_restate, hl, Option.map_some, if_neg this]
  lines := fun n i l j hl hj => by
    rw [State.lineAt_restate] at hl
    obtain ⟨l0, hl0, rfl⟩ := Option.map_eq_some_iff.mp hl
    by_cases hany : x.members.any (fun m => decide (m.ticket = n ∧ m.line = i)) = true
    · rw [if_pos hany, LineState.slipNumber_follows] at hj
      obtain ⟨m, hm, hd⟩ := List.any_eq_true.mp hany
      exact ⟨_, State.restate_mem_self k hx, Option.some.inj hj, m, hm, of_decide_eq_true hd⟩
    · rw [if_neg hany] at hj
      obtain ⟨y, hy, hn, m, hm, hmn⟩ := h.lines n i l0 j hl0 hj
      by_cases hxy : y.number = x.number
      · have := ho y hy hxy
        subst this
        exact absurd (List.any_eq_true.mpr ⟨m, hm, decide_eq_true hmn⟩) hany
      · exact ⟨y, State.restate_mem_ne k hy hxy, hn, m, hm, hmn⟩
  once := fun y hy => by
    rcases State.mem_restate ho hy with ⟨rfl, _⟩ | ⟨hy, _⟩
    · exact h.once x hx
    · exact h.once y hy
  portions := fun y hy hty => by
    rcases State.mem_restate ho hy with ⟨rfl, _⟩ | ⟨hy, _⟩
    · exact h.portions x hx ht
    · exact h.portions y hy hty

/-- A ticket whose lines are given a state that is not VOID keeps a line that is not. -/
theorem Ticket.allVoid_setLines {t : Ticket} (h : t.allVoid = false) (ms : List Member) {ls : LineState} (hv : ls ≠ .void) :
    (t.setLines ms ls).allVoid = false := by
  rw [Ticket.allVoid, List.all_eq_false] at h ⊢
  obtain ⟨l, hl, hnv⟩ := h
  obtain ⟨i, hi⟩ := List.mem_iff_getElem?.mp hl
  refine ⟨if ms.any (fun m => decide (m.ticket = t.number ∧ m.line = i)) then { l with state := ls } else l, ?_, ?_⟩
  · exact List.mem_iff_getElem?.mpr ⟨i, by simp [Ticket.setLines, hi]⟩
  · split
    · cases ls <;> simp_all [LineState.isVoid]
    · exact hnv

theorem State.WorkedBut.restate {s : State} {ex : Nat → Prop} (h : s.WorkedBut ex) (x : Slip) (k : SlipState) : (s.restate x k).WorkedBut ex := by
  intro t ht hex
  rw [State.tickets_restate] at ht
  obtain ⟨t0, ht0, rfl⟩ := List.mem_map.mp ht
  by_cases hm : x.members.any (fun m => decide (m.ticket = t0.number)) = true
  · rw [if_pos hm] at hex ⊢
    exact ⟨rfl, Ticket.allVoid_setLines (h t0 ht0 hex).2 _ (by cases k <;> exact nofun)⟩
  · rw [if_neg hm] at hex ⊢
    exact h t0 ht0 hex

theorem State.WorkedBut.congr {s t : State} {ex : Nat → Prop} (h : s.WorkedBut ex) (ht : t.tickets = s.tickets) : t.WorkedBut ex := by
  rwa [State.WorkedBut, ht]

end Sys2Proof.Machine
end

section
/-! SUPPORT. What considerations make of the part (R105 to R108, R26, R52): the slips, their lines, the marks, the notices. -/

namespace Sys2Proof.Machine

/-! ## Record by record -/

theorem forall₂_trans_of {α β γ : Type} {r : α → β → Prop} {r' : β → γ → Prop} {r'' : α → γ → Prop} (hr : ∀ a b c, r a b → r' b c → r'' a c) :
    ∀ {l : List α} {m : List β} {n : List γ}, List.Forall₂ r l m → List.Forall₂ r' m n → List.Forall₂ r'' l n
  | _, _, _, .nil, .nil => .nil
  | _, _, _, .cons h hs, .cons k ks => .cons (hr _ _ _ h k) (forall₂_trans_of hr hs ks)

theorem forall₂_map_mem {α : Type} {r : α → α → Prop} {f : α → α} {l : List α} (h : ∀ a ∈ l, r a (f a)) : List.Forall₂ r l (l.map f) :=
  List.forall₂_map_right_iff.mpr (List.forall₂_same.mpr h)

theorem forall₂_mapIdx {α : Type} {r : α → α → Prop} {f : Nat → α → α} {l : List α} (h : ∀ i a, l[i]? = some a → r a (f i a)) :
    List.Forall₂ r l (l.mapIdx f) := by
  refine List.forall₂_iff_get.mpr ⟨(List.length_mapIdx).symm, fun i h1 h2 => ?_⟩
  simp only [List.get_eq_getElem, List.getElem_mapIdx]
  exact h i _ (List.getElem?_eq_getElem h1)

theorem forall₂_mem_left {α β : Type} {r : α → β → Prop} {l : List α} {m : List β} (h : List.Forall₂ r l m) {a : α} (ha : a ∈ l) :
    ∃ b ∈ m, r a b := by
  induction h with
  | nil => cases ha
  | @cons x y l m hxy _ ih =>
    rcases List.mem_cons.mp ha with rfl | ha
    · exact ⟨y, List.mem_cons_self, hxy⟩
    · obtain ⟨b, hb, hr⟩ := ih ha
      exact ⟨b, List.mem_cons_of_mem _ hb, hr⟩

theorem forall₂_mem_right {α β : Type} {r : α → β → Prop} {l : List α} {m : List β} (h : List.Forall₂ r l m) {b : β} (hb : b ∈ m) :
    ∃ a ∈ l, r a b := by
  induction h with
  | nil => cases hb
  | @cons x y l m hxy _ ih =>
    rcases List.mem_cons.mp hb with rfl | hb
    · exact ⟨x, List.mem_cons_self, hxy⟩
    · obtain ⟨a, ha, hr⟩ := ih hb
      exact ⟨a, List.mem_cons_of_mem _ ha, hr⟩

theorem State.Considers.exists_fields {s : State} {x y : Slip} (h : s.Considers x y) : ∃ p k, y = { x with previewed := p, state := k } :=
  ⟨_, _, h.kept⟩

/-- A call takes a slip out of PENDING and none brings one back. -/
theorem State.Considers.pending {s : State} {x y : Slip} (h : s.Considers x y) (hy : y.isPending = true) : x.isPending = true := by
  rw [Slip.isPending_iff] at hy ⊢
  rcases h.called with e | ⟨e, _⟩
  · rw [← e, hy]
  · exact e

/-- What considerations may do depends on the clock, the stations and the hold flags alone. -/
theorem State.Considers.congr {s t : State} {x y : Slip} (h : t.Considers x y) (hc : t.clock = s.clock) (hs : t.station x.station = s.station x.station)
    (hh : (t.wave x.wave).hold = (s.wave x.wave).hold) : s.Considers x y := by
  have hr : t.isRunning x.station = s.isRunning x.station := by rw [State.isRunning, hs, State.isRunning]
  refine ⟨h.kept, ?_, ?_⟩
  · have := h.previewed
    rwa [hr, hs, hc] at this
  · have := h.called
    rwa [hs, hc, hh] at this

theorem Wave.Same.hold {v w : Wave} (h : v.Same w) : w.hold = v.hold := by
  obtain ⟨m, rfl⟩ := h
  rfl

theorem Wave.Same.state {v w : Wave} (h : v.Same w) : w.state = v.state := by
  obtain ⟨m, rfl⟩ := h
  rfl

theorem Wave.Same.sweep {v w : Wave} (h : v.Same w) : w.sweep = v.sweep := by
  obtain ⟨m, rfl⟩ := h
  rfl

theorem Quiet.isRunning {s t : State} (h : Quiet s t) (st : StationId) : t.isRunning st = s.isRunning st := by
  rw [State.isRunning, h.station, State.isRunning]

theorem Quiet.isBound {s t : State} (h : Quiet s t) (st : StationId) (q : PortId) : t.isBound st q = s.isBound st q := by
  rw [State.isBound, h.station, (h.ports q).same.role, State.isBound]

theorem Quiet.told {s t : State} (h : Quiet s t) {q : PortId} {n : Notice} (hq : (s.port q).Told n) : (t.port q).Told n := (h.ports q).told hq

/-! ## Marks on delay lists (R26, R27) -/

/-- A wave with more slips of its delay list marked. -/
def Wave.marked (m : Nat → Bool) (w : Wave) : Wave :=
  { w with delay := w.delay.map fun d => { d with slips := Sys2Proof.Machine.marked m d.slips } }

theorem Wave.marked_marked (w : Wave) (m m' : Nat → Bool) : (w.marked m).marked m' = w.marked fun n => m n || m' n := by
  rcases w with ⟨_, _, _, _ | d⟩
  · rfl
  · simp [Wave.marked, Machine.marked, Bool.or_assoc]

/-- Only the slips listed and not yet marked matter. -/
theorem Wave.marked_congr {w : Wave} {m m' : Nat → Bool} (h : ∀ d, w.delay = some d → ∀ e ∈ d.slips, e.2 = false → m e.1 = m' e.1) :
    w.marked m = w.marked m' := by
  rcases w with ⟨_, _, _, _ | d⟩
  · rfl
  · have hl : Machine.marked m d.slips = Machine.marked m' d.slips := List.map_congr_left fun e he => by
      cases h2 : e.2 with
      | true => rfl
      | false => rw [h d rfl e he h2]
    simp only [Wave.marked, Option.map_some, hl]

theorem Wave.marked_none (w : Wave) : (w.marked fun _ => false) = w := by
  rcases w with ⟨_, _, _, _ | d⟩
  · rfl
  · simp [Wave.marked, Machine.marked]

/-- A PENDING slip of number `n` and wave `v` stands in the store. -/
def State.Awaits (s : State) (v : WaveId) (n : Nat) : Prop := ∃ x ∈ s.slips, x.number = n ∧ x.wave = v ∧ x.isPending = true

/-- A PENDING slip of number `n` stands in the store. -/
def State.Pends (s : State) (n : Nat) : Prop := ∃ x ∈ s.slips, x.number = n ∧ x.isPending = true

theorem State.Awaits.pends {s : State} {v : WaveId} {n : Nat} (h : s.Awaits v n) : s.Pends n := by
  obtain ⟨x, hx, hn, _, hp⟩ := h
  exact ⟨x, hx, hn, hp⟩

/-- The numbers that an event from `s` to `t` takes out of PENDING on wave `v`. -/
def State.leaves (s t : State) (v : WaveId) (n : Nat) : Bool :=
  s.slips.any (fun x => decide (x.number = n ∧ x.wave = v ∧ x.isPending = true)) && !t.slips.any fun y => decide (y.number = n ∧ y.isPending = true)

theorem State.leaves_iff {s t : State} {v : WaveId} {n : Nat} : s.leaves t v n = true ↔ s.Awaits v n ∧ ¬t.Pends n := by
  simp only [State.leaves, Bool.and_eq_true, List.any_eq_true, decide_eq_true_eq, Bool.not_eq_true', Bool.eq_false_iff, ne_eq, State.Awaits,
    State.Pends]

theorem State.waveMarked_eq (s t : State) (v : WaveId) : s.waveMarked t v = (s.wave v).marked (s.leaves t v) := rfl

theorem State.wave_markLeft (w : WaveId) (n : Nat) (s : State) (v : WaveId) :
    (s.markLeft w n).wave v = (s.wave v).marked fun i => decide (v = w) && decide (i = n) := by
  unfold State.markLeft
  rw [State.wave_modWave]
  by_cases h : v = w
  · subst h
    simp only [if_true, decide_true, Bool.true_and, Wave.marked]
    congr 1
    refine Option.map_congr fun d _ => ?_
    congr 1
    refine List.map_congr_left fun e _ => ?_
    by_cases he : e.1 = n <;> simp [he]
  · simp only [if_neg h, decide_eq_false h, Bool.false_and, Wave.marked_none]

/-- The marks of two events are those of both, where no slip of the wave comes back to PENDING. -/
theorem State.waveMarked_trans {s t u : State} {v : WaveId} (ht : t.wave v = s.waveMarked t v) (h1 : ∀ n, t.Awaits v n → s.Awaits v n)
    (h2 : ∀ n, u.Pends n → t.Pends n) (h3 : ∀ n, s.Awaits v n → t.Pends n → t.Awaits v n) : t.waveMarked u v = s.waveMarked u v := by
  rw [State.waveMarked_eq, ht, State.waveMarked_eq, State.waveMarked_eq, Wave.marked_marked]
  congr 1
  funext n
  rw [Bool.eq_iff_iff, Bool.or_eq_true, State.leaves_iff, State.leaves_iff, State.leaves_iff]
  have h1 := h1 n
  have h2 := h2 n
  have h3 := h3 n
  tauto

/-! ## What the considerations at some stations make of a slip -/

/-- Slip `x` of `s` as the considerations of the stations `sel` left it in `t`: changed there alone, with PREVIEW or CALL at its bound port. -/
structure State.ConsidersTo (s : State) (sel : StationId → Prop) (t : State) (x y : Slip) : Prop where
  considers : s.Considers x y
  others : ¬sel x.station → y = x
  previewTold : x.previewed = false → y.previewed = true → ∀ q, s.isBound x.station q = true →
    (t.port q).Told ⟨s.clock, .preview x.number x.station x.item x.cls x.fire x.portions x.members.length⟩
  callTold : x.state = .pending → y.state ≠ .pending → ∀ q, s.isBound x.station q = true →
    (t.port q).Told ⟨s.clock, .call x.number x.station x.item x.cls x.portions x.fire (x.members.map fun m => (m.ticket, m.qty))⟩

theorem State.ConsidersTo.refl (s : State) (sel : StationId → Prop) (t : State) (x : Slip) : s.ConsidersTo sel t x x :=
  ⟨.refl s x, fun _ => rfl, fun h k => (Bool.false_ne_true (h.symm.trans k)).elim, fun h k => absurd h k⟩

theorem State.ConsidersTo.trans {s t u : State} {sel : StationId → Prop} (h1 : Quiet s t) (h2 : Quiet t u) {x y z : Slip}
    (h : s.ConsidersTo sel t x y) (k : t.ConsidersTo sel u y z) : s.ConsidersTo sel u x z := by
  have hk : s.Considers y z := k.considers.congr h1.clock (h1.station _) (h1.waves _).hold
  obtain ⟨a, b, rfl⟩ := h.considers.exists_fields
  obtain ⟨c, d, rfl⟩ := k.considers.exists_fields
  refine ⟨h.considers.trans hk, fun hn => (k.others hn).trans (h.others hn), fun hx hz q hq => ?_, fun hx hz q hq => ?_⟩
  · cases a with
    | true => exact h2.told (h.previewTold hx rfl q hq)
    | false =>
      have := k.previewTold rfl hz q ((h1.isBound _ _).trans hq)
      rwa [h1.clock] at this
  · by_cases hb : b = .pending
    · have := k.callTold hb hz q ((h1.isBound _ _).trans hq)
      rwa [h1.clock] at this
    · exact h2.told (h.callTold hx hb q hq)

/-! ## What they make of the part -/

/-- From `s` to `t`, considerations at stations of `sel`: the records in their places, slips of those stations previewed and called, the marks
of the slips called, lines and slips in agreement as they were. -/
structure State.Considered (sel : StationId → Prop) (s t : State) : Prop where
  quiet : Quiet s t
  kept : Kept s t
  slips : List.Forall₂ (s.ConsidersTo sel t) s.slips t.slips
  waves : ∀ v, t.wave v = s.waveMarked t v
  linked : s.Linked → t.Linked ∧ List.Forall₂ Ticket.Considers s.tickets t.tickets
  worked : ∀ ex, s.WorkedBut ex → t.WorkedBut ex

variable {s t u : State} {sel : StationId → Prop}

theorem State.Considered.refl (sel : StationId → Prop) (s : State) : State.Considered sel s s :=
  ⟨.refl s, .refl s, List.forall₂_same.mpr fun x _ => .refl s sel s x, fun v => (State.waveMarked_of_slips rfl v).symm,
    fun h => ⟨h, List.forall₂_same.mpr fun k _ => .refl k⟩, fun _ h => h⟩

theorem State.Considered.recordsSound (h : State.Considered sel s t) (hr : s.RecordsSound) : t.RecordsSound := hr.kept h.kept h.quiet.stands

/-- The marks of two considerations, one after the other, are those of both: a slip called by the first stays called. -/
theorem State.waveMarked_trans_considers (hr : t.RecordsSound) (h : List.Forall₂ s.Considers s.slips t.slips)
    (k : List.Forall₂ t.Considers t.slips u.slips) {v : WaveId} (ht : t.wave v = s.waveMarked t v) : t.waveMarked u v = s.waveMarked u v := by
  refine State.waveMarked_trans ht (fun n ha => ?_) (fun n ha => ?_) fun n ha hb => ?_
  · obtain ⟨y, hy, hn, hw, hp⟩ := ha
    obtain ⟨x, hx, hc⟩ := forall₂_mem_right h hy
    have hpx := hc.pending hp
    obtain ⟨_, _, rfl⟩ := hc.exists_fields
    exact ⟨x, hx, hn, hw, hpx⟩
  · obtain ⟨z, hz, hn, hp⟩ := ha
    obtain ⟨y, hy, hc⟩ := forall₂_mem_right k hz
    have hpy := hc.pending hp
    obtain ⟨_, _, rfl⟩ := hc.exists_fields
    exact ⟨y, hy, hn, hpy⟩
  · obtain ⟨x, hx, hn, hw, _⟩ := ha
    obtain ⟨y, hy, hyn, hp⟩ := hb
    obtain ⟨y', hy', hc⟩ := forall₂_mem_left h hx
    obtain ⟨_, _, rfl⟩ := hc.exists_fields
    have := hr.slip_unique hy' hy (hyn.trans hn.symm)
    subst this
    exact ⟨_, hy, hyn, hw, hp⟩

theorem State.Considered.trans (hr : s.RecordsSound) (h : State.Considered sel s t) (k : State.Considered sel t u) : State.Considered sel s u where
  quiet := h.quiet.trans k.quiet
  kept := h.kept.trans k.kept
  slips := forall₂_trans_of (fun _ _ _ hxy hyz => hxy.trans h.quiet k.quiet hyz) h.slips k.slips
  waves v := by
    rw [k.waves, State.waveMarked_trans_considers (h.recordsSound hr) (h.slips.imp fun _ _ => State.ConsidersTo.considers)
      (k.slips.imp fun _ _ => State.ConsidersTo.considers) (h.waves v)]
  linked hl := by
    obtain ⟨h1, h2⟩ := h.linked hl
    obtain ⟨k1, k2⟩ := k.linked h1
    exact ⟨k1, forall₂_trans_of (fun _ _ _ hij hjk => hij.trans hjk) h2 k2⟩
  worked ex hw := k.worked ex (h.worked ex hw)

theorem State.Considered.mono {sel' : StationId → Prop} (h : State.Considered sel s t) (hs : ∀ st, sel st → sel' st) : State.Considered sel' s t :=
  ⟨h.quiet, h.kept, h.slips.imp fun _ _ k => ⟨k.considers, fun hn => k.others fun hh => hn (hs _ hh), k.previewTold, k.callTold⟩, h.waves, h.linked,
    h.worked⟩

/-! ## A preview and a call -/

/-- A preview of a queued slip is a consideration (R105). -/
theorem State.preview_considered (hr : s.RecordsSound) {st : StationId} {x : Slip} (hx : x ∈ s.slips) (hst : x.station = st)
    (hp : x.isPending = true) (hv : s.previewable st x = true) : State.Considered (fun d => d = st) s (s.preview st x) := by
  subst hst
  have hv' := hv
  simp only [State.previewable, Bool.and_eq_true, Bool.not_eq_true', decide_eq_true_eq] at hv'
  obtain ⟨⟨⟨hnp, hrun⟩, hhor⟩, hfire⟩ := hv'
  have hslips : (s.preview x.station x).slips = s.slips.map fun y => if y.number = x.number then { y with previewed := true } else y := rfl
  refine ⟨.preview _ x s, .preview _ x s, ?_, fun v => ?_, fun hl => ⟨?_, List.forall₂_same.mpr fun k _ => .refl k⟩, fun ex hw => hw⟩
  · rw [hslips]
    refine forall₂_map_mem fun y hy => ?_
    split
    · next hn =>
      have := hr.only hx y hy hn
      subst this
      refine ⟨⟨rfl, .inr ⟨hnp, Slip.isPending_iff.mp hp, rfl, hrun, hhor, hfire⟩, .inl rfl⟩, fun h => absurd rfl h, fun _ _ q hq => ?_,
        fun h k => absurd h k⟩
      exact (Kept.modSlip (n := y.number) (f := fun y => { y with previewed := true }) (fun _ h => h) fun _ _ _ _ h => h).told_post hq _
    · exact .refl _ _ _ y
  · rw [State.waveMarked_eq]
    have hm : s.leaves (s.preview x.station x) v = fun _ => false := by
      funext n
      rw [Bool.eq_false_iff, ne_eq, State.leaves_iff]
      rintro ⟨⟨y, hy, hn, _, hpy⟩, hno⟩
      refine hno ⟨if y.number = x.number then { y with previewed := true } else y, ?_, ?_, ?_⟩
      · rw [hslips]; exact List.mem_map.mpr ⟨y, hy, rfl⟩
      · split <;> exact hn
      · split <;> exact hpy
    rw [hm, Wave.marked_none]
    rfl
  · refine hl.of_map hslips (fun y _ => ?_) (g := fun _ _ l => l) (fun n i => (Option.map_id' (x := s.lineAt n i)).symm) fun _ _ _ => ⟨rfl, rfl⟩
    split <;> exact ⟨rfl, rfl, rfl, rfl, rfl⟩

/-- The lines of a slip's members follow it, whatever ticket they stand in. -/
theorem State.RecordsSound.line_follows (hr : s.RecordsSound) (hl : s.Linked) {x : Slip} (hx : x ∈ s.slips) {k : Ticket} (hk : k ∈ s.tickets)
    {i : Nat} {l : Line} (hi : k.lines[i]? = some l) (hm : x.members.any (fun m => decide (m.ticket = k.number ∧ m.line = i)) = true) :
    l.state = .follows x.number x.state := by
  obtain ⟨m, hm, hd⟩ := List.any_eq_true.mp hm
  obtain ⟨h1, h2⟩ := of_decide_eq_true hd
  obtain ⟨l', hl', hs, _⟩ := hl.entries x hx m hm
  rw [h1, h2, hr.lineAt hk, hi] at hl'
  cases hl'
  exact hs

/-- A call of an eligible slip is a consideration (R106, R108). -/
theorem State.callSlip_considered (hr : s.RecordsSound) {st : StationId} (ho : (s.station st).state = .opened) {x : Slip} (hx : x ∈ s.queue st)
    (he : s.eligible st x = true) : State.Considered (fun d => d = st) s (s.callSlip st x) := by
  obtain ⟨hmem, hst, hp⟩ := State.mem_queue.mp hx
  subst hst
  have honly := hr.only hmem
  have hpend := Slip.isPending_iff.mp hp
  simp only [State.eligible, Bool.and_eq_true, decide_eq_true_eq, Bool.not_eq_true'] at he
  obtain ⟨⟨hfire, hhold⟩, _⟩ := he
  have hslips : (s.callSlip x.station x).slips = s.slips.map fun y =>
      if y.number = x.number then { y with state := .called s.clock (s.station x.station).config.timeout } else y := by
    rw [State.callSlip_eq, State.slips_post, State.slips_restate]
    rfl
  have htickets : (s.callSlip x.station x).tickets = s.tickets.map fun t =>
      if x.members.any (fun m => decide (m.ticket = t.number)) then (t.setLines x.members (.called x.number)).worked else t := by
    rw [State.callSlip_eq, State.tickets_post, State.tickets_restate]
    rfl
  have hwave (v : WaveId) : (s.callSlip x.station x).wave v = (s.wave v).marked fun i => decide (v = x.wave) && decide (i = x.number) := by
    rw [State.callSlip_eq, State.wave_post, State.wave_restate, State.wave_markLeft]
  refine ⟨.callSlip _ x s, .callSlip _ x s, ?_, fun v => ?_, fun hl => ⟨?_, ?_⟩, fun ex hw => ?_⟩
  · rw [hslips]
    refine forall₂_map_mem fun y hy => ?_
    split
    · next hn =>
      have := honly y hy hn
      subst this
      refine ⟨⟨rfl, .inl rfl, .inr ⟨hpend, rfl, ho, hfire, hhold⟩⟩, fun h => absurd rfl h, fun h k => ?_, fun _ _ q hq => ?_⟩
      · exact (Bool.false_ne_true (h.symm.trans k)).elim
      · have hk := (Kept.markLeft y.wave y.number s).trans (.restate y (.called s.clock (s.station y.station).config.timeout) _)
        exact hk.told_post hq _
    · exact .refl _ _ _ y
  · rw [hwave, State.waveMarked_eq]
    congr 1
    funext n
    rw [Bool.eq_iff_iff, State.leaves_iff, Bool.and_eq_true, decide_eq_true_eq, decide_eq_true_eq]
    constructor
    · rintro ⟨rfl, rfl⟩
      refine ⟨⟨x, hmem, rfl, rfl, hp⟩, ?_⟩
      rintro ⟨y, hy, hn, hpy⟩
      rw [hslips] at hy
      obtain ⟨z, hz, rfl⟩ := List.mem_map.mp hy
      split at hpy
      · exact absurd (Slip.isPending_iff.mp hpy) nofun
      · next hzn => rw [if_neg hzn] at hn; exact hzn hn
    · rintro ⟨⟨y, hy, hn, hw, hpy⟩, hno⟩
      have hyx : y.number = x.number := Decidable.byContradiction fun hyx =>
        hno ⟨y, by rw [hslips]; exact List.mem_map.mpr ⟨y, hy, if_neg hyx⟩, hn, hpy⟩
      have := honly y hy hyx
      subst this
      exact ⟨hw.symm, hn.symm⟩
  · have hm : (s.markLeft x.wave x.number).Linked := hl.congr rfl fun _ _ => rfl
    have := hm.restate (x := x) honly hmem (by simp [Slip.isTaken, hpend]) (.called s.clock (s.station x.station).config.timeout)
    rw [State.callSlip_eq]
    exact this.congr rfl fun _ _ => rfl
  · rw [htickets]
    refine forall₂_map_mem fun k hk => ?_
    split
    · refine ⟨rfl, forall₂_mapIdx fun i l hi => ?_⟩
      split
      · next hany =>
        refine .inr ⟨x.number, ?_, rfl⟩
        rw [hr.line_follows hl hmem hk hi hany, hpend]
        rfl
      · exact .refl l
    · exact .refl k
  · have hm : (s.markLeft x.wave x.number).WorkedBut ex := hw
    rw [State.callSlip_eq]
    exact (hm.restate x (.called s.clock (s.station x.station).config.timeout)).congr rfl

/-! ## The passes -/

theorem State.RecordsSound.queue_numbers (hr : s.RecordsSound) (st : StationId) : ((s.queue st).map Slip.number).Nodup := by
  refine ((s.queue_perm st).map Slip.number).nodup_iff.mpr ?_
  exact List.pairwise_map.mpr ((hr.slips_rise.filter _).imp Nat.ne_of_lt)

theorem State.previews_considered {st : StationId} (l : List Slip) (hn : (l.map Slip.number).Nodup) {s : State} (hr : s.RecordsSound)
    (hl : ∀ x ∈ l, x ∈ s.slips ∧ x.station = st ∧ x.isPending = true) :
    State.Considered (fun d => d = st) s (l.foldl (fun s x => if s.previewable st x then s.preview st x else s) s) := by
  induction l generalizing s with
  | nil => exact .refl _ s
  | cons x l ih =>
    obtain ⟨hx, hst, hp⟩ := hl x List.mem_cons_self
    obtain ⟨hnx, hnl⟩ := List.nodup_cons.mp hn
    rw [List.foldl_cons]
    split
    · next hv =>
      have h1 := State.preview_considered hr hx hst hp hv
      refine h1.trans hr (ih hnl (h1.recordsSound hr) fun y hy => ?_)
      obtain ⟨hys, hrest⟩ := hl y (List.mem_cons_of_mem _ hy)
      have hne : y.number ≠ x.number := fun he => hnx (he ▸ List.mem_map_of_mem hy)
      exact ⟨List.mem_map.mpr ⟨y, hys, if_neg hne⟩, hrest⟩
    · exact ih hnl hr fun y hy => hl y (List.mem_cons_of_mem _ hy)

theorem State.previewPass_considered (hr : s.RecordsSound) (st : StationId) : State.Considered (fun d => d = st) s (s.previewPass st) :=
  State.previews_considered _ (hr.queue_numbers st) hr fun _ hx => State.mem_queue.mp hx

theorem State.callPass_considered {st : StationId} (n : Nat) {s : State} (hr : s.RecordsSound) (ho : (s.station st).state = .opened) :
    State.Considered (fun d => d = st) s (s.callPass st n) := by
  induction n generalizing s with
  | zero => exact .refl _ s
  | succ n ih =>
    unfold State.callPass
    split
    · next x hx =>
      have h1 := State.callSlip_considered hr ho (List.mem_of_find?_eq_some hx) (List.find?_some hx)
      exact h1.trans hr (ih (h1.recordsSound hr) (by rw [h1.quiet.station, ho]))
    · exact .refl _ s

theorem State.consider_considered (hr : s.RecordsSound) (st : StationId) : State.Considered (fun d => d = st) s (s.consider st) := by
  have h1 := State.previewPass_considered hr st
  unfold State.consider
  split
  · next ho => exact h1.trans hr (State.callPass_considered _ (h1.recordsSound hr) (by rw [h1.quiet.station, ho]))
  · exact h1
  · exact .refl _ s
  · exact .refl _ s

theorem State.considers_considered (sel : StationId → Bool) (l : List StationId) {s : State} (hr : s.RecordsSound) :
    State.Considered (fun st => sel st = true) s (l.foldl (fun s st => if sel st then s.consider st else s) s) := by
  induction l generalizing s with
  | nil => exact .refl _ s
  | cons st l ih =>
    rw [List.foldl_cons]
    split
    · next hs =>
      have h1 := (State.consider_considered hr st).mono (sel' := fun d => sel d = true) fun d hd => hd ▸ hs
      exact h1.trans hr (ih (h1.recordsSound hr))
    · exact ih hr

theorem State.considerAll_considered (hr : s.RecordsSound) (sel : StationId → Bool) :
    State.Considered (fun st => sel st = true) s (s.considerAll sel) := State.considers_considered sel allStations hr

end Sys2Proof.Machine
end

section
/-! SUPPORT. Considerations carried to their end (R105 to R107), and the slots they fill (R106). -/

namespace Sys2Proof.Machine

variable {s t u : State}

/-! ## Slips previewed and called alone, whatever their numbers -/

/-- From `s` to `t` slips have only been previewed and called: none came back to PENDING. -/
structure State.Calling (s t : State) : Prop where
  quiet : Quiet s t
  slips : List.Forall₂ (fun x y : Slip => x.Same y ∧ (y.isPending = true → x.isPending = true)) s.slips t.slips

theorem State.Calling.refl (s : State) : s.Calling s := ⟨.refl s, List.forall₂_same.mpr fun x _ => ⟨.refl x, id⟩⟩

theorem State.Calling.trans (h : s.Calling t) (k : t.Calling u) : s.Calling u :=
  ⟨h.quiet.trans k.quiet, forall₂_trans_of (fun _ _ _ h k => ⟨h.1.trans k.1, fun hp => h.2 (k.2 hp)⟩) h.slips k.slips⟩

theorem State.Calling.foldl {α : Type} {f : State → α → State} (hf : ∀ (s : State) a, s.Calling (f s a)) (l : List α) (s : State) : s.Calling (l.foldl f s) := by
  induction l generalizing s with
  | nil => exact .refl s
  | cons a l ih => exact (hf s a).trans (ih _)

theorem State.Calling.preview (st : StationId) (x : Slip) (s : State) : s.Calling (s.preview st x) := by
  refine ⟨.preview st x s, forall₂_map_self s.slips fun y => ?_⟩
  split
  · exact ⟨⟨rfl, fun _ => rfl⟩, id⟩
  · exact ⟨.refl y, id⟩

theorem State.Calling.previewPass (st : StationId) (s : State) : s.Calling (s.previewPass st) := by
  unfold State.previewPass
  refine State.Calling.foldl (fun s x => ?_) _ s
  split
  · exact .preview st x s
  · exact .refl s

theorem State.callSlip_slips (st : StationId) (x : Slip) (s : State) : (s.callSlip st x).slips = s.slips.map fun y =>
    if y.number = x.number then { y with state := .called s.clock (s.station st).config.timeout } else y := by
  rw [State.callSlip_eq, State.slips_post, State.slips_restate]
  rfl

theorem State.Calling.callSlip (st : StationId) (x : Slip) (s : State) : s.Calling (s.callSlip st x) := by
  refine ⟨.callSlip st x s, ?_⟩
  rw [State.callSlip_slips]
  refine forall₂_map_self s.slips fun y => ?_
  split
  · exact ⟨⟨rfl, id⟩, fun hp => absurd (Slip.isPending_iff.mp hp) nofun⟩
  · exact ⟨.refl y, id⟩

theorem State.Calling.callPass (st : StationId) (n : Nat) (s : State) : s.Calling (s.callPass st n) := by
  induction n generalizing s with
  | zero => exact .refl s
  | succ n ih =>
    unfold State.callPass
    split
    · exact (State.Calling.callSlip st _ s).trans (ih _)
    · exact .refl s

theorem State.Calling.consider (st : StationId) (s : State) : s.Calling (s.consider st) := by
  unfold State.consider
  split
  · exact (State.Calling.previewPass st s).trans (.callPass st _ _)
  · exact .previewPass st s
  · exact .refl s
  · exact .refl s

theorem State.Calling.considers (sel : StationId → Bool) (l : List StationId) (s : State) :
    s.Calling (l.foldl (fun s st => if sel st then s.consider st else s) s) := by
  refine State.Calling.foldl (fun s st => ?_) l s
  split
  · exact .consider st s
  · exact .refl s

theorem State.Calling.considerAll (sel : StationId → Bool) (s : State) : s.Calling (s.considerAll sel) := .considers sel allStations s

/-- A queued slip was queued before. -/
theorem State.Calling.mem_queue (h : s.Calling t) {st : StationId} {y : Slip} (hy : y ∈ t.queue st) : ∃ x ∈ s.queue st, x.Same y := by
  obtain ⟨hmem, hst, hp⟩ := State.mem_queue.mp hy
  obtain ⟨x, hx, hs, hpend⟩ := forall₂_mem_right h.slips hmem
  refine ⟨x, State.mem_queue.mpr ⟨hx, ?_, hpend hp⟩, hs⟩
  rw [hs.fields] at hst
  exact hst

theorem forall₂_countP_le {α β : Type} {r : α → β → Prop} {p : α → Bool} {p' : β → Bool} {l : List α} {m : List β} (h : List.Forall₂ r l m)
    (hp : ∀ a b, r a b → p a = true → p' b = true) : l.countP p ≤ m.countP p' := by
  induction h with
  | nil => simp
  | @cons a b l m hab _ ih =>
    rw [List.countP_cons, List.countP_cons]
    have := hp a b hab
    by_cases ha : p a = true
    · simp only [ha, this ha, if_true]; omega
    · simp only [Bool.not_eq_true] at ha
      rw [ha]; simp; omega

theorem State.busyCount_eq (s : State) (st : StationId) : s.busyCount st = s.slips.countP fun x => x.station == st && !x.isPending := by
  rw [State.busyCount, State.busySet, List.countP_eq_length_filter]

theorem State.queue_length (s : State) (st : StationId) : (s.queue st).length = s.slips.countP fun x => x.station == st && x.isPending := by
  rw [State.queue, List.length_insertionSort, List.countP_eq_length_filter]

theorem State.Calling.busyCount_le (h : s.Calling t) (st : StationId) : s.busyCount st ≤ t.busyCount st := by
  rw [State.busyCount_eq, State.busyCount_eq]
  refine forall₂_countP_le h.slips fun x y hxy hb => ?_
  obtain ⟨hs, hp⟩ := hxy
  rw [hs.fields] at hp ⊢
  simp only [Bool.and_eq_true, beq_iff_eq, Bool.not_eq_true'] at hb ⊢
  refine ⟨hb.1, Bool.eq_false_iff.mpr fun hc => ?_⟩
  have := hp hc
  rw [hb.2] at this
  cases this

theorem State.Calling.eligible (h : s.Calling t) {st : StationId} {x y : Slip} (hxy : x.Same y) (he : t.eligible st y = true) :
    s.eligible st x = true := by
  have hb := h.busyCount_le st
  rw [hxy.fields] at he
  simp only [State.eligible, Bool.and_eq_true, decide_eq_true_eq, Bool.not_eq_true', h.quiet.clock, (h.quiet.waves _).hold] at he ⊢
  refine ⟨he.1, ?_⟩
  have hf := he.2
  unfold State.fits at hf ⊢
  rw [h.quiet.station] at hf
  cases hc : x.cls with
  | priority => simp only [hc, decide_eq_true_eq] at hf ⊢; omega
  | normal => simp only [hc, decide_eq_true_eq] at hf ⊢; omega

theorem Quiet.previewable (h : Quiet s t) (st : StationId) (x : Slip) : t.previewable st x = s.previewable st x := by
  simp only [State.previewable, h.isRunning, h.station, h.clock]

theorem Slip.Same.previewable {st : StationId} {x y : Slip} (h : x.Same y) (hv : s.previewable st y = true) : s.previewable st x = true := by
  have hp := h.previewed
  rw [h.fields] at hv
  simp only [State.previewable, Bool.and_eq_true, Bool.not_eq_true', decide_eq_true_eq] at hv ⊢
  refine ⟨⟨⟨Bool.eq_false_iff.mpr fun hc => ?_, hv.1.1.2⟩, hv.1.2⟩, hv.2⟩
  have := hp hc
  rw [hv.1.1.1] at this
  cases this

/-- A station settled stays so through the considerations that follow (R106, R107). -/
theorem State.Settled.calling {st : StationId} (h : s.Settled st) (k : s.Calling t) : t.Settled st := by
  refine ⟨fun ho y hy => ?_, fun y hy => ?_⟩
  · obtain ⟨x, hx, hxy⟩ := k.mem_queue hy
    rw [k.quiet.station] at ho
    have := h.called ho x hx
    exact Bool.eq_false_iff.mpr fun he => by rw [k.eligible hxy he] at this; cases this
  · obtain ⟨x, hx, hxy⟩ := k.mem_queue hy
    have := h.previewed x hx
    rw [k.quiet.previewable]
    exact Bool.eq_false_iff.mpr fun he => by rw [hxy.previewable he] at this; cases this

/-! ## The passes carried to their end -/

theorem countP_map_lt {α : Type} {p : α → Bool} {f : α → α} {l : List α} (h : ∀ a, p (f a) = true → p a = true) {a : α} (ha : a ∈ l)
    (hp : p a = true) (hf : p (f a) = false) : (l.map f).countP p < l.countP p := by
  induction l with
  | nil => cases ha
  | cons b l ih =>
    have hle : (l.map f).countP p ≤ l.countP p := by
      rw [List.countP_map]
      exact List.countP_mono_left fun x _ hx => h x hx
    rw [List.map_cons, List.countP_cons, List.countP_cons]
    rcases List.mem_cons.mp ha with rfl | ha
    · simp only [hp, hf, if_true, Bool.false_eq_true, if_false]; omega
    · have := ih ha
      by_cases hb : p (f b) = true
      · simp only [hb, h b hb, if_true]; omega
      · simp only [hb, Bool.false_eq_true, if_false]; split <;> omega

/-- A call takes a slip out of the queue. -/
theorem State.callSlip_queue_lt {st : StationId} {x : Slip} (hx : x ∈ s.queue st) : ((s.callSlip st x).queue st).length < (s.queue st).length := by
  obtain ⟨hmem, hst, hp⟩ := State.mem_queue.mp hx
  rw [State.queue_length, State.queue_length, State.callSlip_slips]
  refine countP_map_lt (fun y hy => ?_) hmem (by simp [hst, hp]) ?_
  · split at hy
    · simp [Slip.isPending] at hy
    · exact hy
  · simp [Slip.isPending]

/-- With as many rounds as the queue has slips, the calling pass ends with none eligible (R107). -/
theorem State.callPass_end {st : StationId} (n : Nat) {s : State} (h : (s.queue st).length ≤ n) :
    ∀ x ∈ (s.callPass st n).queue st, (s.callPass st n).eligible st x = false := by
  induction n generalizing s with
  | zero =>
    have : s.queue st = [] := List.length_eq_zero_iff.mp (Nat.le_zero.mp h)
    show ∀ x ∈ s.queue st, s.eligible st x = false
    rw [this]
    exact nofun
  | succ n ih =>
    unfold State.callPass
    split
    · next x hx =>
      have := State.callSlip_queue_lt (List.mem_of_find?_eq_some hx)
      exact ih (by omega)
    · next hnone => exact fun x hx => Bool.eq_false_iff.mpr (List.find?_eq_none.mp hnone x hx)

/-- A slip that the preview pass finds previewable is previewed. -/
theorem State.previews_end {st : StationId} (l : List Slip) {s a : State} (hq : Quiet s a) {x : Slip} (hx : x ∈ l) (hv : s.previewable st x = true) :
    ∀ y ∈ (l.foldl (fun s x => if s.previewable st x then s.preview st x else s) a).slips, y.number = x.number → y.previewed = true := by
  induction l generalizing a with
  | nil => cases hx
  | cons z l ih =>
    have hz : Quiet a (if a.previewable st z then a.preview st z else a) := by
      split
      · exact .preview st z a
      · exact .refl a
    rw [List.foldl_cons]
    rcases List.mem_cons.mp hx with rfl | hx
    · intro y hy hn
      have hrest : Quiet (a.preview st x) (l.foldl (fun s x => if s.previewable st x then s.preview st x else s) (a.preview st x)) :=
        Quiet.foldl (fun s x => by
          split
          · exact .preview st x s
          · exact .refl s) l _
      rw [if_pos ((hq.previewable st x).trans hv)] at hy
      obtain ⟨w, hw, hwy⟩ := forall₂_mem_right hrest.slips hy
      refine hwy.previewed ?_
      obtain ⟨v, hv', rfl⟩ := List.mem_map.mp hw
      rw [hwy.fields] at hn
      by_cases hvn : v.number = x.number
      · rw [if_pos hvn]
      · rw [if_neg hvn] at hn
        exact absurd hn hvn
    · exact ih (hq.trans hz) hx

theorem State.previewPass_end (s : State) (st : StationId) : ∀ y ∈ (s.previewPass st).queue st, (s.previewPass st).previewable st y = false := by
  intro y hy
  have hc := State.Calling.previewPass st s
  obtain ⟨x, hx, hxy⟩ := hc.mem_queue hy
  refine Bool.eq_false_iff.mpr fun hv => ?_
  rw [hc.quiet.previewable] at hv
  have hp := State.previews_end (s.queue st) (.refl s) hx (hxy.previewable hv) y (State.mem_queue.mp hy).1 (by rw [hxy.fields])
  simp [State.previewable, hp] at hv

/-- A station that has considered has done so to the end (R107). -/
theorem State.consider_settled (s : State) (st : StationId) : (s.consider st).Settled st := by
  cases ho : (s.station st).state with
  | opened =>
    have hc := State.Calling.previewPass st s
    have hk := State.Calling.callPass st (s.queue st).length (s.previewPass st)
    have heq : s.consider st = (s.previewPass st).callPass st (s.queue st).length := by rw [State.consider, ho]
    have hlen : ((s.previewPass st).queue st).length ≤ (s.queue st).length := by
      rw [State.queue_length, State.queue_length]
      refine forall₂_countP_le (r := fun y x : Slip => x.Same y ∧ (y.isPending = true → x.isPending = true)) hc.slips.flip fun y x hxy hy => ?_
      obtain ⟨hs, hp⟩ := hxy
      rw [hs.fields] at hp hy
      simp only [Bool.and_eq_true, beq_iff_eq] at hy ⊢
      exact ⟨hy.1, hp hy.2⟩
    rw [heq]
    refine ⟨fun _ => State.callPass_end _ hlen, fun y hy => ?_⟩
    obtain ⟨x, hx, hxy⟩ := hk.mem_queue hy
    rw [hk.quiet.previewable]
    exact Bool.eq_false_iff.mpr fun hv => by
      have := s.previewPass_end st x hx
      rw [hxy.previewable hv] at this
      cases this
  | paused =>
    have heq : s.consider st = s.previewPass st := by rw [State.consider, ho]
    rw [heq]
    refine ⟨fun h => ?_, s.previewPass_end st⟩
    rw [(State.Calling.previewPass st s).quiet.station, ho] at h
    cases h
  | down | unused =>
    have heq : s.consider st = s := by rw [State.consider, ho]
    rw [heq]
    exact .of_not_running (by rw [State.isRunning, ho]; rfl)

/-- Every station told to consider ends settled (R107). -/
theorem State.considerAll_settled (s : State) {sel : StationId → Bool} {st : StationId} (hs : sel st = true) : (s.considerAll sel).Settled st := by
  have (l : List StationId) (a : State) (hl : st ∈ l) : (l.foldl (fun s st => if sel st then s.consider st else s) a).Settled st := by
    induction l generalizing a with
    | nil => cases hl
    | cons d l ih =>
      rw [List.foldl_cons]
      rcases List.mem_cons.mp hl with rfl | hl
      · rw [if_pos hs]
        exact (a.consider_settled st).calling (.considers sel l _)
      · exact ih _ hl
  exact this allStations s (List.mem_finRange st)

/-! ## The slots (R106) -/

/-- One slip of a store changed changes a count by that slip alone. -/
theorem countP_modSlip {p : Slip → Bool} {f : Slip → Slip} {l : List Slip} (h : l.Pairwise fun x y => x.number < y.number) {x : Slip} (hx : x ∈ l) :
    (l.map fun y => if y.number = x.number then f y else y).countP p + (if p x then 1 else 0) = l.countP p + if p (f x) then 1 else 0 := by
  induction l with
  | nil => cases hx
  | cons y l ih =>
    obtain ⟨hy, hl⟩ := List.pairwise_cons.mp h
    rw [List.map_cons, List.countP_cons, List.countP_cons]
    rcases List.mem_cons.mp hx with rfl | hx
    · have hrest : (l.map fun y => if y.number = x.number then f y else y) = l :=
        (List.map_congr_left fun y hyl => if_neg (Nat.ne_of_gt (hy y hyl))).trans (List.map_id l)
      rw [hrest, if_pos rfl]
      omega
    · have := ih hl hx
      rw [if_neg (Nat.ne_of_lt (hy x hx))]
      omega

/-- A call fills one slot of its station (R104, R106). -/
theorem State.callSlip_busy (hr : s.RecordsSound) {st : StationId} {x : Slip} (hx : x ∈ s.queue st) :
    (s.callSlip st x).busyCount st = s.busyCount st + 1 := by
  obtain ⟨hmem, hst, hp⟩ := State.mem_queue.mp hx
  rw [State.busyCount_eq, State.busyCount_eq, State.callSlip_slips]
  have := countP_modSlip (p := fun y => y.station == st && !y.isPending)
    (f := fun y => { y with state := .called s.clock (s.station st).config.timeout }) hr.slips_rise hmem
  rw [if_neg (by simp [hp]), if_pos (by simp [hst, Slip.isPending])] at this
  exact this

/-- The busy count that leaves a slip its slot: below the slots for a PRIORITY slip, below the reserve for a NORMAL one (R106). -/
def StationConfig.limit (c : StationConfig) (k : SlipClass) : Nat :=
  match k with
  | .priority => c.slots
  | .normal => c.slots - c.reserve

theorem State.fits_iff {st : StationId} {x : Slip} : s.fits st x = true ↔ s.busyCount st < (s.station st).config.limit x.cls := by
  unfold State.fits StationConfig.limit
  cases x.cls <;> simp

theorem StationConfig.limit_le (c : StationConfig) (k : SlipClass) : c.limit k ≤ c.slots := by
  cases k
  · exact Nat.sub_le _ _
  · exact Nat.le_refl _

/-- Calls never pass the slots (R106). -/
theorem State.callPass_busy {st : StationId} (n : Nat) {s : State} (hr : s.RecordsSound) (ho : (s.station st).state = .opened)
    (hb : s.busyCount st ≤ (s.station st).config.slots) : (s.callPass st n).busyCount st ≤ (s.station st).config.slots := by
  induction n generalizing s with
  | zero => exact hb
  | succ n ih =>
    unfold State.callPass
    split
    · next x hx =>
      have hq := List.mem_of_find?_eq_some hx
      have he := List.find?_some hx
      have h1 := State.callSlip_considered hr ho hq he
      have hst := h1.quiet.station st
      simp only [State.eligible, Bool.and_eq_true, State.fits_iff] at he
      have hlim := (s.station st).config.limit_le x.cls
      have := ih (h1.recordsSound hr) (by rw [hst, ho]) (by rw [hst, State.callSlip_busy hr hq]; omega)
      rwa [hst] at this
    · exact hb

/-- No PRIORITY slip of a station's queue is due on a wave not held. -/
def State.NoRush (s : State) (st : StationId) : Prop :=
  ∀ x ∈ s.queue st, x.cls = .priority → ¬(x.fire ≤ s.clock ∧ (s.wave x.wave).hold = false)

theorem State.NoRush.calling {st : StationId} (h : s.NoRush st) (k : s.Calling t) : t.NoRush st := by
  intro y hy hc
  obtain ⟨x, hx, hxy⟩ := k.mem_queue hy
  rw [hxy.fields] at hc ⊢
  rw [k.quiet.clock, (k.quiet.waves _).hold]
  exact h x hx hc

/-- With no PRIORITY slip to call, calls keep clear of the reserve (R106). -/
theorem State.callPass_reserve {st : StationId} (n : Nat) {s : State} (hr : s.RecordsSound) (ho : (s.station st).state = .opened) (hn : s.NoRush st)
    (hb : s.busyCount st ≤ (s.station st).config.limit .normal) : (s.callPass st n).busyCount st ≤ (s.station st).config.limit .normal := by
  induction n generalizing s with
  | zero => exact hb
  | succ n ih =>
    unfold State.callPass
    split
    · next x hx =>
      have hq := List.mem_of_find?_eq_some hx
      have he := List.find?_some hx
      have h1 := State.callSlip_considered hr ho hq he
      have hst := h1.quiet.station st
      simp only [State.eligible, Bool.and_eq_true, State.fits_iff, decide_eq_true_eq, Bool.not_eq_true'] at he
      have hcls : x.cls = .normal := by
        cases hc : x.cls with
        | normal => rfl
        | priority => exact absurd he.1 (hn x hq hc)
      have hfit := he.2
      rw [hcls] at hfit
      have := ih (h1.recordsSound hr) (by rw [hst, ho]) (hn.calling (.callSlip st x s)) (by rw [hst, State.callSlip_busy hr hq]; omega)
      rwa [hst] at this
    · exact hb

/-- A NORMAL slip is called only when no PRIORITY slip is left to call: the queue has those before it (R104, R107). -/
theorem State.noRush_of_find? {st : StationId} {x : Slip} (h : (s.queue st).find? (s.eligible st) = some x) (hc : x.cls = .normal) : s.NoRush st := by
  intro y hy hyc hdue
  obtain ⟨he, before, after, hsplit, hbefore⟩ := List.find?_eq_some_iff_append.mp h
  rw [hsplit] at hy
  have hfits : s.fits st y = true := by
    simp only [State.eligible, Bool.and_eq_true, State.fits_iff, hc] at he
    rw [State.fits_iff, hyc]
    exact Nat.lt_of_lt_of_le he.2 ((s.station st).config.limit_le _)
  have hel : s.eligible st y = true := by
    simp only [State.eligible, Bool.and_eq_true, decide_eq_true_eq, Bool.not_eq_true']
    exact ⟨hdue, hfits⟩
  rcases List.mem_append.mp hy with hy | hy
  · have := hbefore y hy
    rw [hel] at this
    cases this
  · rcases List.mem_cons.mp hy with rfl | hy
    · rw [hc] at hyc; cases hyc
    · have hs := s.queue_sorted st
      rw [hsplit] at hs
      have hle := (List.pairwise_cons.mp (List.pairwise_append.mp hs).2.1).1 y hy
      simp [Slip.queueLe, hc, hyc, SlipClass.rank] at hle

/-- Where a calling pass calls a slip it ends within the slots, and within those its class may fill (R106). -/
theorem State.callPass_called {st : StationId} (n : Nat) {s : State} (hr : s.RecordsSound) (ho : (s.station st).state = .opened) {x y : Slip}
    (hx : x ∈ s.slips) (hp : x.state = .pending) (hy : y ∈ (s.callPass st n).slips) (hn : y.number = x.number) (hc : y.state ≠ .pending) :
    (s.callPass st n).busyCount st ≤ (s.station st).config.limit x.cls := by
  induction n generalizing s x with
  | zero =>
    have := hr.slip_unique hx hy hn
    subst this
    exact absurd hp hc
  | succ n ih =>
    cases hz : (s.queue st).find? (s.eligible st) with
    | some z =>
      simp only [State.callPass, hz] at hy ⊢
      have hq := List.mem_of_find?_eq_some hz
      have he := List.find?_some hz
      have h1 := State.callSlip_considered hr ho hq he
      have hr1 := h1.recordsSound hr
      have hst := h1.quiet.station st
      have ho1 : ((s.callSlip st z).station st).state = .opened := by rw [hst, ho]
      have hfit := he
      simp only [State.eligible, Bool.and_eq_true, State.fits_iff] at hfit
      have hbusy := State.callSlip_busy hr hq
      by_cases hxz : x.number = z.number
      · have hxz' := hr.slip_unique (State.mem_queue.mp hq).1 hx hxz
        subst hxz'
        cases hcls : x.cls with
        | priority =>
          have hlim := (s.station st).config.limit_le x.cls
          have := State.callPass_busy n hr1 ho1 (by rw [hst, hbusy]; omega)
          rwa [hst] at this
        | normal =>
          rw [hcls] at hfit
          have := State.callPass_reserve n hr1 ho1 ((State.noRush_of_find? hz hcls).calling (.callSlip st x s)) (by rw [hst, hbusy]; omega)
          rwa [hst] at this
      · have hx1 : x ∈ (s.callSlip st z).slips := by
          rw [State.callSlip_slips]
          exact List.mem_map.mpr ⟨x, hx, if_neg hxz⟩
        have := ih hr1 ho1 hx1 hp hy hn
        rwa [hst] at this
    | none =>
      simp only [State.callPass, hz] at hy
      have := hr.slip_unique hx hy hn
      subst this
      exact absurd hp hc

/-- What a consideration made of the slip of a number. -/
theorem State.Considered.slip {sel : StationId → Prop} (h : State.Considered sel s t) (hr : s.RecordsSound) {x y : Slip} (hx : x ∈ s.slips)
    (hy : y ∈ t.slips) (hn : y.number = x.number) : s.ConsidersTo sel t x y := by
  obtain ⟨y', hy', hc⟩ := forall₂_mem_left h.slips hx
  have hn' : y'.number = x.number := by rw [hc.considers.kept]
  have := (h.recordsSound hr).slip_unique hy' hy (hn.trans hn'.symm)
  rwa [this]

theorem State.Considered.others_mem {sel : StationId → Prop} (h : State.Considered sel s t) {x : Slip} (hx : x ∈ s.slips) (hn : ¬sel x.station) :
    x ∈ t.slips := by
  obtain ⟨y, hy, hc⟩ := forall₂_mem_left h.slips hx
  rwa [hc.others hn] at hy

/-- A preview changes no slip's state. -/
theorem State.preview_busy (st d : StationId) (x : Slip) (s : State) : (s.preview st x).busyCount d = s.busyCount d := by
  rw [State.busyCount_eq, State.busyCount_eq]
  show (s.slips.map _).countP _ = _
  rw [List.countP_map]
  exact List.countP_congr fun y _ => by simp only [Function.comp]; split <;> exact Iff.rfl

theorem State.previewPass_busy (st d : StationId) (s : State) : (s.previewPass st).busyCount d = s.busyCount d := by
  have (l : List Slip) (a : State) : (l.foldl (fun s x => if s.previewable st x then s.preview st x else s) a).busyCount d = a.busyCount d := by
    induction l generalizing a with
    | nil => rfl
    | cons x l ih =>
      rw [List.foldl_cons, ih]
      split
      · exact a.preview_busy st d x
      · rfl
  exact this _ s

theorem State.previewPass_slips (st : StationId) (s : State) :
    List.Forall₂ (fun x y : Slip => ∃ p, y = { x with previewed := p }) s.slips (s.previewPass st).slips := by
  have (l : List Slip) (a : State) : List.Forall₂ (fun x y : Slip => ∃ p, y = { x with previewed := p }) a.slips
      (l.foldl (fun s x => if s.previewable st x then s.preview st x else s) a).slips := by
    induction l generalizing a with
    | nil => exact List.forall₂_same.mpr fun x _ => ⟨_, rfl⟩
    | cons x l ih =>
      rw [List.foldl_cons]
      refine forall₂_trans_of (r := fun x y : Slip => ∃ p, y = { x with previewed := p }) (fun _ _ _ => ?_) ?_ (ih _)
      · rintro ⟨_, rfl⟩ ⟨_, rfl⟩
        exact ⟨_, rfl⟩
      · split
        · refine forall₂_map_self a.slips fun y => ?_
          split <;> exact ⟨_, rfl⟩
        · exact List.forall₂_same.mpr fun x _ => ⟨_, rfl⟩
  exact this _ s

theorem State.consider_of_opened {st : StationId} (h : (s.station st).state = .opened) :
    s.consider st = (s.previewPass st).callPass st (s.queue st).length := by rw [State.consider, h]

theorem State.consider_of_paused {st : StationId} (h : (s.station st).state = .paused) : s.consider st = s.previewPass st := by
  rw [State.consider, h]

theorem State.consider_of_stopped {st : StationId} (h : (s.station st).state = .down ∨ (s.station st).state = .unused) : s.consider st = s := by
  rcases h with h | h <;> rw [State.consider, h]

/-- A slip called within a consideration was called by the pass. -/
theorem State.consider_called (hr : s.RecordsSound) {st : StationId} {x y : Slip} (hx : x ∈ s.slips) (hp : x.state = .pending)
    (hy : y ∈ (s.consider st).slips) (hn : y.number = x.number) (hc : y.state ≠ .pending) :
    (s.consider st).busyCount st ≤ (s.station st).config.limit x.cls := by
  have h1 := State.previewPass_considered hr st
  have hprev (z : Slip) (hz : z ∈ (s.previewPass st).slips) (hzn : z.number = x.number) : z.state = .pending ∧ z.cls = x.cls := by
    obtain ⟨z0, hz0, _, rfl⟩ := forall₂_mem_right (State.previewPass_slips st s) hz
    have := hr.slip_unique hx hz0 hzn
    subst this
    exact ⟨hp, rfl⟩
  cases ho : (s.station st).state with
  | opened =>
    rw [State.consider_of_opened ho] at hy ⊢
    obtain ⟨z, hz, hzc⟩ := forall₂_mem_left h1.slips hx
    have hzn : z.number = x.number := by rw [hzc.considers.kept]
    obtain ⟨hzp, hzk⟩ := hprev z hz hzn
    have := State.callPass_called _ (h1.recordsSound hr) (by rw [h1.quiet.station, ho]) hz hzp hy (hn.trans hzn.symm) hc
    rwa [h1.quiet.station, hzk] at this
  | paused =>
    rw [State.consider_of_paused ho] at hy
    exact absurd (hprev y hy hn).1 hc
  | down =>
    rw [State.consider_of_stopped (.inl ho)] at hy
    have := hr.slip_unique hx hy hn
    subst this
    exact absurd hp hc
  | unused =>
    rw [State.consider_of_stopped (.inr ho)] at hy
    have := hr.slip_unique hx hy hn
    subst this
    exact absurd hp hc

/-- Settles O51: the passes carried to their end, the slots they fill, and what they make of the part. -/
theorem considerationCallsAllEligible : Obligations.ConsiderationCallsAllEligible := by
  intro s st
  have hset := s.consider_settled st
  have hst : (s.consider st).station st = s.station st := (Quiet.consider st s).station st
  refine ⟨fun ho => ⟨hset.called (by rw [hst, ho]), fun hr hb => ?_⟩, fun hp => ?_, fun _ => hset.previewed, State.consider_of_stopped, fun hr => ?_⟩
  · have h1 := State.previewPass_considered hr st
    rw [State.consider_of_opened ho]
    have := State.callPass_busy (s.queue st).length (h1.recordsSound hr) (by rw [h1.quiet.station, ho])
      (by rw [h1.quiet.station, State.previewPass_busy]; exact hb)
    rwa [h1.quiet.station] at this
  · rw [State.consider_of_paused hp, State.previewPass_busy]
  · have h := State.consider_considered hr st
    refine ⟨_, rfl, h.quiet.frame, h.slips.imp fun _ _ k => k.considers, h.waves, fun x hx hn => h.others_mem hx hn, fun x hx y hy hn => ?_⟩
    have hc := h.slip hr hx hy hn
    by_cases hxs : x.station = st
    · subst hxs
      refine ⟨hc.previewTold, fun hp hq => ?_⟩
      have hb := State.consider_called hr hx hp hy hn hq
      refine ⟨Nat.le_trans hb ((s.station _).config.limit_le _), fun hcls => by rwa [hcls] at hb, hc.callTold hp hq, fun hm m hmx k hk l hkn hl => ?_⟩
      have hlinked := (h.linked (hr.membersSound_iff.mp hm).1).1
      have hcalled : LineState.follows y.number y.state = .called x.number := by
        rw [hn]
        rcases hc.considers.called with e | ⟨_, e, _⟩
        · exact absurd (e.trans hp) hq
        · rw [e]; rfl
      rw [← hcalled]
      refine (h.recordsSound hr).line_follows hlinked hy hk hl (List.any_eq_true.mpr ⟨m, ?_, decide_eq_true ⟨hkn.symm, rfl⟩⟩)
      rw [hc.considers.kept]
      exact hmx
    · have := hc.others hxs
      subst this
      exact ⟨fun h k => (Bool.false_ne_true (h.symm.trans k)).elim, fun h k => absurd h k⟩

end Sys2Proof.Machine
end

section
/-! SUPPORT. The commands that end in considerations: PAUSE, RESUME and STATION OPEN (R102, R103, R132, R133), RELEASE and FIRE WAVE
(R24, R30). -/

namespace Sys2Proof.Machine

/-! ## From the state handed over to the state before the frame -/

section Handed

variable (c : Cmd) (p : PortId) (s : State)

@[simp] theorem State.handed_isBound (st : StationId) (q : PortId) : (s.handed c p).isBound st q = s.isBound st q := by
  rw [State.isBound, State.handed_role, State.handed_station, State.isBound]

@[simp] theorem State.handed_watchers (q : PortId) : (s.handed c p).watchers q = s.watchers q := by
  rw [State.watchers, State.handed_role, State.watchers]

@[simp] theorem State.handed_watchersOf (st : StationId) (q : PortId) : (s.handed c p).watchersOf st q = s.watchersOf st q := by
  rw [State.watchersOf, State.handed_watchers, State.handed_isBound, State.watchersOf]

@[simp] theorem State.handed_watchersAnd (o q : PortId) : (s.handed c p).watchersAnd o q = s.watchersAnd o q := by
  rw [State.watchersAnd, State.handed_watchers, State.watchersAnd]

theorem State.handed_checkStation (q : PortId) (st : StationId) : (s.handed c p).checkStation q st = s.checkStation q st := by
  rw [State.checkStation, State.handed_role, State.handed_isBound, State.checkStation]
  rfl

theorem Stands.handed : Stands s (s.handed c p) := rfl

end Handed

variable {s t : State} {c : Cmd} {p : PortId}

theorem State.RecordsSound.handed (h : s.RecordsSound) (c : Cmd) (p : PortId) : (s.handed c p).RecordsSound := h.congr (.handed c p s) rfl rfl

theorem State.Linked.handed (h : s.Linked) (c : Cmd) (p : PortId) : (s.handed c p).Linked := h.congr rfl fun _ _ => rfl

theorem State.MembersSound.linked (h : s.MembersSound) (hr : s.RecordsSound) : s.Linked := (hr.membersSound_iff.mp h).1

/-- What a reply leaves settled. -/
theorem State.Settled.answer {st : StationId} (h : s.Settled st) (p : PortId) (c : Cmd) (k : Status) (d : ReplyData) :
    (s.answer p c k d).Settled st := ⟨h.called, h.previewed⟩

theorem State.told_answer {q : PortId} {n : Notice} (h : (s.port q).Told n) (p : PortId) (c : Cmd) (k : Status) (d : ReplyData) :
    ((s.answer p c k d).port q).Told n := (Kept.answer p c k d s).told h

theorem State.port_answer_ne {q : PortId} (h : q ≠ p) (k : Status) (d : ReplyData) : (s.answer p c k d).port q = s.port q :=
  State.port_modPort_ne h _ s

/-- A consideration and the reply after it touch waves, tickets, slips and ports alone. -/
theorem Quiet.answer_frame (h : Quiet s t) (p : PortId) (c : Cmd) (k : Status) (d : ReplyData) :
    t.answer p c k d = { s with
      waves := (t.answer p c k d).waves, tickets := (t.answer p c k d).tickets, slips := (t.answer p c k d).slips
      ports := (t.answer p c k d).ports } := by
  have hf := h.frame
  generalize t = a at hf ⊢
  rw [hf]
  rfl

/-- Considerations at states alike in clock, stations and holds. -/
theorem forall₂_considers_congr {l m : List Slip} (h : List.Forall₂ t.Considers l m) (hc : t.clock = s.clock)
    (hs : ∀ st, t.station st = s.station st) (hh : ∀ v, (t.wave v).hold = (s.wave v).hold) : List.Forall₂ s.Considers l m :=
  h.imp fun _ _ k => k.congr hc (hs _) (hh _)

/-! ## PAUSE STATION and RESUME STATION (R102, R103) -/

theorem State.frame_of_station {w : Written} {owner : PortId → StationId → State → State} (h : Takes c w s) {st : StationId}
    (hp : paramsOf w.body = some [byte st.val]) : s.frame c parseStation owner w = owner w.port st (s.handed c w.port) :=
  State.frame_of_takes h (by rw [hp]; exact parseStation_byte st)

theorem State.checkStation_of_closed (h : s.service = .closed) (p : PortId) (st : StationId) : s.checkStation p st = some .badState := if_pos h

theorem State.checkStation_of_unused (h : s.service ≠ .closed) {st : StationId} (hu : (s.station st).state = .unused) (p : PortId) :
    s.checkStation p st = some .noStation := (if_neg h).trans (if_pos hu)

theorem State.checkStation_of_foreign (h : s.service ≠ .closed) {st : StationId} (hu : (s.station st).state ≠ .unused)
    (hr : (s.port p).role = .station) (hp : (s.station st).config.port ≠ some p) : s.checkStation p st = some .wrongStation := by
  have hb : ¬s.isBound st p = true := fun hb => hp (State.isBound_iff.mp hb).1
  exact (if_neg h).trans ((if_neg hu).trans (if_pos ⟨hr, hb⟩))

theorem State.checkStation_of_own (h : s.service ≠ .closed) {st : StationId} (hu : (s.station st).state ≠ .unused)
    (hp : (s.port p).role ≠ .station ∨ (s.station st).config.port = some p) : s.checkStation p st = none := by
  refine (if_neg h).trans ((if_neg hu).trans (if_neg ?_))
  rintro ⟨hr, hb⟩
  exact hb (State.isBound_iff.mpr ⟨hp.resolve_left (not_not.mpr hr), hr⟩)

/-- A station's state changed with its notice, at a port. -/
theorem State.announceStation_port (st : StationId) (k : StationState) (cause : StationCause) (s : State) (q : PortId) :
    (s.announceStation st k cause).port q =
      if s.watchersOf st q = true then (s.port q).append ⟨s.clock, .stationState st k cause none 0⟩ else s.port q := by
  rw [State.announceStation, State.port_post]
  rfl

theorem State.announceStation_told {st : StationId} {q : PortId} (h : s.watchersOf st q = true) (k : StationState) (cause : StationCause) :
    ((s.announceStation st k cause).port q).Told ⟨s.clock, .stationState st k cause none 0⟩ := by
  rw [State.announceStation_port, if_pos h]
  exact (PortUnit.toldLast_append _ _).told

/-- Settles O45: the checks in their order; the pause port by port, the resumption by its consideration. -/
theorem pauseAndResume : Obligations.PauseAndResume := by
  intro w s st hp
  refine ⟨fun ht => ?_, fun ht => ?_⟩
  · have hex : exec (.pauseStation w) s = .next (ownPauseStation w.port st (s.handed .pauseStation w.port)) :=
      congrArg Host.Outcome.next (State.frame_of_station (owner := ownPauseStation) ht hp)
    have refused (k : Status) (hc : s.checkStation w.port st = some k) : exec (.pauseStation w) s = .next (s.answered w.port ⟨0x41, k, .empty⟩) := by
      rw [hex, ownPauseStation, State.handed_checkStation, hc]
      exact congrArg _ (State.answer_handed ht.still _ _)
    refine ⟨fun hs => refused _ (State.checkStation_of_closed hs _ _), fun hs => ⟨fun hu => refused _ (State.checkStation_of_unused hs hu _),
      fun hu hr hq => refused _ (State.checkStation_of_foreign hs hu hr hq), fun hown => ⟨fun hd => ?_, fun hd => ?_, fun hd => ?_⟩⟩⟩
    all_goals
      have hc := State.checkStation_of_own hs (by rw [hd]; decide) hown
      rw [hex, ownPauseStation, State.handed_checkStation, hc, State.handed_station, hd]
    · exact congrArg _ (State.answer_handed ht.still _ _)
    · exact congrArg _ (State.answer_handed ht.still _ _)
    · have hport (q : PortId) := State.announceStation_port st .paused .paused (s.handed .pauseStation w.port) q
      have hif (q : PortId) (a b : PortUnit) : (if (s.port q).role = .pass ∨ (s.port q).role = .monitor ∨
          (s.station st).config.port = some q ∧ (s.port q).role = .station then a else b) = if s.watchersOf st q = true then a else b :=
        if_congr State.watchersOf_iff.symm rfl rfl
      refine ⟨_, rfl, rfl, fun q hq => ?_, ?_⟩
      · rw [State.port_answer_ne hq, hport, State.handed_watchersOf, State.handed_port_ne hq, hif]
        rfl
      · have hwatch : s.watchersOf st w.port = true := by
          have hperm : (s.port w.port).role = .pass ∨ (s.port w.port).role = .station := by simpa [permits] using ht.permitted
          refine State.watchersOf_iff.mpr ?_
          rcases hperm with hr | hr
          · exact .inl hr
          · exact .inr (.inr ⟨hown.resolve_left (not_not.mpr hr), hr⟩)
        rw [State.port_answer, hport, State.handed_watchersOf, if_pos hwatch, State.handed_port]
        exact PortUnit.placeReply_append_handOver ht.still _ _ _ _
  · have hex : exec (.resumeStation w) s = .next (ownResumeStation w.port st (s.handed .resumeStation w.port)) :=
      congrArg Host.Outcome.next (State.frame_of_station (owner := ownResumeStation) ht hp)
    have refused (k : Status) (hc : s.checkStation w.port st = some k) : exec (.resumeStation w) s = .next (s.answered w.port ⟨0x42, k, .empty⟩) := by
      rw [hex, ownResumeStation, State.handed_checkStation, hc]
      exact congrArg _ (State.answer_handed ht.still _ _)
    refine ⟨fun hs => refused _ (State.checkStation_of_closed hs _ _), fun hs => ⟨fun hu => refused _ (State.checkStation_of_unused hs hu _),
      fun hu hr hq => refused _ (State.checkStation_of_foreign hs hu hr hq), fun hown => ⟨fun hd => ?_, fun hd => ?_, fun hd => ?_⟩⟩⟩
    all_goals
      have hc := State.checkStation_of_own hs (by rw [hd]; decide) hown
      rw [hex, ownResumeStation, State.handed_checkStation, hc, State.handed_station, hd]
    · exact congrArg _ (State.answer_handed ht.still _ _)
    · exact congrArg _ (State.answer_handed ht.still _ _)
    · set b := (s.handed .resumeStation w.port).announceStation st .opened .resumed with hb
      have hstation (d : StationId) : b.station d = ({ s with stations := s.stations.set st { s.station st with state := .opened } } : State).station d :=
        State.station_post _ _ _ d
      have hst : (b.station st).state = .opened := by
        rw [hb, State.announceStation, State.station_post, State.station_modStation_self]
      have hq := Quiet.consider st b
      refine ⟨_, rfl, hq.answer_frame _ _ _ _, ?_, fun hr => ?_, fun q hw => ?_, State.answer_slot _ _ _ _ _⟩
      · exact ((b.consider_settled st).answer _ _ _ _).called (by rw [State.station_answer, hq.station, hst])
      · have hrb : b.RecordsSound := (hr.handed .resumeStation w.port).congr rfl rfl rfl
        have h := State.consider_considered hrb st
        exact ⟨forall₂_considers_congr (t := b) (h.slips.imp fun _ _ k => k.considers) rfl hstation fun _ => rfl, fun x hx hn => h.others_mem hx hn⟩
      · refine State.told_answer ((Kept.consider st b).told ?_) _ _ _ _
        exact State.announceStation_told (by rw [State.handed_watchersOf, hw]) _ _

/-! ## STATION OPEN (R132, R133) -/

/-- A station readied to reopen: its evacuation ended, its missed takes at 0, OPEN with its notice (R133). -/
def State.reopened (st : StationId) (s : State) : State :=
  ((if (s.station st).evacuating then s.endEvacuation st .evacuationStopped (s.queue st).length else s).modStation st fun u =>
    { u with missed := 0 }).announceStation st .opened .reopened

theorem State.reopen_eq (st : StationId) (s : State) : s.reopen st = (s.reopened st).consider st := by
  rw [State.reopen, State.reopened]

/-- From `s` to `t` nothing but stations and ports has changed. -/
def AtStations (s t : State) : Prop := t = { s with stations := t.stations, ports := t.ports }

theorem AtStations.refl (s : State) : AtStations s s := rfl

theorem AtStations.trans {s t u : State} (h : AtStations s t) (k : AtStations t u) : AtStations s u := by
  unfold AtStations at *
  rw [k, h]

theorem AtStations.foldl {α : Type} {f : State → α → State} (hf : ∀ s a, AtStations s (f s a)) (l : List α) (s : State) : AtStations s (l.foldl f s) := by
  induction l generalizing s with
  | nil => exact .refl s
  | cons a l ih => exact (hf s a).trans (ih _)

theorem AtStations.modStation (st : StationId) (f : StationUnit → StationUnit) (s : State) : AtStations s (s.modStation st f) := rfl
theorem AtStations.post (r : PortId → Bool) (b : NoticeBody) (s : State) : AtStations s (s.post r b) := rfl

theorem AtStations.endEvacuation (st : StationId) (c : StationCause) (n : Nat) (s : State) : AtStations s (s.endEvacuation st c n) :=
  (AtStations.modStation st _ s).trans (.post _ _ _)

theorem AtStations.slips {s t : State} (h : AtStations s t) : t.slips = s.slips := by rw [h]
theorem AtStations.tickets {s t : State} (h : AtStations s t) : t.tickets = s.tickets := by rw [h]
theorem AtStations.wave {s t : State} (h : AtStations s t) (v : WaveId) : t.wave v = s.wave v := by rw [h]; rfl
theorem AtStations.clock {s t : State} (h : AtStations s t) : t.clock = s.clock := by rw [h]

theorem AtStations.stands {s t : State} (h : AtStations s t) : Stands s t := by
  rw [h]
  rfl

theorem AtStations.reopened (st : StationId) (s : State) : AtStations s (s.reopened st) := by
  unfold State.reopened State.announceStation
  refine .trans (.trans (.trans ?_ (.modStation _ _ _)) (.modStation _ _ _)) (.post _ _ _)
  split
  · exact .endEvacuation st _ _ s
  · exact .refl s

theorem State.reopened_station_self (st : StationId) (s : State) :
    (s.reopened st).station st = { s.station st with state := .opened, missed := 0, evacuating := false } := by
  unfold State.reopened State.announceStation
  rw [State.station_post, State.station_modStation_self, State.station_modStation_self]
  split
  · rw [State.endEvacuation, State.station_post, State.station_modStation_self]
  · next h => simp [Bool.not_eq_true _ ▸ h]

theorem State.reopened_station_ne {st d : StationId} (h : d ≠ st) (s : State) : (s.reopened st).station d = s.station d := by
  unfold State.reopened State.announceStation
  rw [State.station_post, State.station_modStation_ne h, State.station_modStation_ne h]
  split
  · rw [State.endEvacuation, State.station_post, State.station_modStation_ne h]
  · rfl

theorem Kept.reopened (st : StationId) (s : State) : Kept s (s.reopened st) := by
  unfold State.reopened State.announceStation
  refine .trans (.trans (.trans ?_ (.modStation rfl)) (.modStation rfl)) (.post _ _ _)
  split
  · exact .endEvacuation st _ _ s
  · exact .refl s

/-- An evacuation in flight is told stopped before the station is told reopened (R133). -/
theorem State.reopened_told {st : StationId} (h : (s.station st).evacuating = true) {q : PortId} (hq : s.watchersOf st q = true) :
    ((s.reopened st).port q).Told
      ⟨s.clock, .stationState st .down .evacuationStopped (s.station st).config.backup (s.queue st).length⟩ := by
  unfold State.reopened State.announceStation
  rw [if_pos h]
  have hk (a : State) : Kept a (((a.modStation st fun u => { u with missed := 0 }).modStation st fun u => { u with state := .opened }).post
      ((a.modStation st fun u => { u with missed := 0 }).watchersOf st) (.stationState st .opened .reopened none 0)) :=
    .trans (.trans (.modStation rfl) (.modStation rfl)) (.post _ _ _)
  exact (hk _).told (State.endEvacuation_told hq _ _)

/-- Settles O47: the checks in their order; the reopening, then its consideration. -/
theorem stationOpenReopens : Obligations.StationOpenReopens := by
  intro w s st ht hp
  have hex : exec (.stationOpen w) s = .next (ownStationOpen w.port st (s.handed .stationOpen w.port)) :=
    congrArg Host.Outcome.next (State.frame_of_station (owner := ownStationOpen) ht hp)
  have refused (k : Status) (hc : s.checkStation w.port st = some k) : exec (.stationOpen w) s = .next (s.answered w.port ⟨0x45, k, .empty⟩) := by
    rw [hex, ownStationOpen, State.handed_checkStation, hc]
    exact congrArg _ (State.answer_handed ht.still _ _)
  refine ⟨fun hs => refused _ (State.checkStation_of_closed hs _ _), fun hs => ⟨fun hu => refused _ (State.checkStation_of_unused hs hu _),
    fun hu hr hq => refused _ (State.checkStation_of_foreign hs hu hr hq), fun hown => ⟨fun hd => ?_, fun hd => ?_, fun hd => ?_⟩⟩⟩
  all_goals
    have hc := State.checkStation_of_own hs (by rw [hd]; decide) hown
    rw [hex, ownStationOpen, State.handed_checkStation, hc, State.handed_station, hd]
  · exact congrArg _ (State.answer_handed ht.still _ _)
  · exact congrArg _ (State.answer_handed ht.still _ _)
  · set h := s.handed .stationOpen w.port
    set b := h.reopened st with hb
    have hself : b.station st = { s.station st with state := .opened, missed := 0, evacuating := false } := State.reopened_station_self st h
    have hne (d : StationId) (hd : d ≠ st) : b.station d = s.station d := State.reopened_station_ne hd h
    have hat := AtStations.reopened st h
    have hwave (v : WaveId) : b.wave v = s.wave v := hat.wave v
    have hslips : b.slips = s.slips := hat.slips
    have htickets : b.tickets = s.tickets := hat.tickets
    have hclock : b.clock = s.clock := hat.clock
    have hq := Quiet.consider st b
    have hkb : Kept h b := .reopened st h
    rw [State.reopen_eq]
    show ∃ t, Host.Outcome.next ((b.consider st).answer w.port .stationOpen .ok (.stationOpen .opened ((b.consider st).queue st).length)) = .next t ∧ _
    refine ⟨_, rfl, ?_, ?_, fun d hd => ?_, fun v => ?_, ?_, ?_, fun hr => ?_, fun q hw => ?_, ?_⟩
    · have hf := hq.answer_frame w.port .stationOpen .ok (.stationOpen .opened ((b.consider st).queue st).length)
      generalize (b.consider st).answer _ _ _ _ = a at hf ⊢
      rw [← hb] at hat
      rw [hf, hat]
      rfl
    · rw [State.station_answer, hq.station, hself]
    · rw [State.station_answer, hq.station, hne d hd]
    · rw [State.wave_answer, (hq.waves v).state, (hq.waves v).sweep, (hq.waves v).hold, hwave]
      exact ⟨rfl, rfl, rfl⟩
    · rw [State.slips_answer, hq.slip_numbers, hslips]
    · exact (b.consider_settled st).answer _ _ _ _
    · have hrb : b.RecordsSound := (hr.handed .stationOpen w.port).kept hkb hat.stands
      have hcons := State.consider_considered hrb st
      refine ⟨?_, fun x hx hn => ?_, fun v => ?_, fun hm => ?_⟩
      · rw [← hslips]
        refine forall₂_considers_congr (hcons.slips.imp fun _ _ k => k.considers) hclock (fun d => ?_) fun v => by rw [hwave]; rfl
        exact ((State.station_answer w.port .stationOpen .ok (.stationOpen .opened ((b.consider st).queue st).length) (b.consider st) d).trans
          (hq.station d)).symm
      · exact hcons.others_mem (hslips ▸ hx) hn
      · rw [State.wave_answer, hcons.waves v, State.waveMarked, State.waveMarked, hwave, hslips]
        rfl
      · have hl : b.Linked := (hm.linked hr).congr hslips (State.lineAt_congr htickets)
        rw [← htickets]
        exact (hcons.linked hl).2
    · have hw' : h.watchersOf st q = true := by rw [State.handed_watchersOf, hw]
      refine ⟨fun he => ?_, ?_⟩
      · have hstop : (b.port q).Told ⟨s.clock, .stationState st .down .evacuationStopped (s.station st).config.backup (s.queue st).length⟩ :=
          State.reopened_told (s := h) he hw'
        exact State.told_answer ((Kept.consider st b).told hstop) _ _ _ _
      have htold := State.reopen_told (st := st) hw'
      rw [State.reopen_eq] at htold
      exact State.told_answer htold _ _ _ _
    · exact State.answer_slot _ _ _ _ _

end Sys2Proof.Machine
end

section
/-! SUPPORT. RELEASE WAVE and FIRE WAVE (R24, R30): every station with slips of the wave considers. -/

namespace Sys2Proof.Machine

variable {s t : State}

theorem State.queueHasWave_iff {v : WaveId} {st : StationId} : s.queueHasWave v st = true ↔ ∃ x ∈ s.queue st, x.wave = v := by
  simp only [State.queueHasWave, List.any_eq_true, beq_iff_eq]

theorem forall₂_filter_eq {α : Type} {r : α → α → Prop} {p : α → Bool} {l m : List α} (h : List.Forall₂ r l m)
    (hp : ∀ a b, r a b → p a = p b ∧ (p a = true → b = a)) : m.filter p = l.filter p := by
  induction h with
  | nil => rfl
  | @cons a b l m hab _ ih =>
    obtain ⟨h1, h2⟩ := hp a b hab
    by_cases ha : p a = true
    · rw [List.filter_cons_of_pos ha, List.filter_cons_of_pos (h1 ▸ ha), ih, h2 ha]
    · rw [List.filter_cons_of_neg ha, List.filter_cons_of_neg (h1 ▸ ha), ih]

/-- A station that is not OPEN keeps its busy set through considerations (R106). -/
theorem State.busySet_of_considers (h : List.Forall₂ s.Considers s.slips t.slips) {st : StationId} (ho : (s.station st).state ≠ .opened) :
    t.busySet st = s.busySet st := by
  refine forall₂_filter_eq h fun x y hc => ?_
  have hp := hc.previewed
  have hk := hc.called
  obtain ⟨p, k, rfl⟩ := hc.exists_fields
  by_cases hst : x.station = st
  · subst hst
    have hkx : k = x.state := hk.resolve_right fun hh => ho hh.2.2.1
    subst hkx
    refine ⟨rfl, fun hb => ?_⟩
    have hnp : x.state ≠ .pending := fun hc => by simp [Slip.isPending, hc] at hb
    have : p = x.previewed := hp.resolve_right fun hh => hnp hh.2.1
    rw [this]
  · have hne : (x.station == st) = false := beq_eq_false_iff_ne.mpr hst
    simp [hne]

/-- Settles O25: the hold flag cleared, then the considerations of the stations whose queues hold slips of the wave. -/
theorem releaseWaveCalls : Obligations.ReleaseWaveCalls := by
  intro w s v ht hp hs hh
  set h := s.handed .releaseWave w.port
  have hex : exec (.releaseWave w) s = .next (ownReleaseWave w.port v h) :=
    congrArg Host.Outcome.next (State.frame_of_wave (owner := ownReleaseWave) ht hp)
  have hs' : (h.wave v).state ≠ .free := hs
  have hh' : (h.wave v).hold = true := hh
  rw [hex, ownReleaseWave, if_neg hs', if_pos hh']
  set b := h.modWave v fun u => { u with hold := false } with hb
  set sel := h.queueHasWave v
  have hsel (st : StationId) : sel st = true ↔ ∃ x ∈ s.queue st, x.wave = v := State.queueHasWave_iff (s := h)
  have hq := Quiet.considerAll sel b
  have hv : b.wave v = { s.wave v with hold := false } := State.wave_modWave_self v _ h
  have hne (u : WaveId) (hu : u ≠ v) : b.wave u = s.wave u := State.wave_modWave_ne hu _ h
  refine ⟨_, rfl, ?_, ?_, ?_, ?_, fun u hu => ?_, fun st ho hx => ?_, fun hr st ho => ?_, fun hr => ⟨?_, fun u => ?_, fun st hx x hxs hst => ?_⟩,
    State.answer_slot _ _ _ _ _⟩
  · have hf := hq.answer_frame w.port .releaseWave .ok (.hold false)
    generalize (b.considerAll sel).answer _ _ _ _ = a at hf ⊢
    rw [hf]
    rfl
  · rw [State.wave_answer, (hq.waves v).hold, hv]
  · rw [State.wave_answer, (hq.waves v).state, hv]
  · rw [State.wave_answer, (hq.waves v).sweep, hv]
  · rw [State.wave_answer, (hq.waves u).state, (hq.waves u).sweep, (hq.waves u).hold, hne u hu]
    exact ⟨rfl, rfl, rfl⟩
  · refine ((b.considerAll_settled ((hsel st).mpr hx)).answer _ _ _ _).called ?_
    rw [State.station_answer, hq.station]
    exact ho
  all_goals
    have hrb : b.RecordsSound := (hr.handed .releaseWave w.port).congr rfl rfl rfl
    have hc := State.considerAll_considered hrb sel
    have hcons := hc.slips.imp fun _ _ k => k.considers
  · exact State.busySet_of_considers (s := b) hcons ho
  · exact forall₂_considers_congr (t := b) hcons rfl (fun _ => rfl) fun _ => rfl
  · rw [State.wave_answer, hc.waves u, State.waveMarked, State.waveMarked]
    by_cases hu : u = v
    · subst hu; rw [hv]; rfl
    · rw [hne u hu]; rfl
  · refine hc.others_mem hxs fun hsl => ?_
    obtain ⟨y, hy, hyv⟩ := (hsel x.station).mp hsl
    exact hx y (hst ▸ hy) hyv

/-! ## FIRE WAVE -/

theorem State.slips_refireTime (x : Slip) (fire : Nat) (s : State) :
    (s.refireTime x fire).slips = s.slips.map fun y => if y.number = x.number then { y with fire := fire } else y := by
  rw [State.refireTime_eq]
  split <;> rfl

theorem State.tickets_refireTime (x : Slip) (fire : Nat) (s : State) : (s.refireTime x fire).tickets = s.tickets := by
  rw [State.refireTime_eq]
  split <;> rfl

/-- From `s` to `t` nothing but slips and ports has changed. -/
def AtSlips (s t : State) : Prop := t = { s with slips := t.slips, ports := t.ports }

theorem AtSlips.refl (s : State) : AtSlips s s := rfl

theorem AtSlips.trans {s t u : State} (h : AtSlips s t) (k : AtSlips t u) : AtSlips s u := by
  unfold AtSlips at *
  rw [k, h]

theorem AtSlips.refireTimes (l : List Slip) (fire : Nat) (s : State) : AtSlips s (l.foldl (fun s x => s.refireTime x fire) s) := by
  induction l generalizing s with
  | nil => exact .refl s
  | cons x l ih =>
    have h1 : AtSlips s (s.refireTime x fire) := by
      rw [State.refireTime_eq]
      split <;> rfl
    exact h1.trans (ih _)

theorem State.slips_refireTimes (l : List Slip) (fire : Nat) (s : State) : (l.foldl (fun s x => s.refireTime x fire) s).slips =
    s.slips.map fun y => if l.any (fun x => decide (x.number = y.number)) then { y with fire := fire } else y := by
  induction l generalizing s with
  | nil => simp
  | cons x l ih =>
    rw [List.foldl_cons, ih, State.slips_refireTime, List.map_map]
    refine List.map_congr_left fun y _ => ?_
    by_cases hx : y.number = x.number
    · simp [Function.comp, hx]
    · simp [Function.comp, hx, Ne.symm hx]

/-- CHANGED for every previewed slip of the list, at its bound port (R93). -/
theorem State.refireTimes_told (l : List Slip) (fire : Nat) {s : State} {x : Slip} (hx : x ∈ l) (hp : x.previewed = true) {q : PortId}
    (hq : s.isBound x.station q = true) : ((l.foldl (fun s x => s.refireTime x fire) s).port q).Told
      ⟨s.clock, .changed x.number x.station x.item x.state fire x.portions x.members.length⟩ := by
  induction l generalizing s with
  | nil => cases hx
  | cons y l ih =>
    rw [List.foldl_cons]
    have hk := Kept.refireTime y fire s
    rcases List.mem_cons.mp hx with rfl | hx
    · refine (Kept.foldl (fun s x => .refireTime x fire s) l _).told ?_
      rw [State.refireTime_eq, if_pos hp]
      have h1 : Kept s (s.modSlip x.number fun y => { y with fire := fire }) := .modSlip (fun _ h => h) fun _ _ _ _ h => h
      exact h1.told_post hq _
    · have := ih hx ((hk.isBound _ _).trans hq)
      rwa [hk.clock] at this

/-- The slips to fire, as the statement counts them (R30). -/
theorem State.toFire_eq (s : State) (v : WaveId) :
    s.toFire v = s.slips.filter fun x => decide (x.wave = v) && x.isPending && decide (x.fire ≠ s.clock) := by
  refine List.filter_congr fun x _ => ?_
  rw [Bool.eq_iff_iff]
  simp

/-- FIRE WAVE gives every PENDING slip of the wave the clock as its fire time (R30). -/
theorem State.RecordsSound.slips_fired (hr : s.RecordsSound) (v : WaveId) : ((s.toFire v).foldl (fun s' x => s'.refireTime x s.clock) s).slips =
    s.slips.map fun x => if x.wave = v ∧ x.isPending = true then { x with fire := s.clock } else x := by
  rw [State.slips_refireTimes]
  refine List.map_congr_left fun y hy => ?_
  have hany : (s.toFire v).any (fun x => decide (x.number = y.number)) = true ↔ (y.wave = v ∧ y.isPending = true) ∧ y.fire ≠ s.clock := by
    rw [List.any_eq_true, State.toFire_eq]
    constructor
    · rintro ⟨x, hx, hn⟩
      obtain ⟨hx, hc⟩ := List.mem_filter.mp hx
      have := hr.slip_unique hy hx (of_decide_eq_true hn)
      subst this
      simpa using hc
    · exact fun hc => ⟨y, List.mem_filter.mpr ⟨hy, by simpa using hc⟩, by simp⟩
  by_cases hc : y.wave = v ∧ y.isPending = true
  · rw [if_pos hc]
    by_cases hf : y.fire = s.clock
    · rw [if_neg fun ha => (hany.mp ha).2 hf, ← hf]
    · rw [if_pos (hany.mpr ⟨hc, hf⟩)]
  · rw [if_neg hc, if_neg fun ha => hc (hany.mp ha).1]

/-- Settles O26: the fire times set, CHANGED where they moved, then the considerations. -/
theorem fireWaveMovesFireTimes : Obligations.FireWaveMovesFireTimes := by
  intro w s v ht hp
  set h := s.handed .fireWave w.port
  have hex : exec (.fireWave w) s = .next (ownFireWave w.port v h) :=
    congrArg Host.Outcome.next (State.frame_of_wave (owner := ownFireWave) ht hp)
  rw [hex, ownFireWave]
  refine ⟨fun hs => ?_, fun hs hd => ?_, fun hs hd hr => ?_⟩
  · exact congrArg _ ((if_pos hs).trans (State.answer_handed ht.still _ _))
  · have hd' : (h.wave v).delay.isSome = true := Option.isSome_iff_ne_none.mpr hd
    exact congrArg _ ((if_neg hs).trans ((if_pos hd').trans (State.answer_handed ht.still _ _)))
  · have hs' : ¬(h.wave v).state = .free := hs
    have hd' : ¬(h.wave v).delay.isSome = true := by
      show ¬(s.wave v).delay.isSome = true
      rw [hd]
      decide
    rw [if_neg hs', if_neg hd']
    have hrh : h.RecordsSound := hr.handed .fireWave w.port
    set b := (h.toFire v).foldl (fun s' x => s'.refireTime x h.clock) h with hb
    have hat : AtSlips h b := .refireTimes (h.toFire v) h.clock h
    have hslips : b.slips = s.slips.map fun x => if x.wave = v ∧ x.isPending = true then { x with fire := s.clock } else x := hrh.slips_fired v
    have hkb : Kept h b := Kept.foldl (fun s' x => .refireTime x h.clock s') _ h
    have hwave (u : WaveId) : b.wave u = s.wave u := by rw [hat]; rfl
    have hstation (d : StationId) : b.station d = s.station d := by rw [hat]; rfl
    have hclock : b.clock = s.clock := by rw [hat]; rfl
    set sel := h.queueHasWave v
    have hsel (st : StationId) : sel st = true ↔ ∃ x ∈ s.queue st, x.wave = v := State.queueHasWave_iff (s := h)
    have hrb : b.RecordsSound := hrh.kept hkb (by rw [Stands, hat])
    have hq := Quiet.considerAll sel b
    have hc := State.considerAll_considered hrb sel
    have hcons : List.Forall₂ s.Considers b.slips (b.considerAll sel).slips :=
      forall₂_considers_congr (hc.slips.imp fun _ _ k => k.considers) hclock hstation fun u => by rw [hwave]
    have hfire (x : Slip) (hx : x ∈ s.slips) : ∃ y ∈ (b.considerAll sel).slips, y.number = x.number ∧
        y.fire = if x.wave = v ∧ x.isPending = true then s.clock else x.fire := by
      obtain ⟨y, hy, hxy⟩ := forall₂_mem_left hcons (hslips ▸ List.mem_map_of_mem (f := fun x : Slip =>
        if x.wave = v ∧ x.isPending = true then { x with fire := s.clock } else x) hx)
      obtain ⟨p, k, rfl⟩ := hxy.exists_fields
      refine ⟨_, hy, ?_, ?_⟩
      · show (if x.wave = v ∧ x.isPending = true then { x with fire := s.clock } else x).number = x.number
        split <;> rfl
      · show (if x.wave = v ∧ x.isPending = true then { x with fire := s.clock } else x).fire = _
        split <;> rfl
    refine ⟨_, rfl, ?_, fun u => ?_, fun x hx hw hpd => ?_, fun x hx hn => ?_, fun x hx hw hpd hpv hf q hbd => ?_, hslips ▸ hcons, fun st hx => ?_,
      fun st hx x hxs hst => ?_, ?_⟩
    · have hf := hq.answer_frame w.port .fireWave .ok (.fired (h.toFire v).length)
      generalize (b.considerAll sel).answer _ _ _ _ = a at hf ⊢
      rw [hf, hat]
      rfl
    · rw [State.wave_answer, hc.waves u, State.waveMarked_eq, State.waveMarked_eq, hwave]
      congr 1
      funext n
      rw [Bool.eq_iff_iff, State.leaves_iff, State.leaves_iff]
      have haw : b.Awaits u n ↔ s.Awaits u n := by
        simp only [State.Awaits, hslips, List.mem_map]
        constructor
        · rintro ⟨_, ⟨y, hy, rfl⟩, hyn, hyw, hyp⟩
          refine ⟨y, hy, ?_⟩
          split at hyn <;> split at hyw <;> split at hyp <;> exact ⟨hyn, hyw, hyp⟩
        · rintro ⟨y, hy, hyn, hyw, hyp⟩
          refine ⟨_, ⟨y, hy, rfl⟩, ?_⟩
          split <;> exact ⟨hyn, hyw, hyp⟩
      rw [haw]
      rfl
    · obtain ⟨y, hy, hyn, hyf⟩ := hfire x hx
      exact ⟨y, hy, hyn, hyf.trans (if_pos ⟨hw, hpd⟩)⟩
    · obtain ⟨y, hy, hyn, hyf⟩ := hfire x hx
      exact ⟨y, hy, hyn, hyf.trans (if_neg hn)⟩
    · have hmem : x ∈ h.toFire v := by
        rw [State.toFire_eq]
        have hf' : x.fire ≠ h.clock := hf
        exact List.mem_filter.mpr ⟨hx, by simpa [hw, hpd] using hf'⟩
      have hbd' : h.isBound x.station q = true := by rw [State.handed_isBound, hbd]
      have htold := State.refireTimes_told (h.toFire v) h.clock (s := h) hmem hpv hbd'
      rw [Slip.isPending_iff.mp hpd] at htold
      exact State.told_answer ((Kept.considerAll sel b).told htold) _ _ _ _
    · exact (b.considerAll_settled ((hsel st).mpr hx)).answer _ _ _ _
    · have hno : ¬(x.wave = v ∧ x.isPending = true) := fun hh => hx x (State.mem_queue.mpr ⟨hxs, hst, hh.2⟩) hh.1
      refine hc.others_mem ?_ fun hsl => ?_
      · rw [hslips]
        exact List.mem_map.mpr ⟨x, hxs, if_neg hno⟩
      · obtain ⟨y, hy, hyv⟩ := (hsel x.station).mp hsl
        exact hx y (hst ▸ hy) hyv
    · have : (h.toFire v).length = (s.slips.filter fun x => decide (x.wave = v) && x.isPending && decide (x.fire ≠ s.clock)).length :=
        congrArg List.length (State.toFire_eq h v)
      rw [← this]
      exact State.answer_slot _ _ _ _ _

end Sys2Proof.Machine
end

section
/-! SUPPORT. A station going DOWN, exactly (R123 to R126, R129): its slips, every station, every notice. -/

namespace Sys2Proof.Machine

variable {s t : State}

/-! ## The slips returned -/

/-- A slip as the going DOWN of station `st` leaves it: a CALLED one of that station PENDING again (R123). -/
def Slip.returned (st : StationId) (x : Slip) : Slip := if x.station = st ∧ x.isCalled = true then { x with state := .pending } else x

@[simp] theorem Slip.returned_number (st : StationId) (x : Slip) : (x.returned st).number = x.number := by unfold Slip.returned; split <;> rfl
@[simp] theorem Slip.returned_station (st : StationId) (x : Slip) : (x.returned st).station = x.station := by unfold Slip.returned; split <;> rfl
@[simp] theorem Slip.returned_members (st : StationId) (x : Slip) : (x.returned st).members = x.members := by unfold Slip.returned; split <;> rfl

theorem Slip.returned_of_ne {st : StationId} {x : Slip} (h : x.station ≠ st) : x.returned st = x := if_neg fun hh => h hh.1

theorem Slip.returned_of_called {st : StationId} {x : Slip} (h : x.station = st) (hc : x.isCalled = true) :
    x.returned st = { x with state := .pending } := if_pos ⟨h, hc⟩

theorem Slip.returned_of_not_called {st : StationId} {x : Slip} (hc : x.isCalled = false) : x.returned st = x :=
  if_neg fun hh => Bool.false_ne_true (hc.symm.trans hh.2)

theorem Slip.isCalled_iff {x : Slip} : x.isCalled = true ↔ ∃ a b, x.state = .called a b := by
  unfold Slip.isCalled
  cases x.state <;> simp

theorem Slip.isTaken_iff {x : Slip} : x.isTaken = true ↔ ∃ a, x.state = .taken a := by
  unfold Slip.isTaken
  cases x.state <;> simp

/-- A slip is PENDING, CALLED or TAKEN, and one of them alone. -/
theorem Slip.state_cases (x : Slip) : (x.isPending = true ∧ x.isCalled = false ∧ x.isTaken = false) ∨
    (x.isPending = false ∧ x.isCalled = true ∧ x.isTaken = false) ∨ (x.isPending = false ∧ x.isCalled = false ∧ x.isTaken = true) := by
  unfold Slip.isPending Slip.isCalled Slip.isTaken
  cases x.state <;> simp

theorem Slip.isPending_of_called {x : Slip} (h : x.isCalled = true) : x.isPending = false := by
  obtain ⟨_, _, hs⟩ := Slip.isCalled_iff.mp h
  simp [Slip.isPending, hs]

theorem Slip.isTaken_of_called {x : Slip} (h : x.isCalled = true) : x.isTaken = false := by
  obtain ⟨_, _, hs⟩ := Slip.isCalled_iff.mp h
  simp [Slip.isTaken, hs]

theorem Slip.returned_isCalled {st : StationId} {x : Slip} : (x.returned st).isCalled = true ↔ x.isCalled = true ∧ x.station ≠ st := by
  by_cases h : x.station = st ∧ x.isCalled = true
  · rw [Slip.returned, if_pos h]
    exact ⟨nofun, fun hh => absurd h.1 hh.2⟩
  · rw [Slip.returned, if_neg h]
    exact ⟨fun hc => ⟨hc, fun hst => h ⟨hst, hc⟩⟩, fun hh => hh.1⟩

theorem Slip.isPending_returned {st : StationId} {x : Slip} (h : x.isPending = true) : (x.returned st).isPending = true := by
  have hc : x.isCalled = false := Bool.eq_false_iff.mpr fun hc => by rw [Slip.isPending_of_called hc] at h; cases h
  rw [Slip.returned_of_not_called hc, h]

@[simp] theorem State.slips_returnSlip (x : Slip) (r : WithdrawReason) (s : State) :
    (s.returnSlip x r).slips = s.slips.map fun y => if y.number = x.number then { y with state := .pending } else y := by
  rw [State.returnSlip_eq, State.postWithdrawn, State.slips_post, State.slips_restate]

theorem State.slips_returnSlips (l : List Slip) (r : WithdrawReason) (s : State) : (l.foldl (fun s x => s.returnSlip x r) s).slips =
    s.slips.map fun y => if l.any (fun x => decide (x.number = y.number)) then { y with state := .pending } else y := by
  induction l generalizing s with
  | nil => simp
  | cons x l ih =>
    rw [List.foldl_cons, ih, State.slips_returnSlip, List.map_map]
    refine List.map_congr_left fun y _ => ?_
    by_cases hx : y.number = x.number
    · simp [Function.comp, hx]
    · simp [Function.comp, hx, Ne.symm hx]

/-- The CALLED slips of station `st`. -/
def State.calledAt (s : State) (st : StationId) : List Slip := (s.busySet st).filter Slip.isCalled

theorem State.mem_calledAt {st : StationId} {x : Slip} : x ∈ s.calledAt st ↔ x ∈ s.slips ∧ x.station = st ∧ x.isCalled = true := by
  rw [State.calledAt, List.mem_filter, State.mem_busySet]
  exact ⟨fun ⟨⟨h1, h2, _⟩, h3⟩ => ⟨h1, h2, h3⟩, fun ⟨h1, h2, h3⟩ => ⟨⟨h1, h2, Slip.isPending_of_called h3⟩, h3⟩⟩

theorem State.downed_eq (st : StationId) (s : State) : s.downed st =
    (s.calledAt st).foldl (fun s x => s.returnSlip x .down) (s.modStation st fun u => { u with state := .down }) := rfl

theorem State.RecordsSound.slips_downed (hr : s.RecordsSound) (st : StationId) : (s.downed st).slips = s.slips.map (Slip.returned st) := by
  rw [State.downed_eq, State.slips_returnSlips]
  refine List.map_congr_left fun y hy => ?_
  have hany : (s.calledAt st).any (fun x => decide (x.number = y.number)) = true ↔ y.station = st ∧ y.isCalled = true := by
    rw [List.any_eq_true]
    constructor
    · rintro ⟨x, hx, hn⟩
      obtain ⟨hx, hst, hc⟩ := State.mem_calledAt.mp hx
      have := hr.slip_unique hy hx (of_decide_eq_true hn)
      subst this
      exact ⟨hst, hc⟩
    · exact fun hh => ⟨y, State.mem_calledAt.mpr ⟨hy, hh⟩, by simp⟩
  unfold Slip.returned
  by_cases h : y.station = st ∧ y.isCalled = true
  · rw [if_pos h, if_pos (hany.mpr h)]
  · rw [if_neg h, if_neg fun ha => h (hany.mp ha)]

/-! ## The stations -/

theorem State.station_downed (st d : StationId) (s : State) :
    (s.downed st).station d = if d = st then { s.station st with state := .down } else s.station d := by
  rw [State.downed_eq, (Quiet.foldl (fun s x => .returnSlip x .down s) _ _).station, State.station_modStation]

theorem State.station_loseBackup (b d e : StationId) (s : State) : (s.loseBackup b d).station e =
    if e = d then { s.station d with evacuating := (s.station d).evacuating && decide ((s.station d).config.backup ≠ some b) } else s.station e := by
  unfold State.loseBackup
  by_cases h : ((s.station d).evacuating && (s.station d).config.backup == some b) = true
  · rw [if_pos h, State.endEvacuation, State.station_post, State.station_modStation]
    simp only [Bool.and_eq_true, beq_iff_eq] at h
    simp [h.1, h.2]
  · rw [if_neg h]
    by_cases he : e = d
    · subst he
      rw [if_pos rfl]
      have : ((s.station e).evacuating && decide ((s.station e).config.backup ≠ some b)) = (s.station e).evacuating := by
        cases hev : (s.station e).evacuating with
        | false => rfl
        | true => simpa [hev] using h
      rw [this]
    · rw [if_neg he]

theorem State.station_loseBackups (b e : StationId) (l : List StationId) (s : State) : (l.foldl (State.loseBackup b) s).station e =
    if e ∈ l then { s.station e with evacuating := (s.station e).evacuating && decide ((s.station e).config.backup ≠ some b) } else s.station e := by
  induction l generalizing s with
  | nil => rfl
  | cons d l ih =>
    rw [List.foldl_cons, ih, State.station_loseBackup]
    by_cases hd : e = d
    · subst hd
      by_cases hl : e ∈ l <;> simp [hl]
    · simp [hd]

theorem State.station_announceDown (st : StationId) (cause : StationCause) (e : StationId) (s : State) : (s.announceDown st cause).station e =
    { s.station e with evacuating := (s.station e).evacuating && decide ((s.station e).config.backup ≠ some st) } := by
  rw [State.announceDown, State.station_loseBackups, if_pos (show e ∈ allStations from List.mem_finRange e), State.station_post]

/-- The other stations: their evacuations into the station lost, and nothing else (R129). -/
theorem State.goDown_station_ne {st e : StationId} (h : e ≠ st) (cause : StationCause) (s : State) : (s.goDown st cause).station e =
    { s.station e with evacuating := (s.station e).evacuating && decide ((s.station e).config.backup ≠ some st) } := by
  have h1 : ((s.downed st).announceDown st cause).station e =
      { s.station e with evacuating := (s.station e).evacuating && decide ((s.station e).config.backup ≠ some st) } := by
    rw [State.station_announceDown, State.station_downed, if_neg h]
  rw [State.goDown_eq]
  split
  · rw [State.station_modStation_ne h, h1]
  · exact h1

/-- The station itself: DOWN, its evacuation started where it can move (R123, R126). -/
theorem State.goDown_station_self {st : StationId} (he : (s.station st).evacuating = false) (cause : StationCause) : (s.goDown st cause).station st =
    { s.station st with state := .down, evacuating := ((s.downed st).newBackup st).isSome } := by
  have h1 : ((s.downed st).announceDown st cause).station st = { s.station st with state := .down, evacuating := false } := by
    rw [State.station_announceDown, State.station_downed, if_pos rfl]
    simp [he]
  rw [State.goDown_eq]
  cases hb : (s.downed st).newBackup st with
  | none => rw [if_neg (by simp), h1]; rfl
  | some b => rw [if_pos (by simp), State.station_modStation_self, h1]; rfl

theorem AtStations.loseBackups (st : StationId) (l : List StationId) (s : State) : AtStations s (l.foldl (State.loseBackup st) s) := by
  refine AtStations.foldl (fun s d => ?_) l s
  unfold State.loseBackup
  split
  · exact .endEvacuation d _ _ s
  · exact .refl s

/-- The announcement and the start of the evacuation leave waves, tickets and slips. -/
theorem State.goDown_atStations (st : StationId) (cause : StationCause) (s : State) : AtStations (s.downed st) (s.goDown st cause) := by
  have h1 : AtStations (s.downed st) ((s.downed st).announceDown st cause) := (AtStations.post _ _ _).trans (.loseBackups st _ _)
  rw [State.goDown_eq]
  split
  · exact h1.trans (.modStation st _ _)
  · exact h1

theorem State.RecordsSound.slips_goDown (hr : s.RecordsSound) (st : StationId) (cause : StationCause) :
    (s.goDown st cause).slips = s.slips.map (Slip.returned st) :=
  (s.goDown_atStations st cause).slips.trans (hr.slips_downed st)

theorem State.isRunning_downed (st b : StationId) (s : State) : (s.downed st).isRunning b = (s.isRunning b && decide (b ≠ st)) := by
  rw [State.isRunning, State.station_downed]
  by_cases h : b = st
  · simp [h]
  · simp [h, State.isRunning]

/-- An evacuation starts exactly where the queue holds a slip and another station, running, is named as backup (R126). -/
theorem State.newBackup_downed {st : StationId} : ((s.downed st).newBackup st).isSome = true ↔
    (s.downed st).queue st ≠ [] ∧ ∃ b, (s.station st).config.backup = some b ∧ s.isRunning b = true ∧ b ≠ st := by
  have hconf : ((s.downed st).station st).config = (s.station st).config := (Kept.downed st s).configs st
  unfold State.newBackup
  by_cases hq : (s.downed st).queue st = []
  · simp [hq]
  · rw [if_neg (by simpa using hq)]
    cases hb : (s.station st).config.backup with
    | none => simp [usableBackup_of_none ((congrArg StationConfig.backup hconf).trans hb)]
    | some b =>
      rw [usableBackup_of_some ((congrArg StationConfig.backup hconf).trans hb), State.isRunning_downed]
      by_cases hr : (s.isRunning b && decide (b ≠ st)) = true
      · rw [if_pos hr]
        simp only [Bool.and_eq_true, decide_eq_true_eq] at hr
        simpa [hq] using hr
      · rw [if_neg hr]
        simp only [Bool.and_eq_true, decide_eq_true_eq] at hr
        simpa [hq] using hr

end Sys2Proof.Machine
end

section
/-! SUPPORT. The stations within their slots and ranges (R100, R101, R106, R112, R117, R123, R126 to R129) through every operation. -/

namespace Sys2Proof.Machine

variable {s t : State} {ex ex' : StationId → Prop}

/-! ## The invariant in parts -/

/-- A station unit within its ranges (R101, R112, R117). -/
structure StationUnit.Fit (st : StationId) (u : StationUnit) : Prop where
  inRange : u.config.InRange st
  lag_le : u.lag ≤ 600
  missed_le : u.missed ≤ 3

/-- A PENDING slip stands at station `st`. -/
def State.Queues (s : State) (st : StationId) : Prop := ∃ x ∈ s.slips, x.station = st ∧ x.isPending = true

theorem State.queue_ne_nil {st : StationId} : s.queue st ≠ [] ↔ s.Queues st := by
  constructor
  · intro h
    obtain ⟨x, hx⟩ := List.exists_mem_of_ne_nil _ h
    exact ⟨x, State.mem_queue.mp hx⟩
  · rintro ⟨x, hx⟩
    exact List.ne_nil_of_mem (State.mem_queue.mpr hx)

/-- The stations sound, but for the queues of evacuations from stations that `ex` names, which may be empty within an event. -/
structure State.Floor (ex : StationId → Prop) (s : State) : Prop where
  fit : ∀ st, (s.station st).Fit st
  busy_le : ∀ st, s.busyCount st ≤ (s.station st).config.slots
  called_running : ∀ x ∈ s.slips, x.isCalled = true → s.isRunning x.station = true
  missed_running : ∀ st, s.isRunning st = true → (s.station st).missed < 3
  halted : ∀ st, (s.station st).evacuating = true →
    (s.station st).state = .down ∧ ∃ b, (s.station st).config.backup = some b ∧ s.isRunning b = true
  queued : ∀ st, (s.station st).evacuating = true → ex st ∨ s.Queues st

theorem State.stationsSound_iff : s.StationsSound ↔ s.Floor fun _ => False := by
  constructor
  · intro h
    refine ⟨fun st => ⟨h.inRange st, h.lag_le st, h.missed_le st⟩, h.busy_le, h.called_running, h.missed_running, fun st he => ?_, fun st he => ?_⟩
    · obtain ⟨h1, _, h2⟩ := h.evacuating st he
      exact ⟨h1, h2⟩
    · obtain ⟨_, hq, _⟩ := h.evacuating st he
      exact .inr (State.queue_ne_nil.mp hq)
  · intro h
    refine ⟨fun st => (h.fit st).inRange, fun st => (h.fit st).lag_le, h.busy_le, h.called_running, fun st => (h.fit st).missed_le, h.missed_running,
      fun st he => ?_⟩
    obtain ⟨h1, h2⟩ := h.halted st he
    exact ⟨h1, State.queue_ne_nil.mpr ((h.queued st he).resolve_left id), h2⟩

/-- A station unit that lost nothing the invariant asks of it: its configuration and state kept, no evacuation started. -/
structure StationUnit.Eases (u v : StationUnit) : Prop where
  config : v.config = u.config
  state : v.state = u.state
  lag : u.lag ≤ 600 → v.lag ≤ 600
  missed : v.missed ≤ u.missed
  evacuating : v.evacuating = true → u.evacuating = true

theorem StationUnit.Eases.refl (u : StationUnit) : u.Eases u := ⟨rfl, rfl, id, Nat.le_refl _, id⟩

theorem StationUnit.Eases.of_eq {u v : StationUnit} (h : v = u) : u.Eases v := h ▸ .refl u

theorem StationUnit.Eases.modStation {st : StationId} {f : StationUnit → StationUnit} (hf : (s.station st).Eases (f (s.station st))) (d : StationId) :
    (s.station d).Eases ((s.modStation st f).station d) := by
  rw [State.station_modStation]
  split
  · next h => subst h; exact hf
  · exact .refl _

theorem State.isRunning_of_state {d : StationId} (h : (t.station d).state = (s.station d).state) : t.isRunning d = s.isRunning d := by
  rw [State.isRunning, h, State.isRunning]

/-- Slips changed at stations that lost nothing: the slots, the CALLED slips and the queues of evacuations have to be looked at. -/
theorem State.Floor.of_eases (h : s.Floor ex) (hst : ∀ d, (s.station d).Eases (t.station d))
    (hb : ∀ d, t.busyCount d ≤ (s.station d).config.slots) (hc : ∀ y ∈ t.slips, y.isCalled = true → s.isRunning y.station = true)
    (hq : ∀ d, (t.station d).evacuating = true → ex d ∨ s.Queues d → ex' d ∨ t.Queues d) : t.Floor ex' := by
  have hrun (d : StationId) : t.isRunning d = s.isRunning d := State.isRunning_of_state (hst d).state
  refine ⟨fun d => ⟨?_, ?_, ?_⟩, fun d => ?_, fun y hy hyc => ?_, fun d hd => ?_, fun d hd => ?_, fun d hd => ?_⟩
  · rw [(hst d).config]; exact (h.fit d).inRange
  · exact (hst d).lag (h.fit d).lag_le
  · exact (hst d).missed.trans (h.fit d).missed_le
  · rw [(hst d).config]; exact hb d
  · rw [hrun]; exact hc y hy hyc
  · exact Nat.lt_of_le_of_lt (hst d).missed (h.missed_running d (hrun d ▸ hd))
  · obtain ⟨h1, b, h2, h3⟩ := h.halted d ((hst d).evacuating hd)
    exact ⟨(hst d).state.trans h1, b, (congrArg _ (hst d).config).trans h2, (hrun b).trans h3⟩
  · exact hq d hd (h.queued d ((hst d).evacuating hd))

/-- What the invariant reads of a slip. -/
def Slip.view (x : Slip) : StationId × Bool × Bool := (x.station, x.isPending, x.isCalled)

theorem State.busyCount_of_view (hv : t.slips.map Slip.view = s.slips.map Slip.view) (d : StationId) : t.busyCount d = s.busyCount d := by
  have h (a : State) : a.busyCount d = (a.slips.map Slip.view).countP fun v => v.1 == d && !v.2.1 := by
    rw [State.busyCount_eq, List.countP_map]
    rfl
  rw [h, hv, ← h]

theorem State.Queues.of_view {d : StationId} (h : s.Queues d) (hv : t.slips.map Slip.view = s.slips.map Slip.view) : t.Queues d := by
  obtain ⟨x, hx, hst, hp⟩ := h
  obtain ⟨y, hy, hxy⟩ := List.mem_map.mp (hv ▸ List.mem_map_of_mem (f := Slip.view) hx)
  obtain ⟨h1, h2, _⟩ : y.station = x.station ∧ y.isPending = x.isPending ∧ y.isCalled = x.isCalled := by simpa [Slip.view] using hxy
  exact ⟨y, hy, h1.trans hst, h2.trans hp⟩

/-- Slips that keep station and state at stations that lost nothing. -/
theorem State.Floor.of_view (h : s.Floor ex) (hst : ∀ d, (s.station d).Eases (t.station d))
    (hv : t.slips.map Slip.view = s.slips.map Slip.view) : t.Floor ex := by
  refine h.of_eases hst (fun d => ?_) (fun y hy hc => ?_) fun d _ hq => hq.imp id fun k => k.of_view hv
  · rw [State.busyCount_of_view hv]; exact h.busy_le d
  · obtain ⟨x, hx, hxy⟩ := List.mem_map.mp (hv ▸ List.mem_map_of_mem (f := Slip.view) hy)
    obtain ⟨h1, _, h2⟩ : x.station = y.station ∧ x.isPending = y.isPending ∧ x.isCalled = y.isCalled := by simpa [Slip.view] using hxy
    exact h1 ▸ h.called_running x hx (h2.trans hc)

theorem State.Floor.congr (h : s.Floor ex) (hst : ∀ d, t.station d = s.station d) (hx : t.slips = s.slips) : t.Floor ex :=
  h.of_view (fun d => .of_eq (hst d)) (by rw [hx])

theorem State.Floor.modSlip (h : s.Floor ex) {n : Nat} {f : Slip → Slip} (hf : ∀ x ∈ s.slips, x.number = n → (f x).view = x.view) :
    (s.modSlip n f).Floor ex := by
  refine h.of_view (fun d => .refl _) ?_
  rw [State.modSlip_slips, List.map_map]
  refine List.map_congr_left fun x hx => ?_
  simp only [Function.comp]
  split
  · next hn => exact hf x hx hn
  · rfl

/-! ## Considerations (R106) -/

theorem State.Floor.consider (h : s.Floor ex) (hr : s.RecordsSound) (st : StationId) : (s.consider st).Floor ex := by
  have hc := State.consider_considered hr st
  have hcons := hc.slips.imp fun _ _ k => k.considers
  refine h.of_eases (fun d => .of_eq (hc.quiet.station d)) (fun d => ?_) (fun y hy hyc => ?_) fun d he hq => hq.imp id ?_
  · by_cases ho : (s.station d).state = .opened
    · by_cases hd : d = st
      · subst hd
        obtain ⟨hopen, _⟩ := considerationCallsAllEligible s d
        exact (hopen ho).2 hr (h.busy_le d)
      · have : (s.consider st).busySet d = s.busySet d := forall₂_filter_eq hc.slips fun x y k => by
          by_cases hx : x.station = st
          · have hy : y.station = st := by rw [k.considers.kept]; exact hx
            have hn : (st == d) = false := beq_eq_false_iff_ne.mpr (Ne.symm hd)
            simp [hx, hy, hn]
          · rw [k.others hx]
            exact ⟨rfl, fun _ => rfl⟩
        rw [State.busyCount, this]
        exact h.busy_le d
    · rw [State.busyCount, State.busySet_of_considers hcons ho]
      exact h.busy_le d
  · obtain ⟨x, hx, k⟩ := forall₂_mem_right hcons hy
    have hst : y.station = x.station := by rw [k.kept]
    rw [hst]
    rcases k.called with e | ⟨_, _, ho, _⟩
    · exact h.called_running x hx (by rw [Slip.isCalled, ← e]; exact hyc)
    · rw [State.isRunning, ho]; rfl
  · rintro ⟨x, hx, hst, hp⟩
    obtain ⟨y, hy, k⟩ := forall₂_mem_left hcons hx
    have hdown := (h.halted d (hc.quiet.station d ▸ he)).1
    have hstate : y.state = x.state := k.called.resolve_right fun hh => by
      rw [hst, hdown] at hh
      exact nomatch hh.2.2.1
    exact ⟨y, hy, by rw [k.kept]; exact hst, by rw [Slip.isPending, hstate]; exact hp⟩

theorem State.Floor.considerAll (h : s.Floor ex) (hr : s.RecordsSound) (sel : StationId → Bool) : (s.considerAll sel).Floor ex := by
  have (l : List StationId) : ∀ {a : State}, a.RecordsSound → a.Floor ex →
      (l.foldl (fun s st => if sel st then s.consider st else s) a).Floor ex := by
    induction l with
    | nil => exact fun _ h => h
    | cons st l ih =>
      intro a hr h
      rw [List.foldl_cons]
      split
      · exact ih ((State.consider_considered hr st).recordsSound hr) (h.consider hr st)
      · exact ih hr h
  exact this allStations hr h

/-! ## Slips leaving (R78, R128) -/

theorem State.Floor.freeIfDone (h : s.Floor ex) (w : WaveId) : (s.freeIfDone w).Floor ex :=
  h.congr (fun d => by rw [State.freeIfDone_frame]; rfl) (by rw [State.freeIfDone_frame])

/-- The end of an evacuation whose queue is empty leaves no exception for its station. -/
theorem State.Floor.finishEvacuation (h : s.Floor ex) {st : StationId} (hex : ∀ d, ex d → d = st ∨ ex' d) : (s.finishEvacuation st).Floor ex' := by
  unfold State.finishEvacuation
  by_cases hc : ((s.station st).evacuating && (s.queue st).isEmpty) = true
  · rw [if_pos hc]
    refine h.of_eases (t := s.endEvacuation st .evacuated 0) (fun d => ?_) h.busy_le h.called_running fun d he hq => ?_
    · rw [State.endEvacuation, State.station_post]
      exact StationUnit.Eases.modStation ⟨rfl, rfl, id, Nat.le_refl _, fun he => absurd he Bool.false_ne_true⟩ d
    · refine hq.imp (fun hd => (hex d hd).resolve_left fun hh => ?_) id
      subst hh
      rw [State.endEvacuation, State.station_post, State.station_modStation_self] at he
      cases he
  · rw [if_neg hc]
    refine h.of_eases (fun d => .refl _) h.busy_le h.called_running fun d he hq => ?_
    rcases hq with hd | hq
    · rcases hex d hd with rfl | hd
      · refine .inr (State.queue_ne_nil.mp fun hq => hc ?_)
        rw [he, hq]
        rfl
      · exact .inl hd
    · exact .inr hq

theorem State.busyCount_filter_le {f : Slip → Bool} (ht : t.slips = s.slips.filter f) (d : StationId) : t.busyCount d ≤ s.busyCount d := by
  rw [State.busyCount_eq, State.busyCount_eq, ht]
  exact List.Sublist.countP_le List.filter_sublist

theorem State.Floor.dropSlip (h : s.Floor ex) {x : Slip} (ho : s.Only x) : (s.dropSlip x).Floor ex := by
  have hfilter : ({ s.markLeft x.wave x.number with slips := s.slips.filter fun y => y.number != x.number } : State).Floor fun d =>
      ex d ∨ x.isPending = true ∧ d = x.station := by
    refine h.of_eases (fun d => .refl _) (fun d => (State.busyCount_filter_le rfl d).trans (h.busy_le d))
      (fun y hy => h.called_running y (List.mem_of_mem_filter hy)) fun d _ hq => ?_
    rcases hq with hd | ⟨y, hy, hst, hp⟩
    · exact .inl (.inl hd)
    · by_cases hn : y.number = x.number
      · have := ho y hy hn
        subst this
        exact .inl (.inr ⟨hp, hst.symm⟩)
      · exact .inr ⟨y, List.mem_filter.mpr ⟨hy, by simpa using hn⟩, hst, hp⟩
  unfold State.dropSlip
  extract_lets s1 s2
  have h2 : s2.Floor _ := hfilter.freeIfDone x.wave
  split
  · exact h2.finishEvacuation fun d hd => hd.elim .inr fun hd => .inl hd.2
  · next hp => exact h2.of_eases (fun d => .refl _) h2.busy_le h2.called_running fun d _ hq => hq.imp (fun hd => hd.resolve_right fun hh => hp hh.1) id

theorem State.Floor.emptySlip (h : s.Floor ex) {x : Slip} (ho : s.Only x) : (s.emptySlip x).Floor ex := by
  unfold State.emptySlip
  split
  · exact (h.congr (fun _ => rfl) rfl : (s.postWithdrawn x .emptied).Floor ex).dropSlip ho
  · exact h.dropSlip ho

theorem State.Floor.removeMember (h : s.Floor ex) {x : Slip} (ho : s.Only x) (n i : Nat) : (s.removeMember x n i).Floor ex := by
  unfold State.removeMember
  split
  · exact h.emptySlip ho
  · have h1 : (s.modSlip x.number fun _ => { x with members := x.without n i, portions := x.portions - x.portionsOf n i }).Floor ex :=
      h.modSlip fun y hy hn => by rw [ho y hy hn]; rfl
    dsimp only
    split
    · exact h1.congr (fun _ => rfl) rfl
    · exact h1

theorem State.Floor.discardAll (l : List Slip) (h : s.Floor ex) (ho : ∀ x ∈ l, s.Only x) : (l.foldl State.discard s).Floor ex := by
  induction l generalizing s with
  | nil => exact h
  | cons x l ih =>
    rw [List.foldl_cons]
    refine ih ((h.congr (fun _ => rfl) rfl : (s.postWithdrawn x .discarded).Floor ex).dropSlip (ho x List.mem_cons_self)) fun y hy => ?_
    refine (ho y (List.mem_cons_of_mem _ hy)).subset ?_
    rw [State.discard_slips]
    exact fun _ h => List.mem_of_mem_filter h

theorem State.Floor.endDraining (h : s.Floor ex) (hr : s.RecordsSound) : s.endDraining.Floor ex := by
  have ha := h.discardAll s.slips fun x hx => hr.only hx
  unfold State.endDraining
  generalize s.slips.foldl State.discard s = a at ha ⊢
  refine ha.of_view (fun d => ?_) rfl
  rw [State.station_post, State.toClosed, State.station_mapStations]
  exact ⟨rfl, rfl, id, Nat.le_refl _, id⟩

theorem State.Floor.endIfDrained (h : s.Floor ex) (hr : s.RecordsSound) : s.endIfDrained.Floor ex := by
  unfold State.endIfDrained
  split
  · exact h.endDraining hr
  · exact h

/-- A ticket off the table, before the end of draining. -/
theorem State.RecordsSound.untable (hr : s.RecordsSound) (k : Ticket) :
    ({ s with tickets := s.tickets.filter fun u => u.number != k.number }.freeIfDone k.wave).RecordsSound :=
  hr.kept ((Kept.filterTickets s _).trans (.freeIfDone _ _))
    (Stands.trans (t := { s with tickets := s.tickets.filter fun u => u.number != k.number }) rfl (.freeIfDone _ _))

theorem State.Floor.leaveTable (h : s.Floor ex) (hr : s.RecordsSound) (k : Ticket) : (s.leaveTable k).Floor ex := by
  have h1 : ({ s with tickets := s.tickets.filter fun u => u.number != k.number } : State).Floor ex := h.congr (fun _ => rfl) rfl
  exact (h1.freeIfDone k.wave).endIfDrained (hr.untable k)

theorem State.Floor.sealWaves (h : s.Floor ex) (l : List WaveId) : (l.foldl (fun s w => s.sealWave w) s).Floor ex := by
  induction l generalizing s with
  | nil => exact h
  | cons w l ih =>
    refine ih ?_
    show (s.sealWave w).Floor ex
    unfold State.sealWave
    split
    · exact (h.congr (fun _ => rfl) rfl : (s.modWave w _).Floor ex).freeIfDone w
    · exact h

theorem State.Floor.closeService (h : s.Floor ex) (hr : s.RecordsSound) (ho : s.service = .opened) : s.closeService.Floor ex := by
  have ha := h.sealWaves allWaves
  have hra := hr.kept (Kept.sealWaves allWaves s) (Stands.sealWaves allWaves s)
  have hs := (Stands.sealWaves allWaves s).service
  rw [State.closeService_eq]
  generalize allWaves.foldl (fun s w => s.sealWave w) s = a at ha hra hs
  have h1 := hra.drain (hs.trans ho)
  have ha1 : ({ a with service := .draining } : State).Floor ex := ha.congr (fun _ => rfl) rfl
  generalize ({ a with service := .draining } : State) = b at h1 ha1 ⊢
  exact (ha1.congr (fun _ => rfl) rfl : (b.post everyPort _).Floor ex).endIfDrained (h1.kept (.post _ _ _) (.post _ _ _))

/-! ## Lines voided (R40, R67) -/

theorem State.Floor.voidWaiting (h : s.Floor ex) (hr : s.RecordsSound) (n i : Nat) : (s.voidWaiting n i).Floor ex := by
  have h1 : (s.modLine n i fun l => { l with state := .void }).Floor ex := h.congr (fun _ => rfl) rfl
  unfold State.voidWaiting
  split
  · split
    · next k _ =>
      dsimp only
      split
      · next x hx => exact h1.removeMember (hr.only (State.slip?_eq_some hx).2) n i
      · exact h1
    all_goals exact h
  · exact h

theorem State.Floor.voidWaitings (h : s.Floor ex) (hr : s.RecordsSound) (n : Nat) (l : List Nat) : (l.foldl (State.voidWaiting n) s).Floor ex := by
  induction l generalizing s with
  | nil => exact h
  | cons i l ih => exact ih (h.voidWaiting hr n i) (hr.voidWaiting n i)

theorem State.Floor.workOut (h : s.Floor ex) (n : Nat) : (s.workOut n).Floor ex :=
  h.congr (fun d => (Quiet.workOut n s).station d) (State.slips_workOut n s)

theorem State.Floor.shortTicket (h : s.Floor ex) (hr : s.RecordsSound) (c : ItemCode) (k : Ticket) : (s.shortTicket c k).Floor ex := by
  unfold State.shortTicket
  extract_lets s1 s2
  have h1 : s1.Floor ex := h.voidWaitings hr k.number (k.linesHit c)
  have hr1 : s1.RecordsSound := hr.voidWaitings k.number (k.linesHit c)
  clear_value s1
  have h2 : s2.Floor ex := h1.congr (fun _ => rfl) rfl
  have hr2 : s2.RecordsSound := hr1.kept (.post _ _ s1) (.post s1 _ _)
  clear_value s2
  split
  · split
    · rw [State.retire]
      exact (h2.congr (fun _ => rfl) rfl : (s2.post _ _).Floor ex).leaveTable (hr2.kept (.post _ _ s2) (.post s2 _ _)) _
    · exact h2.workOut k.number
  · exact h2

theorem State.Floor.markOut (h : s.Floor ex) (hr : s.RecordsSound) (c : ItemCode) : (s.markOut c).Floor ex := by
  have h0 : (s.setOutBoard (insertCode c s.outBoard)).Floor ex := h.congr (fun _ => rfl) rfl
  have hr0 : (s.setOutBoard (insertCode c s.outBoard)).RecordsSound := hr.beside rfl
  unfold State.markOut
  generalize (if s.inService then s.ticketsHit c else []) = hit
  generalize s.setOutBoard _ = a at h0 hr0
  induction hit generalizing a with
  | nil => exact h0
  | cons k l ih => exact ih _ (h0.shortTicket hr0 c k) (hr0.shortTicket c k)

theorem Voiding.line_floor {v : Voiding} (h : v.state.Floor ex) (hr : v.state.RecordsSound) (n i : Nat) : (v.line n i).state.Floor ex := by
  have h1 : (v.state.modLine n i fun l => { l with state := .void }).Floor ex := h.congr (fun _ => rfl) rfl
  have honly {k : Nat} {x : Slip} (hx : (v.state.modLine n i fun l => { l with state := .void }).slip? k = some x) :
      (v.state.modLine n i fun l => { l with state := .void }).Only x := hr.only (State.slip?_eq_some hx).2
  unfold Voiding.line
  split
  · dsimp only
    split
    · split
      · next hx => exact h1.removeMember (honly hx) n i
      · exact h
    · split
      · next hx => exact h1.removeMember (honly hx) n i
      · exact h
    · split
      · exact h1.modSlip fun _ _ _ => rfl
      · exact h
    all_goals exact h
  · exact h

theorem State.Floor.voidLines (h : s.Floor ex) (hr : s.RecordsSound) (k : Ticket) : (s.voidLines k).state.Floor ex := by
  unfold State.voidLines
  have : ∀ (l : List Nat) (v : Voiding), v.state.RecordsSound → v.state.Floor ex → (l.foldl (Voiding.line k.number) v).state.Floor ex := by
    intro l
    induction l with
    | nil => exact fun v _ h => h
    | cons i l ih => exact fun v hv h => ih _ (v.line_recordsSound hv k.number i) (v.line_floor h hv k.number i)
  exact this _ ⟨s, 0, 0, 0, []⟩ hr h

theorem State.Floor.voidTicket (h : s.Floor ex) (hr : s.RecordsSound) (k : Ticket) : (s.voidTicket k).Floor ex := by
  unfold State.voidTicket
  extract_lets v s1
  have h1 : s1.Floor ex := (h.voidLines hr k).considerAll (hr.voidLines k) _
  have hr1 : s1.RecordsSound := (hr.voidLines k).kept (.considerAll _ _) (Quiet.considerAll _ _).stands
  exact (h1.congr (fun _ => rfl) rfl : (s1.post _ _).Floor ex).leaveTable (hr1.congr (Stands.post s1 _ _) rfl rfl) k

end Sys2Proof.Machine
end

section
/-! SUPPORT. Every step keeps the stations sound (R101, R106, R112, R117, R123, R126 to R129). -/

namespace Sys2Proof.Machine

variable {s t : State} {ex : StationId → Prop}

/-! ## Slips made -/

theorem State.slips_createSlip (st : StationId) (c : ItemCode) (w : WaveId) (k : SlipClass) (fire : Nat) (m : Member) (s : State) :
    (s.createSlip st c w k fire m).slips = s.slips ++ [⟨s.nextSlip, st, c, w, k, .pending, false, fire, m.qty, [m]⟩] := by
  unfold State.createSlip State.giveSlipNumber
  dsimp only
  split <;> rfl

theorem State.station_createSlip (st : StationId) (c : ItemCode) (w : WaveId) (k : SlipClass) (fire : Nat) (m : Member) (s : State) (d : StationId) :
    (s.createSlip st c w k fire m).station d = s.station d := by
  unfold State.createSlip State.giveSlipNumber
  dsimp only
  split <;> rfl

theorem State.Floor.createSlip (h : s.Floor ex) (st : StationId) (c : ItemCode) (w : WaveId) (k : SlipClass) (fire : Nat) (m : Member) :
    (s.createSlip st c w k fire m).Floor ex := by
  refine h.of_eases (fun d => .of_eq (s.station_createSlip st c w k fire m d)) (fun d => ?_) (fun y hy hc => ?_) fun d _ hq => hq.imp id ?_
  · rw [State.busyCount_eq, State.slips_createSlip, List.countP_append, ← State.busyCount_eq]
    simpa [Slip.isPending] using h.busy_le d
  · rw [State.slips_createSlip] at hy
    rcases List.mem_append.mp hy with hy | hy
    · exact h.called_running y hy hc
    · rw [List.mem_singleton.mp hy] at hc
      cases hc
  · rintro ⟨x, hx, hh⟩
    exact ⟨x, by rw [State.slips_createSlip]; exact List.mem_append_left _ hx, hh⟩

theorem State.slips_joinSlip (x : Slip) (fire : Nat) (m : Member) (s : State) : (s.joinSlip x fire m).slips = s.slips.map fun y =>
    if y.number = x.number then { x with members := x.members ++ [m], portions := x.portions + m.qty, fire := min x.fire fire } else y := by
  unfold State.joinSlip
  dsimp only
  split <;> rfl

theorem State.station_joinSlip (x : Slip) (fire : Nat) (m : Member) (s : State) (d : StationId) : (s.joinSlip x fire m).station d = s.station d := by
  unfold State.joinSlip
  dsimp only
  split <;> rfl

theorem State.Floor.joinSlip (h : s.Floor ex) {x : Slip} (ho : s.Only x) (fire : Nat) (m : Member) : (s.joinSlip x fire m).Floor ex := by
  refine h.of_view (fun d => .of_eq (s.station_joinSlip x fire m d)) ?_
  rw [State.slips_joinSlip, List.map_map]
  refine List.map_congr_left fun y hy => ?_
  simp only [Function.comp]
  split
  · next hn => rw [ho y hy hn]; rfl
  · rfl

theorem State.slips_setLate (n i : Nat) (s : State) : (s.setLate n i).slips = s.slips := by
  unfold State.setLate
  dsimp only
  repeat' split
  all_goals rfl

theorem State.station_setLate (n i : Nat) (s : State) (d : StationId) : (s.setLate n i).station d = s.station d := by
  unfold State.setLate
  dsimp only
  repeat' split
  all_goals rfl

theorem State.slips_readied (n i : Nat) (st : StationId) (late : Bool) (s : State) : (s.readied n i st late).slips = s.slips := by
  unfold State.readied
  split
  · exact State.slips_setLate _ _ _
  · rfl

theorem State.station_readied (n i : Nat) (st : StationId) (late : Bool) (s : State) (d : StationId) :
    (s.readied n i st late).station d = s.station d := by
  unfold State.readied
  split
  · exact State.station_setLate _ _ _ d
  · rfl

theorem State.Floor.placeLine (h : s.Floor ex) (hr : s.RecordsSound) (k : Ticket) (i : Nat) (l : Line) : (s.placeLine k i l).1.Floor ex := by
  cases hrt : s.route l.item l.modifiers with
  | none => rw [State.placeLine_of_no_route hrt]; exact h
  | some st =>
    rw [State.placeLine_of_route hrt]
    generalize (s.planned k l.item st).1 = fire
    have ha : (s.readied k.number i st (s.planned k l.item st).2).Floor ex := h.congr (s.station_readied _ _ _ _) (State.slips_readied _ _ _ _ _)
    have hra := hr.kept (Kept.readied k.number i st (s.planned k l.item st).2 s) (Stands.readied k.number i st (s.planned k l.item st).2 s)
    generalize s.readied k.number i st (s.planned k l.item st).2 = a at ha hra
    cases hj : a.joined? k l st fire with
    | some x => exact ha.joinSlip (hra.only (State.mem_queue.mp (State.joined?_mem hj).1).1) fire _
    | none => exact ha.createSlip st l.item k.wave k.slipClass fire _

theorem State.Floor.acceptTicket (h : s.Floor ex) (hr : s.RecordsSound) {a : Submission} (ha : s.checkSubmission a = none) (p : PortId) :
    (s.acceptTicket p a).Floor ex := by
  have h0 : (s.entered p a).Floor ex := by
    unfold State.entered State.giveTicketNumber
    split <;> exact h.congr (fun _ => rfl) rfl
  obtain ⟨h1, h2⟩ := hr.placed ha p (P := fun _ u => u.Floor ex) h0 (fun _ _ _ _ _ h => h) fun u i l hu _ _ h => h.placeLine hu.records _ i l
  rw [State.acceptTicket_eq]
  exact (h2.considerAll h1 _).workOut _

theorem State.station_countRefire (n i : Nat) (s : State) (d : StationId) : (s.countRefire n i).station d = s.station d := by
  unfold State.countRefire
  dsimp only
  repeat' split
  all_goals rfl

theorem State.slips_countRefire (n i : Nat) (s : State) : (s.countRefire n i).slips = s.slips := by
  unfold State.countRefire
  dsimp only
  repeat' split
  all_goals rfl

/-- Line `i` of ticket `k` in a slip of its own at station `st`, its ticket worked out and counted (R74, R75). -/
def State.refired (k : Ticket) (i : Nat) (l : Line) (st : StationId) (s : State) : State :=
  ((((s.modLine k.number i fun l => { l with station := some st }).createSlip st l.item k.wave .priority s.clock
    ⟨k.number, i, l.qty⟩).workOut k.number).countRefire k.number i)

theorem State.refireLine_eq (k : Ticket) (i : Nat) (l : Line) (st : StationId) (s : State) :
    s.refireLine k i l st = (s.refired k i l st).consider st := rfl

theorem State.RecordsSound.refired (hr : s.RecordsSound) {k : Ticket} (hk : k ∈ s.tickets) (hl : s.slipsLeft ≠ 0) (i : Nat) (l : Line)
    (st : StationId) : (s.refired k i l st).RecordsSound := by
  have ho : s.service ≠ .closed := fun hc => by rw [(hr.closed_empty hc).1] at hk; cases hk
  have h0 := hr.kept (.modLine s k.number i fun l => { l with station := some st }) (.modLine s _ _ _)
  have h1 := (h0.createSlip (m := ⟨k.number, i, l.qty⟩) hl ho (hr.tickets_given k hk) st l.item k.wave .priority s.clock).1
  exact h1.kept ((Kept.workOut k.number _).trans (.countRefire k.number i _)) ((Quiet.workOut k.number _).stands.trans (.countRefire k.number i _))

theorem State.Floor.refireLine (h : s.Floor ex) (hr : s.RecordsSound) {k : Ticket} (hk : k ∈ s.tickets) (hl : s.slipsLeft ≠ 0) (i : Nat) (l : Line)
    (st : StationId) : (s.refireLine k i l st).Floor ex := by
  rw [State.refireLine_eq]
  have h1 : (s.modLine k.number i fun l => { l with station := some st }).Floor ex := h.congr (fun _ => rfl) rfl
  have h2 : (s.refired k i l st).Floor ex :=
    ((h1.createSlip st l.item k.wave .priority s.clock ⟨k.number, i, l.qty⟩).workOut k.number).congr (State.station_countRefire _ _ _)
      (State.slips_countRefire _ _ _)
  exact h2.consider (hr.refired hk hl i l st) st

/-! ## Slips returned, stations DOWN (R111, R112, R123) -/

theorem countP_map_le {α : Type} {p : α → Bool} {f : α → α} {l : List α} (h : ∀ a, p (f a) = true → p a = true) : (l.map f).countP p ≤ l.countP p := by
  rw [List.countP_map]
  exact List.countP_mono_left fun x _ hx => h x hx

theorem State.Floor.returnSlip (h : s.Floor ex) (x : Slip) (r : WithdrawReason) : (s.returnSlip x r).Floor ex := by
  refine h.of_eases (fun d => .of_eq ((Quiet.returnSlip x r s).station d)) (fun d => ?_) (fun y hy hc => ?_) fun d _ hq => hq.imp id ?_
  · refine Nat.le_trans ?_ (h.busy_le d)
    rw [State.busyCount_eq, State.busyCount_eq, State.slips_returnSlip]
    refine countP_map_le fun y hy => ?_
    split at hy
    · simp [Slip.isPending] at hy
    · exact hy
  · rw [State.slips_returnSlip] at hy
    obtain ⟨z, hz, rfl⟩ := List.mem_map.mp hy
    split at hc
    · cases hc
    · next hn => rw [if_neg hn]; exact h.called_running z hz hc
  · rintro ⟨y, hy, hst, hp⟩
    refine ⟨_, by rw [State.slips_returnSlip]; exact List.mem_map_of_mem hy, ?_, ?_⟩
    · split <;> exact hst
    · split
      · rfl
      · exact hp

theorem State.Queues.returned {st d : StationId} (h : s.Queues d) (ht : t.slips = s.slips.map (Slip.returned st)) : t.Queues d := by
  obtain ⟨x, hx, hst, hp⟩ := h
  exact ⟨_, ht ▸ List.mem_map_of_mem hx, (x.returned_station st).trans hst, Slip.isPending_returned hp⟩

/-- A running station whose missed takes alone were counted goes DOWN. -/
theorem State.Floor.goDown (h : s.Floor fun _ => False) {a : State} {st : StationId} (hr : a.RecordsSound) (hx : a.slips = s.slips)
    (hne : ∀ d, d ≠ st → a.station d = s.station d) (hself : ∃ m ≤ 3, a.station st = { s.station st with missed := m })
    (hrun : s.isRunning st = true) (cause : StationCause) : (a.goDown st cause).Floor fun _ => False := by
  obtain ⟨m, hm, hself⟩ := hself
  have hstill : (a.station st).evacuating = false := by
    rw [hself]
    refine Bool.eq_false_iff.mpr fun he => ?_
    rw [State.isRunning, (h.halted st he).1] at hrun
    cases hrun
  have hs := State.goDown_station_self hstill cause
  have hn (d : StationId) (hd : d ≠ st) := State.goDown_station_ne hd cause a
  have hslips := hr.slips_goDown st cause
  have hrunt (d : StationId) : (a.goDown st cause).isRunning d = true ↔ s.isRunning d = true ∧ d ≠ st := by
    by_cases hd : d = st
    · subst hd
      rw [State.isRunning, hs]
      simp
    · rw [State.isRunning, hn d hd, hne d hd]
      simp [hd, State.isRunning]
  refine ⟨fun d => ?_, fun d => ?_, fun y hy hc => ?_, fun d hd => ?_, fun d he => ?_, fun d he => ?_⟩
  · by_cases hd : d = st
    · subst hd
      rw [hs, hself]
      exact ⟨(h.fit d).inRange, (h.fit d).lag_le, hm⟩
    · rw [hn d hd, hne d hd]
      exact ⟨(h.fit d).inRange, (h.fit d).lag_le, (h.fit d).missed_le⟩
  · have hconf : ((a.goDown st cause).station d).config = (s.station d).config := by
      by_cases hd : d = st
      · subst hd; rw [hs, hself]
      · rw [hn d hd, hne d hd]
    rw [hconf]
    refine Nat.le_trans ?_ (h.busy_le d)
    rw [State.busyCount_eq, State.busyCount_eq, hslips, ← hx]
    refine countP_map_le fun y hy => ?_
    unfold Slip.returned at hy
    split at hy
    · simp [Slip.isPending] at hy
    · exact hy
  · rw [hslips] at hy
    obtain ⟨x, hxs, rfl⟩ := List.mem_map.mp hy
    obtain ⟨hc, hst⟩ := Slip.returned_isCalled.mp hc
    rw [Slip.returned_station]
    exact (hrunt _).mpr ⟨h.called_running x (hx ▸ hxs) hc, hst⟩
  · obtain ⟨hd, hne'⟩ := (hrunt d).mp hd
    rw [hn d hne', hne d hne']
    exact h.missed_running d hd
  · by_cases hd : d = st
    · subst hd
      rw [hs] at he ⊢
      obtain ⟨_, b, hb, hrb, hbn⟩ := State.newBackup_downed.mp he
      refine ⟨rfl, b, hb, (hrunt b).mpr ⟨?_, hbn⟩⟩
      rwa [State.isRunning, hne b hbn] at hrb
    · rw [hn d hd, hne d hd] at he ⊢
      obtain ⟨he, hb⟩ := (Bool.and_eq_true _ _).mp he
      obtain ⟨hdown, b, hb', hrb⟩ := h.halted d he
      refine ⟨hdown, b, hb', (hrunt b).mpr ⟨hrb, fun hbst => ?_⟩⟩
      subst hbst
      exact of_decide_eq_true hb hb'
  · right
    by_cases hd : d = st
    · subst hd
      rw [hs] at he
      have hq := (State.newBackup_downed.mp he).1
      rw [← State.goDown_queue d cause] at hq
      exact State.queue_ne_nil.mp hq
    · rw [hn d hd, hne d hd] at he
      have hq := (h.queued d ((Bool.and_eq_true _ _).mp he).1).resolve_left id
      have hqa : a.Queues d := by rwa [State.Queues, hx]
      exact hqa.returned hslips

/-- A CALLED slip returned by its take timeout, counted against its station (R111, R112). -/
def State.timedOut (x : Slip) (s : State) : State := (s.returnSlip x .timeout).modStation x.station fun u => { u with missed := u.missed + 1 }

theorem State.station_timedOut_self (x : Slip) (s : State) :
    (s.timedOut x).station x.station = { s.station x.station with missed := (s.station x.station).missed + 1 } := by
  rw [State.timedOut, State.station_modStation_self, (Quiet.returnSlip x .timeout s).station]

theorem State.station_timedOut_ne {d : StationId} {x : Slip} (h : d ≠ x.station) (s : State) : (s.timedOut x).station d = s.station d := by
  rw [State.timedOut, State.station_modStation_ne h, (Quiet.returnSlip x .timeout s).station]

theorem State.slips_timedOut (x : Slip) (s : State) :
    (s.timedOut x).slips = s.slips.map fun y => if y.number = x.number then { y with state := .pending } else y := by
  rw [State.timedOut, State.modStation_slips, State.slips_returnSlip]

/-- The third missed take in a row puts the station DOWN (R112). -/
theorem State.timeoutSlip_eq (x : Slip) (s : State) : s.timeoutSlip x =
    if (s.station x.station).missed = 2 then (s.timedOut x).goDown x.station .missedTakes else s.timedOut x := by
  have h : ((s.timedOut x).station x.station).missed = Config.missedLimit ↔ (s.station x.station).missed = 2 := by
    rw [State.station_timedOut_self]
    show (s.station x.station).missed + 1 = 3 ↔ _
    omega
  exact if_congr h rfl rfl

theorem Kept.timedOut (x : Slip) (s : State) : Kept s (s.timedOut x) := (Kept.returnSlip x .timeout s).trans (.modStation rfl)

theorem Stands.timedOut (x : Slip) (s : State) : Stands s (s.timedOut x) := (Quiet.returnSlip x .timeout s).stands.trans (.modStation _ _ _)

theorem State.Floor.timeoutSlip (h : s.Floor fun _ => False) (hr : s.RecordsSound) {x : Slip} (hx : x ∈ s.slips) (hc : x.isCalled = true) :
    (s.timeoutSlip x).Floor fun _ => False := by
  have h1 := h.returnSlip x .timeout
  have hq := (Quiet.returnSlip x .timeout s).station
  have hrun : (s.returnSlip x .timeout).isRunning x.station = true := by
    rw [State.isRunning_of_state (congrArg _ (hq x.station))]
    exact h.called_running x hx hc
  have hm := h1.missed_running _ hrun
  rw [State.timeoutSlip_eq]
  by_cases h2 : (s.station x.station).missed = 2
  · rw [if_pos h2]
    refine h1.goDown (hr.kept (.timedOut x s) (.timedOut x s)) rfl (fun d hd => ?_) ⟨3, Nat.le_refl 3, ?_⟩ hrun _
    · exact State.station_modStation_ne hd _ _
    · rw [State.station_timedOut_self, hq, h2]
  · rw [if_neg h2]
    rw [hq] at hm
    have hstate (d : StationId) : ((s.timedOut x).station d).state = ((s.returnSlip x .timeout).station d).state := by
      by_cases hd : d = x.station
      · subst hd; rw [State.station_timedOut_self, hq]
      · rw [State.station_timedOut_ne hd, hq]
    have hrunt (d : StationId) := State.isRunning_of_state (hstate d)
    have hfield (d : StationId) : ((s.timedOut x).station d).config = ((s.returnSlip x .timeout).station d).config ∧
        ((s.timedOut x).station d).evacuating = ((s.returnSlip x .timeout).station d).evacuating := by
      by_cases hd : d = x.station
      · subst hd; rw [State.station_timedOut_self, hq]; exact ⟨rfl, rfl⟩
      · rw [State.station_timedOut_ne hd, hq]; exact ⟨rfl, rfl⟩
    refine ⟨fun d => ?_, fun d => ?_, fun y hy hyc => ?_, fun d hd => ?_, fun d he => ?_, fun d he => ?_⟩
    · by_cases hd : d = x.station
      · subst hd
        rw [State.station_timedOut_self]
        exact ⟨(h.fit _).inRange, (h.fit _).lag_le, hm⟩
      · rw [State.station_timedOut_ne hd]
        exact h.fit d
    · rw [(hfield d).1]; exact h1.busy_le d
    · rw [hrunt]; exact h1.called_running y hy hyc
    · by_cases hdx : d = x.station
      · subst hdx
        rw [State.station_timedOut_self]
        show (s.station x.station).missed + 1 < 3
        omega
      · rw [hrunt] at hd
        have := h1.missed_running d hd
        rwa [State.station_timedOut_ne hdx, ← hq]
    · rw [(hfield d).2] at he
      obtain ⟨h3, b, h4, h5⟩ := h1.halted d he
      exact ⟨(hstate d).trans h3, b, by rw [(hfield d).1]; exact h4, (hrunt b).trans h5⟩
    · rw [(hfield d).2] at he
      exact h1.queued d he

end Sys2Proof.Machine
end

section
/-! SUPPORT. Every step keeps the stations sound: second events, bumps, moves, and the step itself (R106, R112, R114 to R118, R127 to R133). -/

namespace Sys2Proof.Machine

variable {s t : State} {ex : StationId → Prop}

/-! ## Second events (R114) -/

theorem Slip.lowered_view (st : StationId) (x : Slip) : (x.lowered st).view = x.view := by
  unfold Slip.lowered
  split
  · next h => split <;> simp [Slip.view, Slip.isPending, Slip.isCalled, h]
  all_goals rfl

theorem State.Floor.lowerTimers (h : s.Floor ex) (st : StationId) : (s.lowerTimers st).Floor ex := by
  refine h.of_view (fun d => .refl _) ?_
  rw [State.lowerTimers_slips, List.map_map]
  exact List.map_congr_left fun x _ => x.lowered_view st

/-- Where the station is not DOWN after a take timeout, only the slip returned and the count of missed takes have changed. -/
theorem State.timeoutSlip_of_not_down {x : Slip} (h : ((s.timeoutSlip x).station x.station).state ≠ .down)
    (he : (s.station x.station).evacuating = false) : s.timeoutSlip x = s.timedOut x := by
  rw [State.timeoutSlip_eq] at h ⊢
  by_cases h2 : (s.station x.station).missed = 2
  · rw [if_pos h2] at h
    have he' : ((s.timedOut x).station x.station).evacuating = false := by rw [State.station_timedOut_self]; exact he
    rw [State.goDown_station_self he'] at h
    exact absurd rfl h
  · rw [if_neg h2]

theorem State.Floor.still (h : s.Floor ex) {st : StationId} (hr : s.isRunning st = true) : (s.station st).evacuating = false := by
  refine Bool.eq_false_iff.mpr fun he => ?_
  rw [State.isRunning, (h.halted st he).1] at hr
  cases hr

/-- Slips to time out one after another: CALLED, of station `st`, each once. -/
def State.TimesOut (s : State) (st : StationId) (l : List Slip) : Prop :=
  (l.map Slip.number).Nodup ∧ ∀ x ∈ l, x ∈ s.slips ∧ x.station = st ∧ x.isCalled = true

theorem State.TimesOut.tail {st : StationId} {x : Slip} {l : List Slip} (h : s.TimesOut st (x :: l)) : (s.timedOut x).TimesOut st l := by
  obtain ⟨hn, hm⟩ := h
  obtain ⟨hx, hl⟩ := List.nodup_cons.mp hn
  refine ⟨hl, fun y hy => ?_⟩
  obtain ⟨hys, hrest⟩ := hm y (List.mem_cons_of_mem _ hy)
  have hne : y.number ≠ x.number := fun he => hx (he ▸ List.mem_map_of_mem hy)
  exact ⟨by rw [State.slips_timedOut]; exact List.mem_map.mpr ⟨y, hys, if_neg hne⟩, hrest⟩

theorem State.RecordsSound.timesOut (hr : s.RecordsSound) (st : StationId) (p : Slip → Bool) :
    s.TimesOut st ((s.busySet st).filter fun x => x.isCalled && p x) := by
  refine ⟨?_, fun x hx => ?_⟩
  · exact List.pairwise_map.mpr (((hr.slips_rise.filter _).filter _).imp Nat.ne_of_lt)
  · obtain ⟨hx, hc⟩ := List.mem_filter.mp hx
    obtain ⟨h1, h2, _⟩ := State.mem_busySet.mp hx
    exact ⟨h1, h2, ((Bool.and_eq_true _ _).mp hc).1⟩

theorem Slip.timedOut_eq (x : Slip) : x.timedOut = (x.isCalled && x.timedOut) := by
  unfold Slip.timedOut Slip.isCalled
  cases x.state <;> simp

theorem State.Floor.timeoutAll {st : StationId} (l : List Slip) (h : s.Floor fun _ => False) (hr : s.RecordsSound) (hl : s.TimesOut st l) :
    (s.timeoutAll st l).Floor fun _ => False := by
  induction l generalizing s with
  | nil => exact h
  | cons x l ih =>
    obtain ⟨hx, hst, hc⟩ := hl.2 x List.mem_cons_self
    have h1 := h.timeoutSlip hr hx hc
    unfold State.timeoutAll
    dsimp only
    split
    · exact h1
    · next hd =>
      rw [State.timeoutSlip_of_not_down (hst ▸ hd) (h.still (h.called_running x hx hc))] at h1 ⊢
      exact ih h1 (hr.kept (.timedOut x s) (.timedOut x s)) hl.tail

theorem State.RecordsSound.lowerTimers (hr : s.RecordsSound) (st : StationId) : (s.lowerTimers st).RecordsSound :=
  hr.kept (.lowerTimers st s) (.lowerTimers s st)

theorem State.Floor.secondAt (h : s.Floor fun _ => False) (hr : s.RecordsSound) (st : StationId) : (s.secondAt st).Floor fun _ => False := by
  unfold State.secondAt
  extract_lets s1
  split
  · have h1 : s1.Floor fun _ => False := h.lowerTimers st
    have hr1 : s1.RecordsSound := hr.lowerTimers st
    have hl : s1.TimesOut st ((s1.busySet st).filter Slip.timedOut) := by
      have := hr1.timesOut st Slip.timedOut
      rwa [show (fun x : Slip => x.isCalled && x.timedOut) = Slip.timedOut from funext fun x => x.timedOut_eq.symm] at this
    exact (h1.timeoutAll _ hr1 hl).consider (hr1.kept (.timeoutAll st _ s1) (.timeoutAll s1 st _)) st
  · exact h

/-! ## TAKE, BUMP and FORCE BUMP (R109, R116 to R118) -/

theorem StationUnit.Eases.clearMissed (st d : StationId) (s : State) : (s.station d).Eases ((s.clearMissed st).station d) :=
  StationUnit.Eases.modStation ⟨rfl, rfl, id, Nat.zero_le _, id⟩ d

theorem lagAfter_le (lag : Nat) (z : Int) : lagAfter lag z ≤ 600 := by
  unfold lagAfter clampInt
  omega

theorem StationUnit.Eases.learn (st : StationId) (z : Int) (d : StationId) (s : State) : (s.station d).Eases ((s.learn st z).station d) :=
  StationUnit.Eases.modStation ⟨rfl, rfl, fun _ => lagAfter_le _ z, Nat.le_refl _, id⟩ d

theorem State.Floor.takeSlip (h : s.Floor ex) {x : Slip} (ho : s.Only x) (hc : x.isCalled = true) (time : Nat) : (s.takeSlip x time).Floor ex := by
  rw [State.takeSlip_eq]
  have h1 : (s.restate x (.taken time)).Floor ex := by
    refine h.of_eases (fun d => .of_eq ((Quiet.restate x _ s).station d)) (fun d => ?_) (fun y hy hyc => ?_) fun d _ hq => hq.imp id ?_
    · refine Nat.le_trans (Nat.le_of_eq ?_) (h.busy_le d)
      rw [State.busyCount_eq, State.busyCount_eq, State.slips_restate, List.countP_map]
      refine List.countP_congr fun y hy => ?_
      simp only [Function.comp]
      split
      · next hn =>
        rw [ho y hy hn, Slip.isPending_of_called hc]
        exact Iff.rfl
      · exact Iff.rfl
    · rcases State.mem_restate ho hy with ⟨rfl, _⟩ | ⟨hy, _⟩
      · cases hyc
      · exact h.called_running y hy hyc
    · rintro ⟨y, hy, hst, hp⟩
      refine ⟨y, State.restate_mem_ne _ hy fun hn => ?_, hst, hp⟩
      rw [ho y hy hn, Slip.isPending_of_called hc] at hp
      cases hp
  exact h1.of_view (StationUnit.Eases.clearMissed x.station · _) rfl

theorem State.Floor.finishSlip (h : s.Floor ex) {x : Slip} (ho : s.Only x) : (s.finishSlip x).Floor ex := by
  have hq : Quiet s ((s.setMembers x.members (.ready s.clock)).workOutAll x.members) := (Quiet.setMembers _ _ s).trans (.workOutAll _ _)
  have hx : ((s.setMembers x.members (.ready s.clock)).workOutAll x.members).slips = s.slips := by simp
  exact (h.congr hq.station hx).dropSlip (ho.congr hx)

theorem State.RecordsSound.finishSlip (hr : s.RecordsSound) (x : Slip) : (s.finishSlip x).RecordsSound := hr.kept (.finishSlip x s) (.finishSlip s x)

theorem State.Floor.bumpSlip (h : s.Floor ex) (hr : s.RecordsSound) {x : Slip} (hx : x ∈ s.slips) (time : Nat) : (s.bumpSlip x time).Floor ex := by
  unfold State.bumpSlip
  have h1 : (s.clearMissed x.station).Floor ex := h.of_view (StationUnit.Eases.clearMissed x.station · s) rfl
  have h2 : ((s.clearMissed x.station).learn x.station (s.sampleOf x time)).Floor ex := h1.of_view (StationUnit.Eases.learn x.station _ · _) rfl
  have hr2 : ((s.clearMissed x.station).learn x.station (s.sampleOf x time)).RecordsSound := hr.congr rfl rfl rfl
  exact (h2.finishSlip (hr2.only hx)).consider (hr2.finishSlip x) x.station

theorem State.Floor.forceSlip (h : s.Floor ex) (hr : s.RecordsSound) {x : Slip} (hx : x ∈ s.slips) : (s.forceSlip x).Floor ex := by
  unfold State.forceSlip
  extract_lets s1 s2 s3
  have h1 : s1.Floor ex := h.of_view (StationUnit.Eases.clearMissed x.station · s) rfl
  have h2 : s2.Floor ex ∧ s2.RecordsSound ∧ s2.slips = s.slips := by
    simp only [s2]
    split
    · exact ⟨h1.congr (fun _ => rfl) rfl, hr.congr rfl rfl rfl, rfl⟩
    · exact ⟨h1, hr.congr rfl rfl rfl, rfl⟩
  obtain ⟨h2, hr2, hx2⟩ := h2
  have h3 : s3.Floor ex := h2.finishSlip (hr2.only (hx2 ▸ hx))
  split
  · exact h3
  · exact h3.consider (hr2.finishSlip x) x.station

/-! ## Waves moved and evacuations (R26, R30, R127, R133) -/

theorem State.Floor.refireTime (h : s.Floor ex) (x : Slip) (fire : Nat) : (s.refireTime x fire).Floor ex := by
  have h1 : (s.modSlip x.number fun y => { y with fire := fire }).Floor ex := h.modSlip fun _ _ _ => rfl
  rw [State.refireTime_eq]
  split
  · exact h1.congr (fun _ => rfl) rfl
  · exact h1

theorem State.Floor.fireWave (h : s.Floor ex) (hr : s.RecordsSound) (w : WaveId) : (s.fireWave w).Floor ex := by
  have (l : List Slip) (fire : Nat) : ∀ {a : State}, a.RecordsSound → a.Floor ex →
      (l.foldl (fun s x => s.refireTime x fire) a).RecordsSound ∧ (l.foldl (fun s x => s.refireTime x fire) a).Floor ex := by
    induction l with
    | nil => exact fun hr h => ⟨hr, h⟩
    | cons x l ih => exact fun hr h => ih (hr.kept (.refireTime x fire _) (.refireTime _ x fire)) (h.refireTime x fire)
  obtain ⟨h1, h2⟩ := this (s.toFire w) s.clock hr h
  exact h2.considerAll h1 _

theorem State.Floor.reachSlip (h : s.Floor ex) (hr : s.RecordsSound) (w : WaveId) (d : Delay) (n : Nat) (left : Bool) (rest : List (Nat × Bool)) :
    (s.reachSlip w d n left rest).Floor ex := by
  have hw (f : Wave → Wave) : (s.modWave w f).Floor ex := h.congr (fun _ => rfl) rfl
  have hrw (f : Wave → Wave) : (s.modWave w f).RecordsSound := hr.congr rfl rfl rfl
  unfold State.reachSlip
  split
  · exact hw _
  · next x _ =>
    dsimp only
    split
    · exact (hw _).consider (hrw _) _
    · exact ((hw _).refireTime x _).consider ((hrw _).kept (.refireTime x _ _) (.refireTime _ x _)) _

/-- Slip `x` moved from station `st` to backup `b` with its lines, before the backup considers (R127). -/
def State.moved (st b : StationId) (x : Slip) (s : State) : State :=
  x.members.foldl (fun s m => s.modLine m.ticket m.line fun l => { l with station := some b })
    (((if x.previewed then s.post (s.isBound st) (.withdrawn x.number st x.item .moved (some b)) else s).modSlip x.number fun y =>
      { y with station := b, previewed := false, fire := s.movedFire b x }).unlist x.wave x.number)

theorem State.moveSlip_eq (st b : StationId) (x : Slip) (s : State) :
    s.moveSlip st b x = ((s.moved st b x).consider b).finishEvacuation st := rfl

theorem Kept.moved (st b : StationId) (x : Slip) (s : State) : Kept s (s.moved st b x) := by
  unfold State.moved
  refine .trans ?_ (Kept.foldl (fun s (m : Member) => .modLine s m.ticket m.line _) x.members _)
  refine .trans ?_ (.unlist _ _ _)
  refine .trans (t := if x.previewed then s.post (s.isBound st) (.withdrawn x.number st x.item .moved (some b)) else s) ?_ ?mod
  case mod => exact .modSlip (fun _ h => h) fun _ _ _ _ h => h
  split
  · exact .post _ _ s
  · exact .refl s

theorem State.foldl_modLine_frame (ms : List Member) (f : Line → Line) (s : State) :
    ms.foldl (fun s m => s.modLine m.ticket m.line f) s = { s with tickets := (ms.foldl (fun s m => s.modLine m.ticket m.line f) s).tickets } := by
  induction ms generalizing s with
  | nil => rfl
  | cons m ms ih =>
    rw [List.foldl_cons, ih]
    rfl

/-- What a move writes before the backup considers: the slip, its wave's delay list, its lines, a notice. -/
theorem State.moved_frame (st b : StationId) (x : Slip) (s : State) : s.moved st b x = { s with
    waves := (s.moved st b x).waves, tickets := (s.moved st b x).tickets, ports := (s.moved st b x).ports
    slips := s.slips.map fun y => if y.number = x.number then { y with station := b, previewed := false, fire := s.movedFire b x } else y } := by
  unfold State.moved
  rw [State.foldl_modLine_frame]
  split <;> rfl

theorem State.slips_moved (st b : StationId) (x : Slip) (s : State) : (s.moved st b x).slips =
    s.slips.map fun y => if y.number = x.number then { y with station := b, previewed := false, fire := s.movedFire b x } else y := by
  rw [State.moved_frame]

theorem State.station_moved (st b : StationId) (x : Slip) (s : State) (d : StationId) : (s.moved st b x).station d = s.station d := by
  rw [State.moved_frame]
  rfl

theorem Stands.moved (st b : StationId) (x : Slip) (s : State) : Stands s (s.moved st b x) := by
  rw [Stands, State.moved_frame]

theorem State.Floor.moveSlip (h : s.Floor fun _ => False) (hr : s.RecordsSound) {st b : StationId} {x : Slip} (hx : x ∈ s.queue st) :
    (s.moveSlip st b x).Floor fun _ => False := by
  obtain ⟨hxs, hst, hp⟩ := State.mem_queue.mp hx
  have ho := hr.only hxs
  have hpend (y : Slip) (hy : y ∈ s.slips) (hn : y.number = x.number) : y.isPending = true ∧ y.isCalled = false := by
    rw [ho y hy hn]
    refine ⟨hp, Bool.eq_false_iff.mpr fun hc => ?_⟩
    rw [Slip.isPending_of_called hc] at hp
    cases hp
  have h1 : (s.moved st b x).Floor fun d => d = st := by
    refine h.of_eases (fun d => .of_eq (s.station_moved st b x d)) (fun d => ?_) (fun y hy hc => ?_) fun d _ hq => ?_
    · refine Nat.le_trans ?_ (h.busy_le d)
      rw [State.busyCount_eq, State.busyCount_eq, State.slips_moved, List.countP_map]
      refine List.countP_mono_left fun y hy hyb => ?_
      simp only [Function.comp] at hyb
      split at hyb
      · next hn =>
        have : y.isPending = false := by simpa [Slip.isPending] using ((Bool.and_eq_true _ _).mp hyb).2
        rw [(hpend y hy hn).1] at this
        cases this
      · exact hyb
    · rw [State.slips_moved] at hy
      obtain ⟨z, hz, rfl⟩ := List.mem_map.mp hy
      split at hc
      · next hn =>
        have : z.isCalled = true := hc
        rw [(hpend z hz hn).2] at this
        cases this
      · next hn => rw [if_neg hn]; exact h.called_running z hz hc
    · obtain ⟨y, hy, hyst, hyp⟩ := hq.resolve_left id
      by_cases hn : y.number = x.number
      · rw [ho y hy hn, hst] at hyst
        exact .inl hyst.symm
      · exact .inr ⟨y, by rw [State.slips_moved]; exact List.mem_map.mpr ⟨y, hy, if_neg hn⟩, hyst, hyp⟩
  rw [State.moveSlip_eq]
  exact (h1.consider (hr.kept (.moved st b x s) (.moved st b x s)) b).finishEvacuation fun d hd => .inl hd

/-- A station whose state alone went from running to running, or that reopens. -/
theorem State.Floor.opened (h : s.Floor ex) {st : StationId} {v : StationUnit} (hst : t.station st = v) (hne : ∀ d, d ≠ st → t.station d = s.station d)
    (hx : t.slips = s.slips) (hv : v.Fit st) (hc : v.config = (s.station st).config) (hr : t.isRunning st = true) (hm : v.missed < 3)
    (he : v.evacuating = false) : t.Floor ex := by
  have hrun (d : StationId) (hd : s.isRunning d = true) : t.isRunning d = true := by
    by_cases hds : d = st
    · rw [hds, hr]
    · rwa [State.isRunning, hne d hds]
  refine ⟨fun d => ?_, fun d => ?_, fun y hy hyc => hrun _ (h.called_running y (hx ▸ hy) hyc), fun d hd => ?_, fun d hd => ?_, fun d hd => ?_⟩ <;>
    by_cases hds : d = st
  · subst hds; rw [hst]; exact hv
  · rw [hne d hds]; exact h.fit d
  · subst hds; rw [hst, hc, State.busyCount, State.busySet, hx]; exact h.busy_le d
  · rw [hne d hds, State.busyCount, State.busySet, hx]; exact h.busy_le d
  · subst hds; rw [hst]; exact hm
  · rw [hne d hds]
    rw [State.isRunning, hne d hds] at hd
    exact h.missed_running d hd
  · subst hds; rw [hst, he] at hd; cases hd
  · rw [hne d hds] at hd ⊢
    obtain ⟨h1, b, h2, h3⟩ := h.halted d hd
    exact ⟨h1, b, h2, hrun b h3⟩
  · subst hds; rw [hst, he] at hd; cases hd
  · rw [hne d hds] at hd
    exact (h.queued d hd).imp id fun hq => by rwa [State.Queues, hx]

theorem State.Floor.reopen (h : s.Floor ex) (hr : s.RecordsSound) (st : StationId) : (s.reopen st).Floor ex := by
  have hat := AtStations.reopened st s
  have h1 : (s.reopened st).Floor ex :=
    h.opened (s.reopened_station_self st) (fun d hd => State.reopened_station_ne hd s) hat.slips
      ⟨(h.fit st).inRange, (h.fit st).lag_le, Nat.zero_le 3⟩ rfl (by rw [State.isRunning, State.reopened_station_self]; rfl) (Nat.zero_lt_succ 2) rfl
  rw [State.reopen_eq]
  exact h1.consider (hr.kept (.reopened st s) hat.stands) st

theorem State.Floor.announceStation (h : s.Floor ex) {st : StationId} (hr : s.isRunning st = true) {k : StationState} (hk : k = .opened ∨ k = .paused)
    (cause : StationCause) : (s.announceStation st k cause).Floor ex := by
  refine h.opened (t := s.announceStation st k cause) (v := { s.station st with state := k }) ?_ (fun d hd => ?_) rfl ⟨(h.fit st).inRange, (h.fit st).lag_le, (h.fit st).missed_le⟩ rfl
    ?_ (h.missed_running st hr) (h.still hr)
  · rw [State.announceStation, State.station_post, State.station_modStation_self]
  · rw [State.announceStation, State.station_post, State.station_modStation_ne hd]
  · rw [State.isRunning, State.announceStation, State.station_post, State.station_modStation_self]
    rcases hk with rfl | rfl <;> rfl

end Sys2Proof.Machine
end

section
/-! SUPPORT. The step on the stations: every event keeps them within their slots and ranges. -/

namespace Sys2Proof.Machine

variable {s t : State}

/-- With no slip on the floor and no evacuation, the units alone are asked. -/
theorem State.Floor.of_empty {ex : StationId → Prop} (hx : t.slips = []) (hf : ∀ d, (t.station d).Fit d)
    (hm : ∀ d, t.isRunning d = true → (t.station d).missed < 3) (he : ∀ d, (t.station d).evacuating = false) : t.Floor ex where
  fit := hf
  busy_le d := by rw [State.busyCount, State.busySet, hx]; exact Nat.zero_le _
  called_running := by simp [hx]
  missed_running := hm
  halted d hd := by rw [he d] at hd; cases hd
  queued d hd := by rw [he d] at hd; cases hd

theorem stationAtStart_fit {d : StationId} {c : StationConfig} (h : c.InRange d) (k : StationState) : (stationAtStart c k).Fit d :=
  ⟨h, h.initialLag, Nat.zero_le 3⟩

/-- Every station as at the start of a service or after a reset, its configuration in range. -/
theorem State.Floor.start {ex : StationId → Prop} (hx : t.slips = []) (h : ∀ d, ∃ c k, t.station d = stationAtStart c k ∧ c.InRange d) : t.Floor ex := by
  refine .of_empty hx (fun d => ?_) (fun d _ => ?_) fun d => ?_ <;> obtain ⟨c, k, hd, hc⟩ := h d <;> rw [hd]
  · exact stationAtStart_fit hc k
  · exact Nat.zero_lt_succ 2
  · rfl

theorem StationConfig.clamp_inRange (st : StationId) (c : StationConfig) : (c.clamp st).InRange st := by
  have hb : (c.clamp st).backup ≠ some st := by
    show (if c.backup = some st then none else c.backup) ≠ some st
    split
    · exact nofun
    · assumption
  refine ⟨?_, ?_, ?_, ?_, ?_, ?_, ?_, hb⟩ <;> simp only [StationConfig.clamp, clampTo] <;> omega

theorem stationConfigAtPowerOn_inRange (d : StationId) : stationConfigAtPowerOn.InRange d :=
  ⟨by decide, by decide, by decide, by decide, by decide, by decide, by decide, nofun⟩

theorem State.Floor.setStation {ex : StationId → Prop} (h : s.Floor fun _ => False) (hx : s.slips = []) (st : StationId) (g : StationConfig) (k : StationState) :
    (s.modStation st fun _ => stationAtStart (g.clamp st) k).Floor ex := by
  have he (d : StationId) : (s.station d).evacuating = false := Bool.eq_false_iff.mpr fun he => by
    obtain ⟨x, hxs, _⟩ := (h.queued d he).resolve_left id
    rw [hx] at hxs
    cases hxs
  refine .of_empty hx (fun d => ?_) (fun d hd => ?_) fun d => ?_ <;> by_cases hds : d = st
  · subst hds
    rw [State.station_modStation_self]
    exact stationAtStart_fit (g.clamp_inRange d) k
  · rw [State.station_modStation_ne hds]; exact h.fit d
  · subst hds
    rw [State.station_modStation_self]
    exact Nat.zero_lt_succ 2
  · rw [State.isRunning, State.station_modStation_ne hds] at hd
    rw [State.station_modStation_ne hds]
    exact h.missed_running d hd
  · subst hds
    rw [State.station_modStation_self]
    rfl
  · rw [State.station_modStation_ne hds]; exact he d

theorem Deed.floor {p : PortId} {u : State} {c : Cmd} (k : Deed p s c u) (hr : s.RecordsSound) (h : s.Floor fun _ => False) :
    u.Floor fun _ => False := by
  cases k with
  | nothing => exact h
  | openService hs =>
    refine .start (hr.closed_empty hs).2 fun d => ?_
    exact ⟨_, _, s.openService_station d, (h.fit d).inRange⟩
  | closeService hs => exact h.closeService hr hs
  | resetService =>
    refine .start rfl fun d => ?_
    exact ⟨_, _, s.resetService_station p d, (h.fit d).inRange⟩
  | sealWave w => exact h.sealWaves [w]
  | releaseWave w => exact (h.congr (fun _ => rfl) rfl : (s.modWave w _).Floor _).considerAll (hr.congr rfl rfl rfl) _
  | fireWave w => exact h.fireWave hr w
  | markOut c => exact h.markOut hr c
  | submitTicket a ha => exact h.acceptTicket hr ha p
  | voidTicket n k => exact h.voidTicket hr k
  | pickup n k => exact h.leaveTable hr k
  | refire n i k l st hk _ _ _ hn => exact h.refireLine hr (State.ticket?_eq_some hk).2 hn i l st
  | setStation st g hs => exact h.setStation (hr.closed_empty hs).2 st g _
  | pauseStation st _ ho => exact h.announceStation (by rw [State.isRunning, ho]; rfl) (.inr rfl) _
  | resumeStation st _ ho =>
    exact (h.announceStation (by rw [State.isRunning, ho]; rfl) (.inl rfl) _ : (s.announceStation st .opened .resumed).Floor _).consider
      (hr.congr rfl rfl rfl) st
  | stationDown st _ hrun => exact h.goDown hr rfl (fun _ _ => rfl) ⟨_, (h.fit st).missed_le, rfl⟩ hrun _
  | stationOpen st => exact h.reopen hr st
  | take n x time k hx hc =>
    exact h.takeSlip (hr.only (State.slip?_eq_some hx).2) (Slip.isCalled_iff.mpr ⟨_, _, hc⟩) time
  | bump n x time hx => exact h.bumpSlip hr (State.slip?_eq_some hx).2 time
  | forceBump n x hx => exact h.forceSlip hr (State.slip?_eq_some hx).2
  | _ => exact h.congr (fun _ => rfl) rfl

theorem Framed.floor {c : Cmd} {p : PortId} (k : Framed c p s t) (hr : s.RecordsSound) (h : s.Floor fun _ => False) : t.Floor fun _ => False := by
  cases k with
  | owned _ ho =>
    obtain ⟨u, hu, ⟨st, d, rfl⟩ | ⟨_, rfl, _⟩⟩ := ho
    · exact (hu.floor (hr.handed c p) (h.congr (fun _ => rfl) rfl)).congr (fun _ => rfl) rfl
    · exact hu.floor (hr.handed c p) (h.congr (fun _ => rfl) rfl)
  | _ => exact h.congr (fun _ => rfl) rfl

/-- Second events delivered or handled touch no more of the stations than their counts. -/
theorem State.Floor.secondExpires {ex : StationId → Prop} (h : s.Floor ex) : s.secondExpires.Floor ex := by
  unfold State.secondExpires
  split
  · refine h.of_view (fun d => ?_) rfl
    rw [State.station_mapStations]
    exact ⟨rfl, rfl, id, Nat.le_refl _, id⟩
  · exact h

theorem State.Floor.refclkCycle {ex : StationId → Prop} (h : s.Floor ex) : s.refclkCycle.Floor ex := by
  have h0 : (s.mapPorts fun _ u => u.stretchCycle s.inService).Floor ex := h.congr (fun _ => rfl) rfl
  have h1 : (s.mapPorts fun _ u => u.stretchCycle s.inService).secondCycle.Floor ex := by
    unfold State.secondCycle
    split
    · split
      · exact h0.congr (fun _ => rfl) rfl
      · exact h0.secondExpires
    · exact h0
  unfold State.refclkCycle State.tenthCycle
  generalize State.secondCycle _ = a at h1
  split <;> exact h1.congr (fun _ => rfl) rfl

theorem Happens.floor (k : Happens s t) (hr : s.RecordsSound) (h : s.Floor fun _ => False) : t.Floor fun _ => False := by
  cases k with
  | frame c p k => exact k.floor hr h
  | powerOn straps =>
    refine .start rfl fun d => ⟨stationConfigAtPowerOn, .unused, ?_, stationConfigAtPowerOn_inRange d⟩
    show (Vector.replicate 12 (stationAtStart stationConfigAtPowerOn .unused))[d] = _
    simp
  | resetPin straps =>
    refine .start rfl fun d => ⟨(s.station d).config, (stationAtPin straps (s.station d)).state, ?_, (h.fit d).inRange⟩
    show (Vector.ofFn fun st => stationAtPin straps (s.station st))[d] = _
    rw [Fin.getElem_fin, Vector.getElem_ofFn]
    rfl
  | second => exact h.secondExpires
  | stationSecond st =>
    have h1 : (s.modStation st fun u => { u with due := u.due - 1 }).Floor fun _ => False :=
      h.of_view (StationUnit.Eases.modStation ⟨rfl, rfl, id, Nat.le_refl _, id⟩ ·) rfl
    exact h1.secondAt (hr.congr rfl rfl rfl) st
  | takeTimeout n x hx hc => exact h.timeoutSlip hr (State.slip?_eq_some hx).2 hc
  | reach w d e rest _ _ ht =>
    have h1 : (s.reachSlip w d e.1 e.2 rest).Floor fun _ => False := h.reachSlip hr w d e.1 e.2 rest
    rcases ht with rfl | ⟨d', _, rfl⟩
    · exact h1
    · exact h1.congr (fun _ => rfl) rfl
  | evacuationMove st b x rest _ _ hq => exact h.moveSlip hr (hq ▸ List.mem_cons_self)
  | cycle => exact h.refclkCycle
  | _ => exact h.congr (fun _ => rfl) rfl

/-- Settles O8: every event keeps each station's unit in range, its slots, its CALLED slips at running stations, and its evacuation. -/
theorem stepKeepsStationsSound : Obligations.StepKeepsStationsSound := by
  intro s t hr h hstep
  refine ⟨stepKeepsRecordsSound s t hr hstep, ?_⟩
  obtain ⟨rest, k⟩ := step_happens hstep
  exact State.stationsSound_iff.mpr (k.floor (hr.beside rfl) ((State.stationsSound_iff.mp h).congr (fun _ => rfl) rfl))

end Sys2Proof.Machine
end

section
/-! SUPPORT. The waves and their delay lists sound (R7, R16, R20, R22, R25 to R29) through every operation. -/

namespace Sys2Proof.Machine

variable {s t : State} {ex ex' : WaveId → Prop}

/-! ## The invariant, but for waves just emptied -/

/-- The waves sound, but for SEALED waves that `ex` names, which may be without work within an event. -/
structure State.WavesBut (ex : WaveId → Prop) (s : State) : Prop where
  free : ∀ v, (s.wave v).state = .free → s.ticketCount v = 0 ∧ s.slipCount v = 0 ∧ (s.wave v).delay = none
  sealed : ∀ v, (s.wave v).state = .sealed → s.ticketCount v = 0 → s.slipCount v = 0 → ex v
  draining : s.service = .draining → ∀ v, (s.wave v).state ≠ .opened
  rising : ∀ v d, (s.wave v).delay = some d → d.slips.Pairwise fun e f => e.1 < f.1
  listed : ∀ v d, (s.wave v).delay = some d → ∀ n, (n, false) ∈ d.slips → s.Awaits v n

theorem State.wavesSound_iff : s.WavesSound ↔ s.WavesBut fun _ => False := by
  constructor
  · exact fun h => ⟨h.free, fun v hv h1 h2 => h.sealed v hv ⟨h1, h2⟩, h.draining, fun v d hd => (h.listed v d hd).1, fun v d hd => (h.listed v d hd).2⟩
  · exact fun h => ⟨h.free, fun v hv hh => h.sealed v hv hh.1 hh.2, h.draining, fun v d hd => ⟨h.rising v d hd, h.listed v d hd⟩⟩

/-- A delay list shortened and marked, in its order: no slip on it that was not, none without its mark that had one. -/
structure Wanes (l m : List (Nat × Bool)) : Prop where
  order : (m.map Prod.fst).Sublist (l.map Prod.fst)
  unmarked : ∀ n, (n, false) ∈ m → (n, false) ∈ l

theorem Wanes.refl (l : List (Nat × Bool)) : Wanes l l := ⟨.refl _, fun _ h => h⟩

theorem Wanes.marked (m : Nat → Bool) (l : List (Nat × Bool)) : Wanes l (Machine.marked m l) := by
  refine ⟨?_, fun n hn => ?_⟩
  · rw [Machine.marked, List.map_map]
    exact .refl _
  · obtain ⟨e, he, hen⟩ := List.mem_map.mp hn
    obtain ⟨rfl, h2⟩ := Prod.mk.inj hen
    rw [Bool.or_eq_false_iff] at h2
    rwa [← h2.1]

theorem Wanes.sublist {l m : List (Nat × Bool)} (h : m.Sublist l) : Wanes l m := ⟨h.map _, fun _ hn => h.subset hn⟩

theorem Wanes.rising {l m : List (Nat × Bool)} (h : Wanes l m) (hl : l.Pairwise fun e f => e.1 < f.1) : m.Pairwise fun e f => e.1 < f.1 := by
  have := (List.pairwise_map (f := Prod.fst) (R := fun a b : Nat => a < b)).mpr hl
  exact List.pairwise_map.mp (this.sublist h.order)

/-- A wave that kept its state, its delay list shortened or marked, or ended. -/
structure Wave.Wanes (v w : Wave) : Prop where
  state : w.state = v.state
  delay : ∀ e, w.delay = some e → ∃ d, v.delay = some d ∧ Machine.Wanes d.slips e.slips

theorem Wave.Wanes.refl (v : Wave) : v.Wanes v := ⟨rfl, fun e he => ⟨e, he, .refl _⟩⟩

theorem Wave.Wanes.of_eq {v w : Wave} (h : w = v) : v.Wanes w := h ▸ .refl v

theorem Wave.Wanes.marked (m : Nat → Bool) (v : Wave) : v.Wanes (v.marked m) := by
  refine ⟨rfl, fun e he => ?_⟩
  obtain ⟨d, hd, rfl⟩ := Option.map_eq_some_iff.mp he
  exact ⟨d, hd, .marked m _⟩

/-- Where waves wane, the work left and the slips still listed have to be looked at. -/
theorem State.WavesBut.of_wanes (h : s.WavesBut ex) (hw : ∀ v, (s.wave v).Wanes (t.wave v)) (hs : t.service = .draining → s.service = .draining)
    (hfree : ∀ v, (s.wave v).state = .free → s.ticketCount v = 0 → s.slipCount v = 0 → t.ticketCount v = 0 ∧ t.slipCount v = 0)
    (hseal : ∀ v, (s.wave v).state = .sealed → t.ticketCount v = 0 → t.slipCount v = 0 → ex' v ∨ s.ticketCount v = 0 ∧ s.slipCount v = 0 ∧ (ex v → ex' v))
    (hlist : ∀ v e n, (t.wave v).delay = some e → (n, false) ∈ e.slips → s.Awaits v n → t.Awaits v n) : t.WavesBut ex' where
  free v hv := by
    rw [(hw v).state] at hv
    obtain ⟨h1, h2, h3⟩ := h.free v hv
    obtain ⟨k1, k2⟩ := hfree v hv h1 h2
    refine ⟨k1, k2, ?_⟩
    cases hd : (t.wave v).delay with
    | none => rfl
    | some e =>
      obtain ⟨d, hd', _⟩ := (hw v).delay e hd
      rw [h3] at hd'
      cases hd'
  sealed v hv h1 h2 := by
    rw [(hw v).state] at hv
    rcases hseal v hv h1 h2 with k | ⟨k1, k2, k⟩
    · exact k
    · exact k (h.sealed v hv k1 k2)
  draining hd v := by
    rw [(hw v).state]
    exact h.draining (hs hd) v
  rising v e he := by
    obtain ⟨d, hd, hde⟩ := (hw v).delay e he
    exact hde.rising (h.rising v d hd)
  listed v e he n hn := by
    obtain ⟨d, hd, hde⟩ := (hw v).delay e he
    exact hlist v e n he hn (h.listed v d hd n (hde.unmarked n hn))

/-- What the invariant reads of a slip. -/
def Slip.waveView (x : Slip) : Nat × WaveId × Bool := (x.number, x.wave, x.isPending)

theorem State.Awaits.of_view {v : WaveId} {n : Nat} (h : s.Awaits v n) (hx : t.slips.map Slip.waveView = s.slips.map Slip.waveView) : t.Awaits v n := by
  obtain ⟨x, hxs, hn, hw, hp⟩ := h
  obtain ⟨y, hy, hxy⟩ := List.mem_map.mp (hx ▸ List.mem_map_of_mem (f := Slip.waveView) hxs)
  obtain ⟨h1, h2, h3⟩ : y.number = x.number ∧ y.wave = x.wave ∧ y.isPending = x.isPending := by simpa [Slip.waveView] using hxy
  exact ⟨y, hy, h1.trans hn, h2.trans hw, h3.trans hp⟩

theorem State.slipCount_eq (s : State) (v : WaveId) : s.slipCount v = (s.slips.map Slip.wave).countP fun w => w == v := by
  rw [State.slipCount, List.countP_map, List.countP_eq_length_filter]
  rfl

theorem State.ticketCount_eq (s : State) (v : WaveId) : s.ticketCount v = (s.tickets.map Ticket.wave).countP fun w => w == v := by
  rw [State.ticketCount, List.countP_map, List.countP_eq_length_filter]
  rfl

theorem Slip.map_wave_of_view {l m : List Slip} (h : l.map Slip.waveView = m.map Slip.waveView) : l.map Slip.wave = m.map Slip.wave := by
  have := congrArg (List.map fun v : Nat × WaveId × Bool => v.2.1) h
  simpa [List.map_map, Function.comp_def, Slip.waveView] using this

/-- Tickets that keep their waves and slips that keep number, wave and state leave the work of every wave. -/
theorem State.WavesBut.of_view (h : s.WavesBut ex) (hw : ∀ v, (s.wave v).Wanes (t.wave v)) (hs : t.service = s.service)
    (ht : t.tickets.map Ticket.wave = s.tickets.map Ticket.wave) (hx : t.slips.map Slip.waveView = s.slips.map Slip.waveView) : t.WavesBut ex := by
  have htc (v : WaveId) : t.ticketCount v = s.ticketCount v := by rw [State.ticketCount_eq, ht, ← State.ticketCount_eq]
  have hsc (v : WaveId) : t.slipCount v = s.slipCount v := by rw [State.slipCount_eq, Slip.map_wave_of_view hx, ← State.slipCount_eq]
  refine h.of_wanes hw (fun hd => hs ▸ hd) (fun v _ h1 h2 => ?_) (fun v _ h1 h2 => .inr ?_) fun v e n _ _ ha => ha.of_view hx
  · rw [htc, hsc]; exact ⟨h1, h2⟩
  · rw [← htc, ← hsc]; exact ⟨h1, h2, id⟩

theorem State.WavesBut.congr (h : s.WavesBut ex) (hw : ∀ v, t.wave v = s.wave v) (hs : t.service = s.service) (ht : t.tickets = s.tickets)
    (hx : t.slips = s.slips) : t.WavesBut ex :=
  h.of_view (fun v => .of_eq (hw v)) hs (by rw [ht]) (by rw [hx])

theorem Slip.map_waveView_modSlip {n : Nat} {f : Slip → Slip} (hf : ∀ x ∈ s.slips, x.number = n → (f x).waveView = x.waveView) :
    (s.modSlip n f).slips.map Slip.waveView = s.slips.map Slip.waveView := by
  rw [State.modSlip_slips, List.map_map]
  refine List.map_congr_left fun x hx => ?_
  simp only [Function.comp]
  split
  · next hn => exact hf x hx hn
  · rfl

theorem State.WavesBut.modSlip (h : s.WavesBut ex) {n : Nat} {f : Slip → Slip} (hf : ∀ x ∈ s.slips, x.number = n → (f x).waveView = x.waveView) :
    (s.modSlip n f).WavesBut ex := h.of_view (fun _ => .refl _) rfl rfl (Slip.map_waveView_modSlip hf)

theorem Ticket.map_wave_modTicket {n : Nat} {f : Ticket → Ticket} (hf : ∀ k, (f k).wave = k.wave) (s : State) :
    (s.modTicket n f).tickets.map Ticket.wave = s.tickets.map Ticket.wave := by
  rw [State.modTicket_tickets, List.map_map]
  refine List.map_congr_left fun k _ => ?_
  simp only [Function.comp]
  split
  · exact hf k
  · rfl

theorem State.WavesBut.modTicket (h : s.WavesBut ex) {n : Nat} {f : Ticket → Ticket} (hf : ∀ k, (f k).wave = k.wave) : (s.modTicket n f).WavesBut ex :=
  h.of_view (fun _ => .refl _) rfl (Ticket.map_wave_modTicket hf s) rfl

theorem State.WavesBut.modLine (h : s.WavesBut ex) (n i : Nat) (f : Line → Line) : (s.modLine n i f).WavesBut ex := h.modTicket fun _ => rfl

theorem State.WavesBut.post (h : s.WavesBut ex) (r : PortId → Bool) (b : NoticeBody) : (s.post r b).WavesBut ex := h.congr (fun _ => rfl) rfl rfl rfl

theorem Quiet.map_wave {s t : State} (h : Quiet s t) : t.tickets.map Ticket.wave = s.tickets.map Ticket.wave := by
  have := h.tickets
  generalize s.tickets = l at this
  generalize t.tickets = m at this
  induction this with
  | nil => rfl
  | cons hk _ ih => rw [List.map_cons, List.map_cons, ih, hk.fields]

/-! ## Considerations (R26) -/

theorem State.Considers.wave {x y : Slip} (h : s.Considers x y) : y.wave = x.wave := by rw [h.kept]
theorem State.Considers.number {x y : Slip} (h : s.Considers x y) : y.number = x.number := by rw [h.kept]

theorem forall₂_map_eq {α β : Type} {r : α → α → Prop} {f : α → β} {l m : List α} (h : List.Forall₂ r l m) (hf : ∀ a b, r a b → f b = f a) :
    m.map f = l.map f := by
  induction h with
  | nil => rfl
  | cons hab _ ih => rw [List.map_cons, List.map_cons, ih, hf _ _ hab]

theorem State.Considered.wavesBut {sel : StationId → Prop} (hc : State.Considered sel s t) (hr : s.RecordsSound) (h : s.WavesBut ex) : t.WavesBut ex := by
  have hcons := hc.slips.imp fun _ _ k => k.considers
  have hsc (v : WaveId) : t.slipCount v = s.slipCount v := by
    rw [State.slipCount_eq, forall₂_map_eq hcons fun _ _ k => k.wave, ← State.slipCount_eq]
  have htc (v : WaveId) : t.ticketCount v = s.ticketCount v := by rw [State.ticketCount_eq, hc.quiet.map_wave, ← State.ticketCount_eq]
  refine h.of_wanes (fun v => ?_) (fun hd => hc.quiet.stands.service ▸ hd) (fun v _ h1 h2 => ?_) (fun v _ h1 h2 => .inr ?_) fun v e n he hn ha => ?_
  · rw [hc.waves, State.waveMarked_eq]
    exact .marked _ _
  · rw [htc, hsc]; exact ⟨h1, h2⟩
  · rw [← htc, ← hsc]; exact ⟨h1, h2, id⟩
  · rw [hc.waves, State.waveMarked_eq] at he
    obtain ⟨d, hd, rfl⟩ := Option.map_eq_some_iff.mp he
    obtain ⟨e, _, hen⟩ := List.mem_map.mp hn
    obtain ⟨rfl, h2⟩ := Prod.mk.inj hen
    have hstays : ¬s.leaves t v e.1 = true := by
      rw [(Bool.or_eq_false_iff.mp h2).2]
      decide
    obtain ⟨y, hy, hyn, hyp⟩ := not_not.mp fun hp => hstays (State.leaves_iff.mpr ⟨ha, hp⟩)
    obtain ⟨x, hx, hxn, hxw, _⟩ := ha
    exact ⟨y, hy, hyn, (hc.slip hr hx hy (hyn.trans hxn.symm)).considers.wave.trans hxw, hyp⟩

theorem State.WavesBut.consider (h : s.WavesBut ex) (hr : s.RecordsSound) (st : StationId) : (s.consider st).WavesBut ex :=
  (State.consider_considered hr st).wavesBut hr h

theorem State.WavesBut.considerAll (h : s.WavesBut ex) (hr : s.RecordsSound) (sel : StationId → Bool) : (s.considerAll sel).WavesBut ex :=
  (State.considerAll_considered hr sel).wavesBut hr h

/-! ## Slips and tickets leaving (R22, R78) -/

/-- The freeing of a wave without work leaves no exception for it. -/
theorem State.WavesBut.freeIfDone (h : s.WavesBut ex) {w : WaveId} (hex : ∀ v, ex v → v = w ∨ ex' v) : (s.freeIfDone w).WavesBut ex' := by
  have hx : (s.freeIfDone w).slips = s.slips := by rw [State.freeIfDone_frame]
  have ht : (s.freeIfDone w).tickets = s.tickets := by rw [State.freeIfDone_frame]
  have hs : (s.freeIfDone w).service = s.service := by rw [State.freeIfDone_frame]
  have htc (v : WaveId) : (s.freeIfDone w).ticketCount v = s.ticketCount v := by rw [State.ticketCount, ht, State.ticketCount]
  have hsc (v : WaveId) : (s.freeIfDone w).slipCount v = s.slipCount v := by rw [State.slipCount, hx, State.slipCount]
  have haw (v : WaveId) (n : Nat) (ha : s.Awaits v n) : (s.freeIfDone w).Awaits v n := by rwa [State.Awaits, hx]
  by_cases hd : s.Done w
  · have hself := State.freeIfDone_wave_self hd
    have hne (v : WaveId) (hv : v ≠ w) := s.freeIfDone_wave_ne hv
    refine ⟨fun v hv => ?_, fun v hv h1 h2 => ?_, fun hdr v => ?_, fun v d he => ?_, fun v d he => ?_⟩ <;> by_cases hvw : v = w
    · subst hvw
      rw [htc, hsc, hself]
      exact ⟨hd.2.1, hd.2.2, rfl⟩
    · rw [hne v hvw] at hv ⊢
      rw [htc, hsc]
      exact h.free v hv
    · subst hvw; rw [hself] at hv; cases hv
    · rw [hne v hvw] at hv
      exact (hex v (h.sealed v hv (htc v ▸ h1) (hsc v ▸ h2))).resolve_left hvw
    · subst hvw; rw [hself]; exact nofun
    · rw [hne v hvw]; exact h.draining (hs ▸ hdr) v
    · subst hvw; rw [hself] at he; cases he
    · rw [hne v hvw] at he; exact h.rising v d he
    · subst hvw; rw [hself] at he; cases he
    · rw [hne v hvw] at he; exact fun n hn => haw v n (h.listed v d he n hn)
  · rw [State.freeIfDone_of_not_done hd]
    refine ⟨h.free, fun v hv h1 h2 => ?_, h.draining, h.rising, h.listed⟩
    refine (hex v (h.sealed v hv h1 h2)).resolve_left fun hvw => ?_
    subst hvw
    exact hd ⟨hv, h1, h2⟩

theorem State.WavesBut.atStations (h : s.WavesBut ex) (hat : AtStations s t) : t.WavesBut ex :=
  h.congr hat.wave hat.stands.service hat.tickets hat.slips

theorem AtStations.finishEvacuation (st : StationId) (s : State) : AtStations s (s.finishEvacuation st) := by
  unfold State.finishEvacuation
  split
  · exact .endEvacuation st _ _ s
  · exact .refl s

theorem State.WavesBut.dropSlip (h : s.WavesBut ex) {x : Slip} (ho : s.Only x) : (s.dropSlip x).WavesBut ex := by
  have hsub (v : WaveId) : (s.slips.filter fun y => y.number != x.number).countP (fun y => y.wave == v) ≤ s.slips.countP fun y => y.wave == v :=
    List.Sublist.countP_le List.filter_sublist
  have hfilter : ({ s.markLeft x.wave x.number with slips := s.slips.filter fun y => y.number != x.number } : State).WavesBut fun v => ex v ∨ v = x.wave := by
    refine h.of_wanes (fun v => ?_) id (fun v _ h1 h2 => ⟨h1, ?_⟩) (fun v _ h1 h2 => ?_) fun v e n he hn ha => ?_
    · show (s.wave v).Wanes ((s.markLeft x.wave x.number).wave v)
      rw [State.wave_markLeft]
      exact .marked _ _
    · rw [State.slipCount, ← List.countP_eq_length_filter] at h2 ⊢
      have := hsub v
      exact Nat.le_zero.mp (h2 ▸ this)
    · by_cases hv : v = x.wave
      · exact .inl (.inr hv)
      · refine .inr ⟨h1, ?_, .inl⟩
        rw [State.slipCount, List.length_eq_zero_iff, List.filter_eq_nil_iff] at h2 ⊢
        intro y hy hyv
        refine h2 y (List.mem_filter.mpr ⟨hy, ?_⟩) hyv
        have : y.number ≠ x.number := fun hn => by
          rw [ho y hy hn] at hyv
          exact hv (beq_iff_eq.mp hyv).symm
        simpa using this
    · obtain ⟨y, hy, hyn, hyw, hyp⟩ := ha
      refine ⟨y, List.mem_filter.mpr ⟨hy, ?_⟩, hyn, hyw, hyp⟩
      have : y.number ≠ x.number := fun hnx => by
        have hyx := ho y hy hnx
        subst hyx
        subst hyw
        have he' : ((s.wave y.wave).marked fun i => decide (y.wave = y.wave) && decide (i = y.number)).delay = some e := by
          rw [← State.wave_markLeft]
          exact he
        obtain ⟨d, hd, rfl⟩ := Option.map_eq_some_iff.mp he'
        obtain ⟨f, _, hf⟩ := List.mem_map.mp hn
        obtain ⟨hf1, hf2⟩ := Prod.mk.inj hf
        rw [hf1, hyn] at hf2
        simp at hf2
      simpa using this
  unfold State.dropSlip
  extract_lets s1 s2
  have h2 : s2.WavesBut ex := hfilter.freeIfDone fun v hv => hv.symm
  split
  · exact State.WavesBut.atStations h2 (.finishEvacuation _ _)
  · exact h2

theorem State.WavesBut.emptySlip (h : s.WavesBut ex) {x : Slip} (ho : s.Only x) : (s.emptySlip x).WavesBut ex := by
  unfold State.emptySlip
  split
  · exact (h.post _ _ : (s.postWithdrawn x .emptied).WavesBut ex).dropSlip ho
  · exact h.dropSlip ho

theorem State.WavesBut.removeMember (h : s.WavesBut ex) {x : Slip} (ho : s.Only x) (n i : Nat) : (s.removeMember x n i).WavesBut ex := by
  unfold State.removeMember
  split
  · exact h.emptySlip ho
  · have h1 : (s.modSlip x.number fun _ => { x with members := x.without n i, portions := x.portions - x.portionsOf n i }).WavesBut ex :=
      h.modSlip fun y hy hn => by rw [ho y hy hn]; rfl
    dsimp only
    split
    · exact h1.post _ _
    · exact h1

theorem State.WavesBut.discardAll (l : List Slip) (h : s.WavesBut ex) (ho : ∀ x ∈ l, s.Only x) : (l.foldl State.discard s).WavesBut ex := by
  induction l generalizing s with
  | nil => exact h
  | cons x l ih =>
    rw [List.foldl_cons]
    refine ih ((h.post _ _ : (s.postWithdrawn x .discarded).WavesBut ex).dropSlip (ho x List.mem_cons_self)) fun y hy => ?_
    refine (ho y (List.mem_cons_of_mem _ hy)).subset ?_
    rw [State.discard_slips]
    exact fun _ h => List.mem_of_mem_filter h

theorem State.WavesBut.toClosed (h : s.WavesBut ex) : s.toClosed.WavesBut ex := ⟨h.free, h.sealed, nofun, h.rising, h.listed⟩

theorem State.WavesBut.endDraining (h : s.WavesBut ex) (hr : s.RecordsSound) : s.endDraining.WavesBut ex :=
  ((h.discardAll s.slips fun _ hx => hr.only hx).toClosed).post _ _

theorem State.WavesBut.endIfDrained (h : s.WavesBut ex) (hr : s.RecordsSound) : s.endIfDrained.WavesBut ex := by
  unfold State.endIfDrained
  split
  · exact h.endDraining hr
  · exact h

/-- A ticket off the table, its wave freed where that was the last work of it. -/
theorem State.WavesBut.untable (h : s.WavesBut ex) {k : Ticket} (hk : ∀ j ∈ s.tickets, j.number = k.number → j.wave = k.wave) :
    ({ s with tickets := s.tickets.filter fun u => u.number != k.number }.freeIfDone k.wave).WavesBut ex := by
  have h1 : ({ s with tickets := s.tickets.filter fun u => u.number != k.number } : State).WavesBut fun v => ex v ∨ v = k.wave := by
    refine h.of_wanes (fun v => .refl _) id (fun v _ h1 h2 => ⟨?_, h2⟩) (fun v _ h1 h2 => ?_) fun v e n _ _ ha => ha
    · rw [State.ticketCount, List.length_eq_zero_iff, List.filter_eq_nil_iff] at h1 ⊢
      exact fun j hj => h1 j (List.mem_of_mem_filter hj)
    · by_cases hv : v = k.wave
      · exact .inl (.inr hv)
      · refine .inr ⟨?_, h2, .inl⟩
        rw [State.ticketCount, List.length_eq_zero_iff, List.filter_eq_nil_iff] at h1 ⊢
        intro j hj hjv
        refine h1 j (List.mem_filter.mpr ⟨hj, ?_⟩) hjv
        have : j.number ≠ k.number := fun hn => hv ((beq_iff_eq.mp hjv).symm.trans (hk j hj hn))
        simpa using this
  exact h1.freeIfDone fun v hv => hv.symm

theorem State.WavesBut.leaveTable (h : s.WavesBut ex) (hr : s.RecordsSound) {k : Ticket} (hk : ∀ j ∈ s.tickets, j.number = k.number → j.wave = k.wave) :
    (s.leaveTable k).WavesBut ex := (h.untable hk).endIfDrained (hr.untable k)

/-! ## CLOSE SERVICE (R7) -/

theorem State.WavesBut.sealWave (h : s.WavesBut ex) (w : WaveId) : (s.sealWave w).WavesBut ex := by
  by_cases ho : (s.wave w).state = .opened
  · rw [State.sealWave_of_opened ho]
    have h1 : (s.modWave w fun v => { v with state := .sealed }).WavesBut fun v => ex v ∨ v = w := by
      have hne (v : WaveId) (hv : v ≠ w) := State.wave_modWave_ne hv (fun v => { v with state := .sealed }) s
      have hself : (s.modWave w fun v => { v with state := .sealed }).wave w = { s.wave w with state := .sealed } := State.wave_modWave_self w _ s
      refine ⟨fun v hv => ?_, fun v hv h1 h2 => ?_, fun hdr v => ?_, fun v d he => ?_, fun v d he => ?_⟩ <;> by_cases hvw : v = w
      · subst hvw; rw [hself] at hv; cases hv
      · rw [hne v hvw] at hv ⊢; exact h.free v hv
      · exact .inr hvw
      · rw [hne v hvw] at hv; exact .inl (h.sealed v hv h1 h2)
      · subst hvw; rw [hself]; exact nofun
      · rw [hne v hvw]; exact h.draining hdr v
      · subst hvw; rw [hself] at he; exact h.rising v d he
      · rw [hne v hvw] at he; exact h.rising v d he
      · subst hvw; rw [hself] at he; exact h.listed v d he
      · rw [hne v hvw] at he; exact h.listed v d he
    exact h1.freeIfDone fun v hv => hv.symm
  · rw [State.sealWave_of_not_opened ho]
    exact h

theorem State.sealWave_not_opened (s : State) (w v : WaveId) (h : (s.wave v).state ≠ .opened ∨ v = w) : ((s.sealWave w).wave v).state ≠ .opened := by
  by_cases ho : (s.wave w).state = .opened
  · rw [State.sealWave_of_opened ho]
    by_cases hvw : v = w
    · subst hvw
      by_cases hd : (s.modWave v fun v => { v with state := .sealed }).Done v
      · rw [State.freeIfDone_wave_self hd]; exact nofun
      · rw [State.freeIfDone_of_not_done hd, State.wave_modWave_self]; exact nofun
    · rw [State.freeIfDone_wave_ne _ hvw, State.wave_modWave_ne hvw]
      exact h.resolve_right hvw
  · rw [State.sealWave_of_not_opened ho]
    rcases h with h | rfl
    · exact h
    · exact ho

theorem State.sealWaves_not_opened (l : List WaveId) (v : WaveId) (s : State) (h : (s.wave v).state ≠ .opened ∨ v ∈ l) :
    ((l.foldl (fun s w => s.sealWave w) s).wave v).state ≠ .opened := by
  induction l generalizing s with
  | nil => exact h.resolve_right List.not_mem_nil
  | cons w l ih =>
    rw [List.foldl_cons]
    refine ih _ ?_
    by_cases hvl : v ∈ l
    · exact .inr hvl
    · refine .inl (s.sealWave_not_opened w v (h.imp id fun hv => ?_))
      exact (List.mem_cons.mp hv).resolve_right hvl

theorem State.WavesBut.closeService (h : s.WavesBut ex) (hr : s.RecordsSound) (ho : s.service = .opened) : s.closeService.WavesBut ex := by
  have ha : (allWaves.foldl (fun s w => s.sealWave w) s).WavesBut ex := by
    generalize allWaves = l
    clear ho hr
    induction l generalizing s with
    | nil => exact h
    | cons w l ih => exact ih (h.sealWave w)
  have hn (v : WaveId) := State.sealWaves_not_opened allWaves v s (.inr (List.mem_finRange v))
  have hra := hr.kept (Kept.sealWaves allWaves s) (Stands.sealWaves allWaves s)
  have hs := (Stands.sealWaves allWaves s).service
  rw [State.closeService_eq]
  generalize allWaves.foldl (fun s w => s.sealWave w) s = a at ha hn hra hs
  have h1 := hra.drain (hs.trans ho)
  have ha1 : ({ a with service := .draining } : State).WavesBut ex := ⟨ha.free, ha.sealed, fun _ => hn, ha.rising, ha.listed⟩
  generalize ({ a with service := .draining } : State) = b at h1 ha1 ⊢
  exact (ha1.post _ _).endIfDrained (h1.kept (.post _ _ _) (.post _ _ _))

end Sys2Proof.Machine
end

section
/-! SUPPORT. Every step keeps the waves and their delay lists sound (R7, R16, R20, R22, R25 to R29). -/

namespace Sys2Proof.Machine

variable {s t : State} {ex : WaveId → Prop}

/-! ## Lines voided (R40, R67) -/

theorem State.WavesBut.voidWaiting (h : s.WavesBut ex) (hr : s.RecordsSound) (n i : Nat) : (s.voidWaiting n i).WavesBut ex := by
  have h1 := h.modLine n i fun l => { l with state := .void }
  unfold State.voidWaiting
  split
  · split
    · next k _ =>
      dsimp only
      split
      · next x hx => exact h1.removeMember (hr.only (State.slip?_eq_some hx).2) n i
      · exact h1
    all_goals exact h
  · exact h

theorem State.WavesBut.voidWaitings (h : s.WavesBut ex) (hr : s.RecordsSound) (n : Nat) (l : List Nat) :
    (l.foldl (State.voidWaiting n) s).WavesBut ex := by
  induction l generalizing s with
  | nil => exact h
  | cons i l ih => exact ih (h.voidWaiting hr n i) (hr.voidWaiting n i)

theorem State.WavesBut.quiet (h : s.WavesBut ex) (hq : Quiet s t) (hw : ∀ v, t.wave v = s.wave v) (hx : t.slips = s.slips) : t.WavesBut ex :=
  h.of_view (fun v => .of_eq (hw v)) hq.stands.service hq.map_wave (by rw [hx])

theorem State.WavesBut.workOut (h : s.WavesBut ex) (n : Nat) : (s.workOut n).WavesBut ex :=
  h.quiet (.workOut n s) (State.wave_workOut n s) (State.slips_workOut n s)

theorem State.WavesBut.leaveTable_of_mem (h : s.WavesBut ex) (hr : s.RecordsSound) {k : Ticket} (hk : k ∈ s.tickets) : (s.leaveTable k).WavesBut ex :=
  h.leaveTable hr fun _ hj hn => congrArg Ticket.wave (hr.ticket_unique hk hj hn)

theorem State.WavesBut.shortTicket (h : s.WavesBut ex) (hr : s.RecordsSound) (c : ItemCode) (k : Ticket) : (s.shortTicket c k).WavesBut ex := by
  unfold State.shortTicket
  extract_lets s1 s2
  have h1 : s1.WavesBut ex := h.voidWaitings hr k.number (k.linesHit c)
  have hr1 : s1.RecordsSound := hr.voidWaitings k.number (k.linesHit c)
  clear_value s1
  have h2 : s2.WavesBut ex := h1.post _ _
  have hr2 : s2.RecordsSound := hr1.kept (.post _ _ s1) (.post s1 _ _)
  clear_value s2
  split
  · next k' hk' =>
    split
    · rw [State.retire]
      exact (h2.post _ _).leaveTable_of_mem (hr2.kept (.post _ _ s2) (.post s2 _ _)) (State.ticket?_eq_some hk').2
    · exact h2.workOut k.number
  · exact h2

theorem State.WavesBut.markOut (h : s.WavesBut ex) (hr : s.RecordsSound) (c : ItemCode) : (s.markOut c).WavesBut ex := by
  have h0 : (s.setOutBoard (insertCode c s.outBoard)).WavesBut ex := h.congr (fun _ => rfl) rfl rfl rfl
  have hr0 : (s.setOutBoard (insertCode c s.outBoard)).RecordsSound := hr.beside rfl
  unfold State.markOut
  generalize (if s.inService then s.ticketsHit c else []) = hit
  generalize s.setOutBoard _ = a at h0 hr0
  induction hit generalizing a with
  | nil => exact h0
  | cons k l ih => exact ih _ (h0.shortTicket hr0 c k) (hr0.shortTicket c k)

theorem Voiding.line_wavesBut {v : Voiding} (h : v.state.WavesBut ex) (hr : v.state.RecordsSound) (n i : Nat) : (v.line n i).state.WavesBut ex := by
  have h1 := h.modLine n i fun l => { l with state := .void }
  have honly {k : Nat} {x : Slip} (hx : (v.state.modLine n i fun l => { l with state := .void }).slip? k = some x) :
      (v.state.modLine n i fun l => { l with state := .void }).Only x := hr.only (State.slip?_eq_some hx).2
  unfold Voiding.line
  split
  · dsimp only
    split
    · split
      · next hx => exact h1.removeMember (honly hx) n i
      · exact h
    · split
      · next hx => exact h1.removeMember (honly hx) n i
      · exact h
    · split
      · exact h1.modSlip fun _ _ _ => rfl
      · exact h
    all_goals exact h
  · exact h

theorem State.WavesBut.voidLines (h : s.WavesBut ex) (hr : s.RecordsSound) (k : Ticket) : (s.voidLines k).state.WavesBut ex := by
  unfold State.voidLines
  have : ∀ (l : List Nat) (v : Voiding), v.state.RecordsSound → v.state.WavesBut ex → (l.foldl (Voiding.line k.number) v).state.WavesBut ex := by
    intro l
    induction l with
    | nil => exact fun v _ h => h
    | cons i l ih => exact fun v hv h => ih _ (v.line_recordsSound hv k.number i) (v.line_wavesBut h hv k.number i)
  exact this _ ⟨s, 0, 0, 0, []⟩ hr h

theorem State.tickets_dropSlip (x : Slip) (s : State) : (s.dropSlip x).tickets = s.tickets := by
  unfold State.dropSlip
  extract_lets s1 s2
  have h2 : s2.tickets = s.tickets := by
    simp only [s2]
    rw [State.freeIfDone_frame]
    rfl
  split
  · exact (AtStations.finishEvacuation _ _).tickets.trans h2
  · exact h2

theorem State.tickets_removeMember (x : Slip) (n i : Nat) (s : State) : (s.removeMember x n i).tickets = s.tickets := by
  unfold State.removeMember State.emptySlip
  split
  · rw [State.tickets_dropSlip]
    split <;> rfl
  · dsimp only
    split <;> rfl

/-- A ticket's number and wave. -/
def Ticket.seat (k : Ticket) : Nat × WaveId := (k.number, k.wave)

theorem Ticket.map_seat_modLine (n i : Nat) (f : Line → Line) (s : State) :
    (s.modLine n i f).tickets.map Ticket.seat = s.tickets.map Ticket.seat := by
  rw [State.modLine_tickets, List.map_map]
  refine List.map_congr_left fun k _ => ?_
  simp only [Function.comp]
  split <;> rfl

theorem Quiet.map_seat (h : Quiet s t) : t.tickets.map Ticket.seat = s.tickets.map Ticket.seat :=
  forall₂_map_eq h.tickets fun _ _ k => by rw [k.fields]; rfl

theorem Voiding.line_seats (n : Nat) (v : Voiding) (i : Nat) : (v.line n i).state.tickets.map Ticket.seat = v.state.tickets.map Ticket.seat := by
  have h1 := Ticket.map_seat_modLine n i (fun l => { l with state := .void }) v.state
  have h2 (x : Slip) : ((v.state.modLine n i fun l => { l with state := .void }).removeMember x n i).tickets.map Ticket.seat =
      v.state.tickets.map Ticket.seat := by rw [State.tickets_removeMember, h1]
  unfold Voiding.line
  split
  · dsimp only
    split
    · split
      · exact h2 _
      · rfl
    · split
      · exact h2 _
      · rfl
    · split
      · exact h1
      · rfl
    all_goals rfl
  · rfl

theorem State.voidLines_seats (k : Ticket) (s : State) : (s.voidLines k).state.tickets.map Ticket.seat = s.tickets.map Ticket.seat := by
  unfold State.voidLines
  have : ∀ (l : List Nat) (v : Voiding), (l.foldl (Voiding.line k.number) v).state.tickets.map Ticket.seat = v.state.tickets.map Ticket.seat := by
    intro l
    induction l with
    | nil => exact fun _ => rfl
    | cons i l ih => exact fun v => (ih _).trans (v.line_seats k.number i)
  exact this _ ⟨s, 0, 0, 0, []⟩

theorem State.WavesBut.voidTicket (h : s.WavesBut ex) (hr : s.RecordsSound) {k : Ticket} (hk : k ∈ s.tickets) : (s.voidTicket k).WavesBut ex := by
  unfold State.voidTicket
  extract_lets v s1
  have h1 : s1.WavesBut ex := (h.voidLines hr k).considerAll (hr.voidLines k) _
  have hr1 : s1.RecordsSound := (hr.voidLines k).kept (.considerAll _ _) (Quiet.considerAll _ _).stands
  have hseat : s1.tickets.map Ticket.seat = s.tickets.map Ticket.seat := (Quiet.considerAll _ _).map_seat.trans (s.voidLines_seats k)
  refine (h1.post _ _).leaveTable (hr1.congr (Stands.post s1 _ _) rfl rfl) fun j hj hn => ?_
  obtain ⟨j0, hj0, hseq⟩ := List.mem_map.mp (hseat ▸ List.mem_map_of_mem (f := Ticket.seat) hj)
  obtain ⟨h2, h3⟩ := Prod.mk.inj hseq
  rw [← h3, hr.ticket_unique hk hj0 (h2.trans hn)]

/-! ## Slips and tickets made -/

theorem State.wave_createSlip (st : StationId) (c : ItemCode) (w : WaveId) (k : SlipClass) (fire : Nat) (m : Member) (s : State) (v : WaveId) :
    (s.createSlip st c w k fire m).wave v = s.wave v := by
  unfold State.createSlip State.giveSlipNumber
  dsimp only
  split <;> rfl

theorem State.service_createSlip (st : StationId) (c : ItemCode) (w : WaveId) (k : SlipClass) (fire : Nat) (m : Member) (s : State) :
    (s.createSlip st c w k fire m).service = s.service := by
  unfold State.createSlip State.giveSlipNumber
  dsimp only
  split <;> rfl

theorem State.tickets_createSlip (st : StationId) (c : ItemCode) (w : WaveId) (k : SlipClass) (fire : Nat) (m : Member) (s : State) :
    (s.createSlip st c w k fire m).tickets = (s.modLine m.ticket m.line fun l => { l with state := .waiting s.nextSlip }).tickets := by
  unfold State.createSlip State.giveSlipNumber
  dsimp only
  split <;> rfl

theorem State.WavesBut.createSlip (h : s.WavesBut ex) (st : StationId) (c : ItemCode) {w : WaveId} (hw : (s.wave w).state ≠ .free) (k : SlipClass)
    (fire : Nat) (m : Member) : (s.createSlip st c w k fire m).WavesBut ex := by
  have htc (v : WaveId) : (s.createSlip st c w k fire m).ticketCount v = s.ticketCount v := by
    have hm (f : Line → Line) : (s.modLine m.ticket m.line f).tickets.map Ticket.wave = s.tickets.map Ticket.wave := by
      rw [State.modLine]
      refine Ticket.map_wave_modTicket ?_ s
      exact fun _ => rfl
    rw [State.ticketCount_eq, State.tickets_createSlip, hm, ← State.ticketCount_eq]
  have hsc (v : WaveId) : (s.createSlip st c w k fire m).slipCount v = s.slipCount v + if w = v then 1 else 0 := by
    rw [State.slipCount, State.slips_createSlip, List.filter_append, List.length_append, ← State.slipCount]
    by_cases hwv : w = v <;> simp [hwv]
  refine h.of_wanes (fun v => .of_eq (s.wave_createSlip st c w k fire m v)) (fun hd => by rwa [State.service_createSlip] at hd) (fun v hv h1 h2 => ?_)
    (fun v _ h1 h2 => .inr ?_) fun v e n _ _ ha => ?_
  · rw [htc, hsc, if_neg fun hwv : w = v => hw (hwv ▸ hv)]
    exact ⟨h1, h2⟩
  · rw [htc] at h1
    rw [hsc] at h2
    exact ⟨h1, by omega, id⟩
  · obtain ⟨x, hx, hh⟩ := ha
    exact ⟨x, by rw [State.slips_createSlip]; exact List.mem_append_left _ hx, hh⟩

theorem State.wave_joinSlip (x : Slip) (fire : Nat) (m : Member) (s : State) (v : WaveId) : (s.joinSlip x fire m).wave v = s.wave v := by
  unfold State.joinSlip
  dsimp only
  split <;> rfl

theorem State.WavesBut.joinSlip (h : s.WavesBut ex) {x : Slip} (ho : s.Only x) (fire : Nat) (m : Member) : (s.joinSlip x fire m).WavesBut ex := by
  have h1 : (s.modSlip x.number fun _ => { x with members := x.members ++ [m], portions := x.portions + m.qty, fire := min x.fire fire }).WavesBut ex :=
    h.modSlip fun y hy hn => by rw [ho y hy hn]; rfl
  have h2 := h1.modLine m.ticket m.line fun l => { l with state := .waiting x.number }
  unfold State.joinSlip
  dsimp only
  split
  · exact h2.post _ _
  · exact h2

theorem State.wave_setLate (n i : Nat) (s : State) (v : WaveId) : (s.setLate n i).wave v = s.wave v := by
  unfold State.setLate
  dsimp only
  repeat' split
  all_goals rfl

theorem State.WavesBut.setLate (h : s.WavesBut ex) (n i : Nat) : (s.setLate n i).WavesBut ex := by
  have h1 := h.modLine n i fun l => { l with late := true }
  unfold State.setLate
  dsimp only
  split
  · split
    · exact h1
    · refine State.WavesBut.post ?_ _ _
      exact h1.modTicket fun _ => rfl
  · exact h1

theorem State.wave_readied (n i : Nat) (st : StationId) (late : Bool) (s : State) (v : WaveId) : (s.readied n i st late).wave v = s.wave v := by
  unfold State.readied
  split
  · exact State.wave_setLate _ _ _ v
  · rfl

theorem State.WavesBut.readied (h : s.WavesBut ex) (n i : Nat) (st : StationId) (late : Bool) : (s.readied n i st late).WavesBut ex := by
  have h1 := h.modLine n i fun l => { l with station := some st }
  unfold State.readied
  split
  · exact h1.setLate n i
  · exact h1

theorem State.wave_placeLine (k : Ticket) (i : Nat) (l : Line) (s : State) (v : WaveId) : (s.placeLine k i l).1.wave v = s.wave v := by
  cases hrt : s.route l.item l.modifiers with
  | none => rw [State.placeLine_of_no_route hrt]
  | some st =>
    rw [State.placeLine_of_route hrt]
    dsimp only
    split
    · rw [State.wave_joinSlip, State.wave_readied]
    · rw [State.wave_createSlip, State.wave_readied]

theorem State.WavesBut.placeLine (h : s.WavesBut ex) (hr : s.RecordsSound) {k : Ticket} (hk : (s.wave k.wave).state ≠ .free) (i : Nat) (l : Line) :
    (s.placeLine k i l).1.WavesBut ex := by
  cases hrt : s.route l.item l.modifiers with
  | none => rw [State.placeLine_of_no_route hrt]; exact h
  | some st =>
    rw [State.placeLine_of_route hrt]
    generalize (s.planned k l.item st).1 = fire
    have ha := h.readied k.number i st (s.planned k l.item st).2
    have hka := congrArg Wave.state (s.wave_readied k.number i st (s.planned k l.item st).2 k.wave)
    have hra := hr.kept (Kept.readied k.number i st (s.planned k l.item st).2 s) (Stands.readied k.number i st (s.planned k l.item st).2 s)
    generalize s.readied k.number i st (s.planned k l.item st).2 = a at ha hra hka
    cases hj : a.joined? k l st fire with
    | some x => exact ha.joinSlip (hra.only (State.mem_queue.mp (State.joined?_mem hj).1).1) fire _
    | none => exact ha.createSlip st l.item (hka ▸ hk) k.slipClass fire _

theorem State.entered_frame (p : PortId) (a : Submission) (s : State) : s.entered p a = { s with
    tickets := s.tickets ++ [s.newTicket p a], nextTicket := (s.entered p a).nextTicket, ticketsExhausted := (s.entered p a).ticketsExhausted } := by
  unfold State.entered State.giveTicketNumber
  split <;> rfl

theorem State.WavesBut.entered (h : s.WavesBut ex) (p : PortId) {a : Submission} (ha : (s.wave a.wave).state ≠ .free) : (s.entered p a).WavesBut ex := by
  have hf := s.entered_frame p a
  have ht : (s.entered p a).tickets = s.tickets ++ [s.newTicket p a] := by rw [hf]
  have hsc (v : WaveId) : (s.entered p a).slipCount v = s.slipCount v := by rw [State.slipCount, hf, State.slipCount]
  have htc (v : WaveId) : (s.entered p a).ticketCount v = s.ticketCount v + if a.wave = v then 1 else 0 := by
    rw [State.ticketCount, ht, List.filter_append, List.length_append, ← State.ticketCount]
    by_cases hv : a.wave = v <;> simp [State.newTicket, hv]
  refine h.of_wanes (fun v => .of_eq (by rw [hf]; rfl)) (fun hd => by rwa [hf] at hd) (fun v hv h1 h2 => ?_) (fun v _ h1 h2 => .inr ?_)
    fun v e n _ _ hw => by rwa [State.Awaits, hf]
  · rw [htc, hsc, if_neg fun hav : a.wave = v => ha (hav ▸ hv)]
    exact ⟨h1, h2⟩
  · rw [htc] at h1
    rw [hsc] at h2
    exact ⟨by omega, h2, id⟩

theorem State.WavesBut.acceptTicket (h : s.WavesBut ex) (hr : s.RecordsSound) {a : Submission} (ha : s.checkSubmission a = none) (p : PortId) :
    (s.acceptTicket p a).WavesBut ex := by
  obtain ⟨_, hw, _⟩ := State.checkSubmission_none ha
  have hfree : (s.wave a.wave).state ≠ .free := by rw [hw]; decide
  have hwave (v : WaveId) : (s.entered p a).wave v = s.wave v := by rw [State.entered_frame]; rfl
  obtain ⟨h1, h2, _⟩ := hr.placed ha p (P := fun _ u => u.WavesBut ex ∧ (u.wave a.wave).state ≠ .free) ⟨h.entered p hfree, by rwa [hwave]⟩
    (fun _ _ _ _ _ h => h) fun u i l hu _ _ h => ⟨h.1.placeLine hu.records h.2 i l, by rw [State.wave_placeLine]; exact h.2⟩
  rw [State.acceptTicket_eq]
  exact (h2.considerAll h1 _).workOut _

theorem State.WavesBut.countRefire (h : s.WavesBut ex) (n i : Nat) : (s.countRefire n i).WavesBut ex := by
  unfold State.countRefire
  split
  · exact h
  · dsimp only
    split
    · refine State.WavesBut.post ?_ _ _
      exact h.modTicket fun _ => rfl
    · exact h.modTicket fun _ => rfl

/-- The wave of a live ticket is not FREE (R22). -/
theorem State.WavesBut.not_free (h : s.WavesBut ex) {k : Ticket} (hk : k ∈ s.tickets) : (s.wave k.wave).state ≠ .free := fun hf => by
  have h1 := (h.free k.wave hf).1
  rw [State.ticketCount, List.length_eq_zero_iff, List.filter_eq_nil_iff] at h1
  exact h1 k hk (beq_self_eq_true _)

theorem State.WavesBut.refireLine (h : s.WavesBut ex) (hr : s.RecordsSound) {k : Ticket} (hk : k ∈ s.tickets) (hl : s.slipsLeft ≠ 0) (i : Nat) (l : Line)
    (st : StationId) : (s.refireLine k i l st).WavesBut ex := by
  rw [State.refireLine_eq]
  have h1 := h.modLine k.number i fun l => { l with station := some st }
  have h2 := h1.createSlip st l.item (w := k.wave) (h.not_free hk) .priority s.clock ⟨k.number, i, l.qty⟩
  exact ((h2.workOut k.number).countRefire k.number i).consider (hr.refired hk hl i l st) st

/-! ## Slips returned, taken, moved (R26, R111, R123, R127) -/

theorem State.WavesBut.returnSlip (h : s.WavesBut ex) (x : Slip) (r : WithdrawReason) : (s.returnSlip x r).WavesBut ex := by
  have hq := Quiet.returnSlip x r s
  have hw (v : WaveId) : (s.returnSlip x r).wave v = s.wave v := by rw [State.returnSlip_eq, State.postWithdrawn, State.wave_post, State.wave_restate]
  have hsc (v : WaveId) : (s.returnSlip x r).slipCount v = s.slipCount v := by
    rw [State.slipCount_eq, forall₂_map_eq hq.slips fun _ _ k => by rw [k.fields], ← State.slipCount_eq]
  have htc (v : WaveId) : (s.returnSlip x r).ticketCount v = s.ticketCount v := by rw [State.ticketCount_eq, hq.map_wave, ← State.ticketCount_eq]
  refine h.of_wanes (fun v => .of_eq (hw v)) (fun hd => hq.stands.service ▸ hd) (fun v _ h1 h2 => ?_) (fun v _ h1 h2 => .inr ?_) fun v e n _ _ ha => ?_
  · rw [htc, hsc]; exact ⟨h1, h2⟩
  · rw [← htc, ← hsc]; exact ⟨h1, h2, id⟩
  · obtain ⟨y, hy, hn, hv, hp⟩ := ha
    refine ⟨_, by rw [State.slips_returnSlip]; exact List.mem_map_of_mem hy, ?_, ?_, ?_⟩ <;> split
    · exact hn
    · exact hn
    · exact hv
    · exact hv
    · rfl
    · exact hp

theorem State.WavesBut.goDown (h : s.WavesBut ex) (st : StationId) (cause : StationCause) : (s.goDown st cause).WavesBut ex := by
  refine State.WavesBut.atStations ?_ (s.goDown_atStations st cause)
  rw [State.downed_eq]
  have h0 : (s.modStation st fun u => { u with state := .down }).WavesBut ex := h.congr (fun _ => rfl) rfl rfl rfl
  generalize s.calledAt st = l
  generalize s.modStation st _ = a at h0
  induction l generalizing a with
  | nil => exact h0
  | cons x l ih => exact ih _ (h0.returnSlip x .down)

theorem State.WavesBut.timeoutSlip (h : s.WavesBut ex) (x : Slip) : (s.timeoutSlip x).WavesBut ex := by
  have h1 : (s.timedOut x).WavesBut ex := (h.returnSlip x .timeout).congr (fun _ => rfl) rfl rfl rfl
  rw [State.timeoutSlip_eq]
  split
  · exact h1.goDown _ _
  · exact h1

theorem State.WavesBut.timeoutAll (h : s.WavesBut ex) (st : StationId) (l : List Slip) : (s.timeoutAll st l).WavesBut ex := by
  induction l generalizing s with
  | nil => exact h
  | cons x l ih =>
    unfold State.timeoutAll
    dsimp only
    split
    · exact h.timeoutSlip x
    · exact ih (h.timeoutSlip x)

theorem State.WavesBut.secondAt (h : s.WavesBut ex) (hr : s.RecordsSound) (st : StationId) : (s.secondAt st).WavesBut ex := by
  unfold State.secondAt
  extract_lets s1
  split
  · have h1 : s1.WavesBut ex := by
      refine h.of_view (fun v => .refl _) rfl rfl ?_
      show ((s.lowerTimers st).slips.map Slip.waveView) = _
      rw [State.lowerTimers_slips, List.map_map]
      refine List.map_congr_left fun x _ => ?_
      obtain ⟨r, hx, -⟩ := Slip.lowered_spec st x
      have hp : (x.lowered st).isPending = x.isPending := congrArg (fun v => v.2.1) (x.lowered_view st)
      simp only [Function.comp, Slip.waveView, hp]
      rw [hx]
    have hr1 : s1.RecordsSound := hr.lowerTimers st
    exact (h1.timeoutAll st _).consider (hr1.kept (.timeoutAll st _ s1) (.timeoutAll s1 st _)) st
  · exact h

theorem State.WavesBut.takeSlip (h : s.WavesBut ex) {x : Slip} (ho : s.Only x) (hc : x.isCalled = true) (time : Nat) :
    (s.takeSlip x time).WavesBut ex := by
  rw [State.takeSlip_eq]
  have hq := Quiet.restate x (.taken time) s
  have h1 : (s.restate x (.taken time)).WavesBut ex := by
    refine h.of_view (fun v => .of_eq (State.wave_restate x _ s v)) hq.stands.service hq.map_wave ?_
    rw [State.slips_restate, List.map_map]
    refine List.map_congr_left fun y hy => ?_
    simp only [Function.comp]
    split
    · next hn => rw [ho y hy hn, Slip.waveView, Slip.waveView, Slip.isPending_of_called hc]; rfl
    · rfl
  exact h1.congr (fun _ => rfl) rfl rfl rfl

theorem State.WavesBut.finishSlip (h : s.WavesBut ex) {x : Slip} (ho : s.Only x) : (s.finishSlip x).WavesBut ex := by
  have hq : Quiet s ((s.setMembers x.members (.ready s.clock)).workOutAll x.members) := (Quiet.setMembers _ _ s).trans (.workOutAll _ _)
  have hx : ((s.setMembers x.members (.ready s.clock)).workOutAll x.members).slips = s.slips := by simp
  exact (h.quiet hq (fun v => by simp) hx).dropSlip (ho.congr hx)

theorem State.WavesBut.bumpSlip (h : s.WavesBut ex) (hr : s.RecordsSound) {x : Slip} (hx : x ∈ s.slips) (time : Nat) :
    (s.bumpSlip x time).WavesBut ex := by
  unfold State.bumpSlip
  have h2 : ((s.clearMissed x.station).learn x.station (s.sampleOf x time)).WavesBut ex := h.congr (fun _ => rfl) rfl rfl rfl
  have hr2 : ((s.clearMissed x.station).learn x.station (s.sampleOf x time)).RecordsSound := hr.congr rfl rfl rfl
  exact (h2.finishSlip (hr2.only hx)).consider (hr2.finishSlip x) x.station

theorem State.WavesBut.forceSlip (h : s.WavesBut ex) (hr : s.RecordsSound) {x : Slip} (hx : x ∈ s.slips) : (s.forceSlip x).WavesBut ex := by
  unfold State.forceSlip
  extract_lets s1 s2 s3
  have h1 : s1.WavesBut ex := h.congr (fun _ => rfl) rfl rfl rfl
  have h2 : s2.WavesBut ex ∧ s2.RecordsSound ∧ s2.slips = s.slips := by
    simp only [s2]
    split
    · exact ⟨h1.post _ _, hr.congr rfl rfl rfl, rfl⟩
    · exact ⟨h1, hr.congr rfl rfl rfl, rfl⟩
  obtain ⟨h2, hr2, hx2⟩ := h2
  have h3 : s3.WavesBut ex := h2.finishSlip (hr2.only (hx2 ▸ hx))
  split
  · exact h3
  · exact h3.consider (hr2.finishSlip x) x.station

theorem State.WavesBut.refireTime (h : s.WavesBut ex) (x : Slip) (fire : Nat) : (s.refireTime x fire).WavesBut ex := by
  have h1 : (s.modSlip x.number fun y => { y with fire := fire }).WavesBut ex := h.modSlip fun _ _ _ => rfl
  rw [State.refireTime_eq]
  split
  · exact h1.post _ _
  · exact h1

theorem State.WavesBut.fireWave (h : s.WavesBut ex) (hr : s.RecordsSound) (w : WaveId) : (s.fireWave w).WavesBut ex := by
  have (l : List Slip) (fire : Nat) : ∀ {a : State}, a.RecordsSound → a.WavesBut ex →
      (l.foldl (fun s x => s.refireTime x fire) a).RecordsSound ∧ (l.foldl (fun s x => s.refireTime x fire) a).WavesBut ex := by
    induction l with
    | nil => exact fun hr h => ⟨hr, h⟩
    | cons x l ih => exact fun hr h => ih (hr.kept (.refireTime x fire _) (.refireTime _ x fire)) (h.refireTime x fire)
  obtain ⟨h1, h2⟩ := this (s.toFire w) s.clock hr h
  exact h2.considerAll h1 _

/-- A wave changed in no more than its delay, its list shortened. -/
theorem State.WavesBut.modWave (h : s.WavesBut ex) {w : WaveId} {f : Wave → Wave} (hf : (s.wave w).Wanes (f (s.wave w))) : (s.modWave w f).WavesBut ex := by
  refine h.of_view (fun v => ?_) rfl rfl rfl
  rw [State.wave_modWave]
  split
  · next hv => subst hv; exact hf
  · exact .refl _

theorem State.WavesBut.reachSlip (h : s.WavesBut ex) (hr : s.RecordsSound) {w : WaveId} {d : Delay} {e : Nat × Bool} {rest : List (Nat × Bool)}
    (hd : (s.wave w).delay = some d) (he : d.slips = e :: rest) : (s.reachSlip w d e.1 e.2 rest).WavesBut ex := by
  have hw (d' : Delay) (hd' : d'.slips = rest) : (s.modWave w fun v => { v with delay := some d' }).WavesBut ex :=
    h.modWave ⟨rfl, fun f hf => by
      cases hf
      exact ⟨d, hd, by rw [hd', he]; exact .sublist (List.sublist_cons_self _ _)⟩⟩
  have hrw (f : Wave → Wave) : (s.modWave w f).RecordsSound := hr.congr rfl rfl rfl
  unfold State.reachSlip
  split
  · exact hw _ rfl
  · next x _ =>
    dsimp only
    split
    · exact (hw { d with slips := rest, unchanged := d.unchanged + 1 } rfl).consider (hrw _) _
    · exact ((hw { d with slips := rest, shifted := d.shifted + 1 } rfl).refireTime x _).consider ((hrw _).kept (.refireTime x _ _) (.refireTime _ x _)) _

theorem State.WavesBut.endDelay (h : s.WavesBut ex) (w : WaveId) (d : Delay) : (s.endDelay w d).WavesBut ex := by
  have h1 : (s.modWave w fun v => { v with delay := none }).WavesBut ex := h.modWave ⟨rfl, nofun⟩
  exact h1.congr (fun _ => rfl) rfl rfl rfl

theorem State.WavesBut.moved (h : s.WavesBut ex) (st b : StationId) (x : Slip) : (s.moved st b x).WavesBut ex := by
  unfold State.moved
  have h0 : (if x.previewed then s.post (s.isBound st) (.withdrawn x.number st x.item .moved (some b)) else s).WavesBut ex := by
    split
    · exact h.post _ _
    · exact h
  generalize (if x.previewed then s.post (s.isBound st) (.withdrawn x.number st x.item .moved (some b)) else s) = a at h0
  have h1 : (a.modSlip x.number fun y => { y with station := b, previewed := false, fire := s.movedFire b x }).WavesBut ex := h0.modSlip fun _ _ _ => rfl
  have h2 : ((a.modSlip x.number fun y => { y with station := b, previewed := false, fire := s.movedFire b x }).unlist x.wave x.number).WavesBut ex := by
    refine h1.modWave ⟨rfl, fun e he => ?_⟩
    obtain ⟨d, hd, rfl⟩ := Option.map_eq_some_iff.mp he
    exact ⟨d, hd, .sublist List.filter_sublist⟩
  generalize (State.unlist x.wave x.number _) = c at h2
  generalize x.members = ms
  induction ms generalizing c with
  | nil => exact h2
  | cons m ms ih => exact ih _ (h2.modLine _ _ _)

theorem State.WavesBut.moveSlip (h : s.WavesBut ex) (hr : s.RecordsSound) (st b : StationId) (x : Slip) : (s.moveSlip st b x).WavesBut ex := by
  rw [State.moveSlip_eq]
  exact State.WavesBut.atStations ((h.moved st b x).consider (hr.kept (.moved st b x s) (.moved st b x s)) b) (.finishEvacuation st _)

/-! ## The step -/

theorem State.WavesBut.delayWave (h : s.WavesBut ex) (hr : s.RecordsSound) {w : WaveId} {d : Option Delay} (hw : (s.wave w).state ≠ .free)
    (hd : ∀ e, d = some e → e.slips = s.delayList w) (start : Nat) : (s.delayWave w d start).WavesBut ex := by
  have hself : (s.delayWave w d start).wave w = { s.wave w with sweep := { (s.wave w).sweep with start := start }, delay := d } := State.wave_modWave_self w _ s
  have hne (v : WaveId) (hv : v ≠ w) : (s.delayWave w d start).wave v = s.wave v := State.wave_modWave_ne hv _ s
  refine ⟨fun v hv => ?_, fun v hv => ?_, fun hdr v => ?_, fun v e he => ?_, fun v e he n hn => ?_⟩ <;> by_cases hvw : v = w
  · subst hvw; rw [hself] at hv; exact absurd hv hw
  · rw [hne v hvw] at hv ⊢; exact h.free v hv
  · subst hvw; rw [hself] at hv; exact h.sealed v hv
  · rw [hne v hvw] at hv; exact h.sealed v hv
  · subst hvw; rw [hself]; exact h.draining hdr v
  · rw [hne v hvw]; exact h.draining hdr v
  · subst hvw
    rw [hself] at he
    rw [hd e he, State.delayList]
    exact List.pairwise_map.mpr (hr.slips_rise.filter _)
  · rw [hne v hvw] at he; exact h.rising v e he
  · subst hvw
    rw [hself] at he
    rw [hd e he] at hn
    obtain ⟨x, hx, hxn⟩ := List.mem_map.mp hn
    obtain ⟨hxs, hxv⟩ := List.mem_filter.mp hx
    obtain ⟨hv, hp⟩ := (Bool.and_eq_true _ _).mp hxv
    exact ⟨x, hxs, (Prod.mk.inj hxn).1, beq_iff_eq.mp hv, hp⟩
  · rw [hne v hvw] at he; exact h.listed v e he n hn

theorem State.WavesBut.defineWave (h : s.WavesBut ex) {w : WaveId} (hs : s.service ≠ .draining) (g : Sweep) :
    (s.modWave w fun _ => ⟨.opened, g, false, none⟩).WavesBut ex := by
  have hne (v : WaveId) (hv : v ≠ w) := State.wave_modWave_ne hv (fun _ => ⟨.opened, g, false, none⟩) s
  have hself : (s.modWave w fun _ => ⟨.opened, g, false, none⟩).wave w = ⟨.opened, g, false, none⟩ := State.wave_modWave_self w _ s
  refine ⟨fun v hv => ?_, fun v hv => ?_, fun hdr => absurd hdr hs, fun v e he => ?_, fun v e he => ?_⟩ <;> by_cases hvw : v = w
  · subst hvw; rw [hself] at hv; cases hv
  · rw [hne v hvw] at hv ⊢; exact h.free v hv
  · subst hvw; rw [hself] at hv; cases hv
  · rw [hne v hvw] at hv; exact h.sealed v hv
  · subst hvw; rw [hself] at he; cases he
  · rw [hne v hvw] at he; exact h.rising v e he
  · subst hvw; rw [hself] at he; cases he
  · rw [hne v hvw] at he; exact h.listed v e he

/-- Every wave FREE, with nothing on the board. -/
theorem State.WavesBut.of_free (hw : ∀ v, s.wave v = freeWave) (ht : s.tickets = []) (hx : s.slips = []) : s.WavesBut ex where
  free v _ := ⟨by rw [State.ticketCount, ht]; rfl, by rw [State.slipCount, hx]; rfl, by rw [hw]; rfl⟩
  sealed v hv := by rw [hw] at hv; cases hv
  draining _ v := by rw [hw]; exact nofun
  rising v d hd := by rw [hw] at hd; cases hd
  listed v d hd := by rw [hw] at hd; cases hd

theorem wave_replicate (v : WaveId) : (Vector.replicate 32 freeWave)[v] = freeWave := by simp

theorem Deed.wavesBut {p : PortId} {u : State} {c : Cmd} (k : Deed p s c u) (hr : s.RecordsSound) (h : s.WavesBut ex) : u.WavesBut ex := by
  cases k with
  | nothing => exact h
  | openService =>
    have h1 : s.openService.WavesBut ex := ⟨h.free, h.sealed, nofun, h.rising, h.listed⟩
    exact h1
  | closeService hs => exact h.closeService hr hs
  | resetService => exact .of_free wave_replicate rfl rfl
  | defineWave w g hs => exact h.defineWave hs g.clamp
  | sealWave w => exact h.sealWave w
  | holdWave w => exact h.modWave ⟨rfl, fun e he => ⟨e, he, .refl _⟩⟩
  | releaseWave w =>
    have h1 : (s.modWave w fun v => { v with hold := false }).WavesBut ex := h.modWave ⟨rfl, fun e he => ⟨e, he, .refl _⟩⟩
    exact h1.considerAll (hr.congr rfl rfl rfl) _
  | delayWave w d start hw _ hd => exact h.delayWave hr hw hd start
  | fireWave w => exact h.fireWave hr w
  | markOut c => exact h.markOut hr c
  | submitTicket a ha => exact h.acceptTicket hr ha p
  | voidTicket n k hk => exact h.voidTicket hr (State.ticket?_eq_some hk).2
  | pickup n k hk => exact h.leaveTable_of_mem hr (State.ticket?_eq_some hk).2
  | refire n i k l st hk _ _ _ hn => exact h.refireLine hr (State.ticket?_eq_some hk).2 hn i l st
  | resumeStation st =>
    have h1 : (s.announceStation st .opened .resumed).WavesBut ex := h.congr (fun _ => rfl) rfl rfl rfl
    exact h1.consider (hr.congr rfl rfl rfl) st
  | stationDown st => exact h.goDown st _
  | stationOpen st =>
    have hat := AtStations.reopened st s
    rw [State.reopen_eq]
    exact (h.atStations hat).consider (hr.kept (.reopened st s) hat.stands) st
  | take n x time k hx hc => exact h.takeSlip (hr.only (State.slip?_eq_some hx).2) (Slip.isCalled_iff.mpr ⟨_, _, hc⟩) time
  | bump n x time hx => exact h.bumpSlip hr (State.slip?_eq_some hx).2 time
  | forceBump n x hx => exact h.forceSlip hr (State.slip?_eq_some hx).2
  | _ => exact h.congr (fun _ => rfl) rfl rfl rfl

theorem Framed.wavesBut {c : Cmd} {p : PortId} (k : Framed c p s t) (hr : s.RecordsSound) (h : s.WavesBut ex) : t.WavesBut ex := by
  cases k with
  | owned _ ho =>
    obtain ⟨u, hu, ⟨st, d, rfl⟩ | ⟨_, rfl, _⟩⟩ := ho
    · exact (hu.wavesBut (hr.handed c p) (h.congr (fun _ => rfl) rfl rfl rfl)).congr (fun _ => rfl) rfl rfl rfl
    · exact hu.wavesBut (hr.handed c p) (h.congr (fun _ => rfl) rfl rfl rfl)
  | _ => exact h.congr (fun _ => rfl) rfl rfl rfl

theorem State.WavesBut.refclkCycle (h : s.WavesBut ex) : s.refclkCycle.WavesBut ex := by
  unfold State.refclkCycle State.tenthCycle State.secondCycle State.secondExpires
  repeat' split
  all_goals exact h.congr (fun _ => rfl) rfl rfl rfl

theorem Happens.wavesBut (k : Happens s t) (hr : s.RecordsSound) (h : s.WavesBut ex) : t.WavesBut ex := by
  cases k with
  | frame c p k => exact k.wavesBut hr h
  | powerOn straps => exact .of_free wave_replicate rfl rfl
  | resetPin straps => exact .of_free wave_replicate rfl rfl
  | second => unfold State.secondExpires; split <;> exact h.congr (fun _ => rfl) rfl rfl rfl
  | stationSecond st =>
    have h1 : (s.modStation st fun u => { u with due := u.due - 1 }).WavesBut ex := h.congr (fun _ => rfl) rfl rfl rfl
    exact h1.secondAt (hr.congr rfl rfl rfl) st
  | takeTimeout n x => exact h.timeoutSlip x
  | reachEmpty w d => exact h.endDelay w d
  | reach w d e rest hd he ht =>
    have h1 := h.reachSlip hr hd he
    rcases ht with rfl | ⟨d', _, rfl⟩
    · exact h1
    · exact h1.endDelay w d'
  | evacuationMove st b x => exact h.moveSlip hr st b x
  | cycle => exact h.refclkCycle
  | _ => exact h.congr (fun _ => rfl) rfl rfl rfl

/-- Settles O9: every event keeps FREE waves empty, SEALED ones at work, and what stands unmarked on a delay list PENDING. -/
theorem stepKeepsWavesSound : Obligations.StepKeepsWavesSound := by
  intro s t hr h hstep
  refine ⟨stepKeepsRecordsSound s t hr hstep, ?_⟩
  obtain ⟨rest, k⟩ := step_happens hstep
  exact State.wavesSound_iff.mpr (k.wavesBut (hr.beside rfl) ((State.wavesSound_iff.mp h).congr (fun _ => rfl) rfl rfl rfl))

end Sys2Proof.Machine
end

section
/-! SUPPORT. What events that take slips and tickets off the board leave of the waves (R22, R26 to R29). -/

namespace Sys2Proof.Machine

/-! ## Told in the course of an operation -/

theorem Kept.watchers {s t : State} (h : Kept s t) (q : PortId) : t.watchers q = s.watchers q := by
  rw [State.watchers, (h.ports q).same.role, State.watchers]

theorem Kept.watchersAnd {s t : State} (h : Kept s t) (o q : PortId) : t.watchersAnd o q = s.watchersAnd o q := by
  rw [State.watchersAnd, h.watchers, State.watchersAnd]

/-! ## The relation -/

/-- A wave has no ticket and no slip. -/
def State.Idle (s : State) (v : WaveId) : Prop := s.ticketCount v = 0 ∧ s.slipCount v = 0

/-- From `s` to `t`, slips and tickets may have left the board: SEALED waves that lost their last work are FREE, a delay in flight on such a
one has its reply, every other wave keeps all but the marks of the slips that left PENDING, and no other reply slot has changed. -/
structure State.Clears (s t : State) : Prop where
  still : Kept s t
  tickets : ∀ v, t.ticketCount v ≤ s.ticketCount v
  slips : ∀ v, t.slipCount v ≤ s.slipCount v
  awaits : ∀ v n, t.Awaits v n → s.Awaits v n
  stays : ∀ v n, s.Awaits v n → t.Pends n → t.Awaits v n
  pends : ∀ n, t.Pends n → s.Pends n
  freed : ∀ v, s.EmptiesWave t v → t.wave v = freeWave
  told : ∀ v, s.EmptiesWave t v → ∀ q, s.watchers q = true → (t.port q).Told ⟨s.clock, .waveFree v⟩
  kept : ∀ v, ¬s.EmptiesWave t v → t.wave v = s.waveMarked t v
  slots : ∀ p, (∀ v d, s.EmptiesWave t v → (s.wave v).delay = some d → d.port ≠ p) → (t.port p).slot = (s.port p).slot
  ended : ∀ v d, s.EmptiesWave t v → (s.wave v).delay = some d →
    (∀ u e, u ≠ v → (s.wave u).delay = some e → e.port ≠ d.port) →
    (t.port d.port).slot = .ready (d.reply v (s.wave v).sweep.start (d.passed + d.slips.length))

variable {s t u : State}

theorem State.EmptiesWave.idle {v : WaveId} (h : s.EmptiesWave t v) : t.Idle v := h.2.2

theorem State.Clears.idle (h : s.Clears t) {v : WaveId} (hv : s.Idle v) : t.Idle v :=
  ⟨Nat.le_zero.mp (hv.1 ▸ h.tickets v), Nat.le_zero.mp (hv.2 ▸ h.slips v)⟩

/-- A delay that still stands is the one that stood, perhaps with more marks. -/
theorem State.Clears.delay (h : s.Clears t) {v : WaveId} (hv : ¬s.EmptiesWave t v) {e : Delay} (he : (t.wave v).delay = some e) :
    ∃ d, (s.wave v).delay = some d ∧ e = { d with slips := marked (s.leaves t v) d.slips } := by
  rw [h.kept v hv, State.waveMarked_eq] at he
  obtain ⟨d, hd, rfl⟩ := Option.map_eq_some_iff.mp he
  exact ⟨d, hd, rfl⟩

theorem State.Clears.delay_port (h : s.Clears t) {v : WaveId} {e : Delay} (he : (t.wave v).delay = some e) :
    ∃ d, (s.wave v).delay = some d ∧ d.port = e.port := by
  by_cases hv : s.EmptiesWave t v
  · rw [h.freed v hv] at he
    cases he
  · obtain ⟨d, hd, rfl⟩ := h.delay hv he
    exact ⟨d, hd, rfl⟩

theorem State.Clears.refl (s : State) : s.Clears s where
  still := .refl s
  tickets _ := Nat.le_refl _
  slips _ := Nat.le_refl _
  awaits _ _ h := h
  stays _ _ h _ := h
  pends _ h := h
  freed _ h := absurd h.2.2 h.2.1
  told _ h := absurd h.2.2 h.2.1
  kept v _ := (State.waveMarked_of_slips rfl v).symm
  slots _ _ := rfl
  ended _ _ h := absurd h.2.2 h.2.1

/-- A wave that a later event empties was no less at work before an earlier one. -/
theorem State.Clears.empties_of_right (h : s.Clears t) {v : WaveId} (hv : t.EmptiesWave u v) : s.EmptiesWave u v := by
  obtain ⟨h1, h2, h3⟩ := hv
  have hstate : (t.wave v).state = (s.wave v).state := by
    rw [h.kept v fun hh => h2 hh.2.2]
    rfl
  exact ⟨hstate ▸ h1, fun hh => h2 (h.idle hh), h3⟩

theorem State.Clears.empties_of_left (k : t.Clears u) {v : WaveId} (hv : s.EmptiesWave t v) : s.EmptiesWave u v :=
  ⟨hv.1, hv.2.1, k.idle hv.2.2⟩

/-- A wave that two events empty falls to the first, or stands through it and falls to the second. -/
theorem State.Clears.empties_cases (h : s.Clears t) {v : WaveId} (hv : s.EmptiesWave u v) : s.EmptiesWave t v ∨ t.EmptiesWave u v := by
  obtain ⟨h1, h2, h3⟩ := hv
  by_cases ht : t.Idle v
  · exact .inl ⟨h1, h2, ht⟩
  · refine .inr ⟨?_, ht, h3⟩
    rw [h.kept v fun hh => ht hh.2.2]
    exact h1

theorem State.Clears.slots_trans (h : s.Clears t) (k : t.Clears u) (p : PortId)
    (hp : ∀ v d, s.EmptiesWave u v → (s.wave v).delay = some d → d.port ≠ p) : (u.port p).slot = (s.port p).slot := by
  rw [k.slots p, h.slots p fun v d hv hd => hp v d (k.empties_of_left hv) hd]
  intro v e hv he
  obtain ⟨d, hd, hde⟩ := h.delay_port he
  exact hde ▸ hp v d (h.empties_of_right hv) hd

theorem State.Clears.ended_trans (h : s.Clears t) (k : t.Clears u) {v : WaveId} {d : Delay} (hv : s.EmptiesWave u v) (hd : (s.wave v).delay = some d)
    (hu : ∀ w e, w ≠ v → (s.wave w).delay = some e → e.port ≠ d.port) :
    (u.port d.port).slot = .ready (d.reply v (s.wave v).sweep.start (d.passed + d.slips.length)) := by
  have hother (w : WaveId) (e : Delay) (hw : w ≠ v) (he : (t.wave w).delay = some e) : e.port ≠ d.port := by
    obtain ⟨d', hd', hde⟩ := h.delay_port he
    exact hde ▸ hu w d' hw hd'
  rcases h.empties_cases hv with hv | hv
  · rw [k.slots d.port fun w e hw he => hother w e (fun hwv => ?_) he, h.ended v d hv hd hu]
    exact hw.2.1 (hwv ▸ hv.2.2)
  · have hwave := h.kept v fun hh => hv.2.1 hh.2.2
    have hdelay : (t.wave v).delay = some { d with slips := marked (s.leaves t v) d.slips } := by
      rw [hwave, State.waveMarked_eq, Wave.marked, hd]
      rfl
    have hlen : (marked (s.leaves t v) d.slips).length = d.slips.length := by simp [marked]
    have := k.ended v _ hv hdelay hother
    rw [hwave, hlen] at this
    exact this

theorem State.Clears.trans (h : s.Clears t) (k : t.Clears u) : s.Clears u where
  still := h.still.trans k.still
  tickets v := (k.tickets v).trans (h.tickets v)
  slips v := (k.slips v).trans (h.slips v)
  awaits v n ha := h.awaits v n (k.awaits v n ha)
  stays v n ha hp := k.stays v n (h.stays v n ha (k.pends n hp)) hp
  pends n hp := h.pends n (k.pends n hp)
  freed v hv := by
    rcases h.empties_cases hv with hv | hv
    · rw [k.kept v fun hh => hh.2.1 hv.2.2, State.waveMarked_eq, h.freed v hv]
      rfl
    · exact k.freed v hv
  told v hv q hq := by
    rcases h.empties_cases hv with hv | hv
    · exact k.still.told (h.told v hv q hq)
    · have := k.told v hv q ((h.still.watchers q).trans hq)
      rwa [h.still.clock] at this
  kept v hv := by
    rw [k.kept v fun hh => hv (h.empties_of_right hh)]
    exact State.waveMarked_trans (h.kept v fun hh => hv (k.empties_of_left hh)) (h.awaits v) k.pends (h.stays v)
  slots := h.slots_trans k
  ended _ _ hv hd hu := h.ended_trans k hv hd hu

/-! ## Reply slots that stand -/

/-- From `s` to `t` every reply slot is as it was. -/
def SlotsKept (s t : State) : Prop := ∀ p, (t.port p).slot = (s.port p).slot

theorem SlotsKept.refl (s : State) : SlotsKept s s := fun _ => rfl

theorem SlotsKept.trans (h : SlotsKept s t) (k : SlotsKept t u) : SlotsKept s u := fun p => (k p).trans (h p)

theorem SlotsKept.foldl {α : Type} {f : State → α → State} (hf : ∀ s a, SlotsKept s (f s a)) (l : List α) (s : State) : SlotsKept s (l.foldl f s) := by
  induction l generalizing s with
  | nil => exact .refl s
  | cons a l ih => exact (hf s a).trans (ih _)

theorem SlotsKept.post (r : PortId → Bool) (b : NoticeBody) (s : State) : SlotsKept s (s.post r b) := fun p => by
  rw [State.port_post]
  split
  · exact PortUnit.append_slot _ _
  · rfl

theorem SlotsKept.workOut (n : Nat) (s : State) : SlotsKept s (s.workOut n) := by
  cases h : s.ticket? n with
  | none => simp only [State.workOut, h]; exact .refl s
  | some k =>
    rw [State.workOut_of_ticket? h]
    split
    · exact .post _ _ (s.modTicket n _)
    · exact .refl s

theorem SlotsKept.workOutAll (ms : List Member) (s : State) : SlotsKept s (s.workOutAll ms) :=
  SlotsKept.foldl (f := fun s (m : Member) => s.workOut m.ticket) (fun s m => .workOut m.ticket s) ms s

theorem SlotsKept.setMembers (ms : List Member) (ls : LineState) (s : State) : SlotsKept s (s.setMembers ms ls) :=
  SlotsKept.foldl (f := fun s (m : Member) => s.modLine m.ticket m.line fun l => { l with state := ls }) (fun s _ => .refl s) ms s

theorem SlotsKept.restate (x : Slip) (k : SlipState) (s : State) : SlotsKept s (s.restate x k) :=
  (SlotsKept.setMembers x.members _ (s.modSlip x.number _)).trans (.workOutAll _ _)

theorem SlotsKept.callSlip (st : StationId) (x : Slip) (s : State) : SlotsKept s (s.callSlip st x) := by
  rw [State.callSlip_eq]
  exact (SlotsKept.restate x _ (s.markLeft x.wave x.number)).trans (.post _ _ _)

theorem SlotsKept.previewPass (st : StationId) (s : State) : SlotsKept s (s.previewPass st) := by
  refine .foldl (fun s x => ?_) _ s
  split
  · exact .post _ _ (s.modSlip _ _)
  · exact .refl s

theorem SlotsKept.callPass (st : StationId) (n : Nat) (s : State) : SlotsKept s (s.callPass st n) := by
  induction n generalizing s with
  | zero => exact .refl s
  | succ n ih =>
    unfold State.callPass
    split
    · exact (SlotsKept.callSlip st _ s).trans (ih _)
    · exact .refl s

theorem SlotsKept.consider (st : StationId) (s : State) : SlotsKept s (s.consider st) := by
  unfold State.consider
  split
  · exact (SlotsKept.previewPass st s).trans (.callPass st _ _)
  · exact .previewPass st s
  · exact .refl s
  · exact .refl s

theorem SlotsKept.considerAll (sel : StationId → Bool) (s : State) : SlotsKept s (s.considerAll sel) := by
  refine .foldl (fun s st => ?_) _ s
  split
  · exact .consider st s
  · exact .refl s

theorem SlotsKept.finishEvacuation (st : StationId) (s : State) : SlotsKept s (s.finishEvacuation st) := by
  unfold State.finishEvacuation
  split
  · exact .post _ _ (s.modStation st _)
  · exact .refl s

/-! ## Events that free no wave -/

/-- An event in which no ticket and no slip leaves its wave, and no slip comes to PENDING. -/
theorem State.Clears.of_work (hk : Kept s t) (ht : t.tickets.map Ticket.wave = s.tickets.map Ticket.wave)
    (hx : t.slips.map Slip.wave = s.slips.map Slip.wave) (ha : ∀ v n, t.Awaits v n → s.Awaits v n)
    (hs : ∀ v n, s.Awaits v n → t.Pends n → t.Awaits v n) (hp : ∀ n, t.Pends n → s.Pends n) (hw : ∀ v, t.wave v = s.waveMarked t v)
    (hslot : SlotsKept s t) : s.Clears t := by
  have htc (v : WaveId) : t.ticketCount v = s.ticketCount v := by rw [State.ticketCount_eq, ht, ← State.ticketCount_eq]
  have hsc (v : WaveId) : t.slipCount v = s.slipCount v := by rw [State.slipCount_eq, hx, ← State.slipCount_eq]
  have hno (v : WaveId) : ¬s.EmptiesWave t v := fun ⟨_, h2, h3, h4⟩ => h2 ⟨htc v ▸ h3, hsc v ▸ h4⟩
  exact ⟨hk, fun v => (htc v).le, fun v => (hsc v).le, ha, hs, hp, fun v hv => absurd hv (hno v), fun v hv => absurd hv (hno v), fun v _ => hw v,
    fun p _ => hslot p, fun v _ hv => absurd hv (hno v)⟩

theorem State.Pends.of_view {n : Nat} (h : s.Pends n) (hx : t.slips.map Slip.waveView = s.slips.map Slip.waveView) : t.Pends n := by
  obtain ⟨x, hxs, hn, hp⟩ := h
  exact (State.Awaits.of_view ⟨x, hxs, hn, rfl, hp⟩ hx).pends

/-- An event that the waves, and what they read of tickets and slips, stand through. -/
theorem State.Clears.of_view (hk : Kept s t) (ht : t.tickets.map Ticket.wave = s.tickets.map Ticket.wave)
    (hx : t.slips.map Slip.waveView = s.slips.map Slip.waveView) (hw : ∀ v, t.wave v = s.wave v) (hslot : SlotsKept s t) :
    s.Clears t := by
  have hno (v : WaveId) : s.leaves t v = fun _ => false := by
    funext n
    rw [Bool.eq_false_iff, ne_eq, State.leaves_iff]
    exact fun ⟨ha, hp⟩ => hp (ha.of_view hx).pends
  refine .of_work hk ht (Slip.map_wave_of_view hx) (fun v n ha => ha.of_view hx.symm) (fun v n ha _ => ha.of_view hx) (fun n hp => hp.of_view hx.symm)
    (fun v => ?_) hslot
  rw [State.waveMarked_eq, hno, Wave.marked_none, hw]

/-! ## Operations that free no wave -/

theorem State.Clears.post (r : PortId → Bool) (b : NoticeBody) (s : State) : s.Clears (s.post r b) :=
  .of_view (.post r b s) rfl rfl (fun _ => rfl) (.post r b s)

theorem State.Clears.modLine (n i : Nat) (f : Line → Line) (s : State) : s.Clears (s.modLine n i f) :=
  .of_view (.modLine s n i f) (Ticket.map_wave_modTicket (f := fun k => { k with lines := k.lines.modify i f }) (fun _ => rfl) s) rfl
    (fun _ => rfl) (.refl s)

theorem State.Clears.modSlip {n : Nat} {f : Slip → Slip} (hk : Kept s (s.modSlip n f))
    (hf : ∀ x ∈ s.slips, x.number = n → (f x).waveView = x.waveView) : s.Clears (s.modSlip n f) :=
  .of_view hk rfl (Slip.map_waveView_modSlip hf) (fun _ => rfl) (.refl s)

theorem State.Clears.workOut (n : Nat) (s : State) : s.Clears (s.workOut n) :=
  .of_view (.workOut n s) (Quiet.workOut n s).map_wave (by rw [State.slips_workOut]) (State.wave_workOut n s) (.workOut n s)

theorem State.Clears.workOutAll (ms : List Member) (s : State) : s.Clears (s.workOutAll ms) :=
  .of_view (.workOutAll ms s) (Quiet.workOutAll ms s).map_wave (by rw [State.slips_workOutAll]) (State.wave_workOutAll ms s) (.workOutAll ms s)

theorem State.Clears.setMembers (ms : List Member) (ls : LineState) (s : State) : s.Clears (s.setMembers ms ls) :=
  .of_view (.setMembers ms ls s) (Quiet.setMembers ms ls s).map_wave (by rw [State.slips_setMembers]) (State.wave_setMembers ms ls s)
    (.setMembers ms ls s)

theorem State.Clears.finishEvacuation (st : StationId) (s : State) : s.Clears (s.finishEvacuation st) :=
  have h := AtStations.finishEvacuation st s
  .of_view (.finishEvacuation st s) (by rw [h.tickets]) (by rw [h.slips]) h.wave (.finishEvacuation st s)

/-- Considerations take slips out of PENDING and free nothing (R26). -/
theorem State.Considered.clears {sel : StationId → Prop} (h : State.Considered sel s t) (hr : s.RecordsSound) (hs : SlotsKept s t) : s.Clears t := by
  have hcons := h.slips.imp fun _ _ k => k.considers
  have hback (y : Slip) (hy : y ∈ t.slips) (hp : y.isPending = true) : ∃ x ∈ s.slips, x.number = y.number ∧ x.wave = y.wave ∧ x.isPending = true := by
    obtain ⟨x, hx, hc⟩ := forall₂_mem_right hcons hy
    exact ⟨x, hx, hc.number.symm, hc.wave.symm, hc.pending hp⟩
  refine .of_work h.kept h.quiet.map_wave (forall₂_map_eq hcons fun _ _ k => k.wave) (fun v n ha => ?_) (fun v n ha hp => ?_) (fun n hp => ?_) h.waves hs
  · obtain ⟨y, hy, hn, hw, hp⟩ := ha
    obtain ⟨x, hx, hxn, hxw, hxp⟩ := hback y hy hp
    exact ⟨x, hx, hxn.trans hn, hxw.trans hw, hxp⟩
  · obtain ⟨x, hx, hn, hw, _⟩ := ha
    obtain ⟨y, hy, hyn, hyp⟩ := hp
    have hc := (h.slip hr hx hy (hyn.trans hn.symm)).considers
    exact ⟨y, hy, hyn, hc.wave.trans hw, hyp⟩
  · obtain ⟨y, hy, hyn, hyp⟩ := hp
    obtain ⟨x, hx, hxn, _, hxp⟩ := hback y hy hyp
    exact ⟨x, hx, hxn.trans hyn, hxp⟩

theorem State.Clears.consider (hr : s.RecordsSound) (st : StationId) : s.Clears (s.consider st) :=
  (State.consider_considered hr st).clears hr (.consider st s)

theorem State.Clears.considerAll (hr : s.RecordsSound) (sel : StationId → Bool) : s.Clears (s.considerAll sel) :=
  (State.considerAll_considered hr sel).clears hr (.considerAll sel s)

/-! ## Records leaving the board (R22, R28, R29) -/

/-- A slip or ticket of wave `w` taken off the board, and the wave freed where it was the last. -/
theorem State.Clears.freeIfDone {w : WaveId} (hk : Kept s t) (hports : t.ports = s.ports) (htc : ∀ v, t.ticketCount v ≤ s.ticketCount v)
    (hsc : ∀ v, t.slipCount v ≤ s.slipCount v) (ha : ∀ v n, t.Awaits v n → s.Awaits v n) (hs : ∀ v n, s.Awaits v n → t.Pends n → t.Awaits v n)
    (hp : ∀ n, t.Pends n → s.Pends n) (hw : ∀ v, t.wave v = s.waveMarked t v) (hne : ∀ v, v ≠ w → t.Idle v → s.Idle v) (hself : ¬s.Idle w) :
    s.Clears (t.freeIfDone w) := by
  have hport (p : PortId) : t.port p = s.port p := by rw [State.port, hports, State.port]
  have hframe := t.freeIfDone_frame w
  have hx : (t.freeIfDone w).slips = t.slips := by rw [hframe]
  have htk : (t.freeIfDone w).tickets = t.tickets := by rw [hframe]
  have hidle (v : WaveId) : (t.freeIfDone w).Idle v ↔ t.Idle v := by
    rw [State.Idle, State.ticketCount, State.slipCount, hx, htk]
    exact Iff.rfl
  have hstate (v : WaveId) : (t.wave v).state = (s.wave v).state := by rw [hw]; rfl
  have hiff (v : WaveId) : s.EmptiesWave (t.freeIfDone w) v ↔ v = w ∧ t.Done w := by
    constructor
    · rintro ⟨h1, h2, h3'⟩
      have h3 : t.Idle v := (hidle v).mp h3'
      have hv : v = w := Decidable.byContradiction fun hv => h2 (hne v hv h3)
      subst hv
      exact ⟨rfl, (hstate v).trans h1, (hidle v).mp h3'⟩
    · rintro ⟨rfl, h1, h2⟩
      exact ⟨(hstate v).symm.trans h1, hself, (hidle v).mpr h2⟩
  have hendslot (p : PortId) (hd : ∀ d, (s.wave w).delay = some d → d.port ≠ p) : ((t.endDelayOf w).port p).slot = (s.port p).slot := by
    cases he : (t.wave w).delay with
    | none => rw [State.endDelayOf_of_none he, hport]
    | some e =>
      rw [hw, State.waveMarked_eq] at he
      obtain ⟨d, hd', rfl⟩ := Option.map_eq_some_iff.mp he
      rw [← State.waveMarked_eq, ← hw] at he
      rw [State.endDelayOf_of_some he, State.endDelay_port, if_neg (Ne.symm (hd d hd')), hport]
  refine ⟨hk.trans (.freeIfDone w t), fun v => ?_, fun v => ?_, fun v n h => ?_, fun v n h1 h2 => ?_, fun n h => ?_, fun v hv => ?_, fun v hv q hq => ?_,
    fun v hv => ?_, fun p hp' => ?_, fun v d hv hd _ => ?_⟩
  · rw [State.ticketCount, htk]; exact htc v
  · rw [State.slipCount, hx]; exact hsc v
  · exact ha v n (by rwa [State.Awaits, hx] at h)
  · rw [State.Pends, hx] at h2
    rw [State.Awaits, hx]
    exact hs v n h1 h2
  · exact hp n (by rwa [State.Pends, hx] at h)
  · obtain ⟨rfl, hd⟩ := (hiff v).mp hv
    exact State.freeIfDone_wave_self hd
  · obtain ⟨rfl, hd⟩ := (hiff v).mp hv
    have := State.freeIfDone_told hd (q := q) ((hk.watchers q).trans hq)
    rwa [hk.clock] at this
  · have hmark : s.waveMarked (t.freeIfDone w) v = s.waveMarked t v := by rw [State.waveMarked, hx, State.waveMarked]
    rw [hmark, ← hw]
    by_cases hvw : v = w
    · subst hvw
      rw [State.freeIfDone_of_not_done fun hd => hv ((hiff v).mpr ⟨rfl, hd⟩)]
    · exact State.freeIfDone_wave_ne t hvw
  · by_cases hd : t.Done w
    · have hslot := hendslot p fun d hd' => hp' w d ((hiff w).mpr ⟨rfl, hd⟩) hd'
      rw [State.freeIfDone_port hd]
      split
      · exact (PortUnit.append_slot _ _).trans hslot
      · exact hslot
    · rw [State.freeIfDone_of_not_done hd, hport]
  · obtain ⟨rfl, hdone⟩ := (hiff v).mp hv
    have hwave := hw v
    have hdelay : (t.wave v).delay = some { d with slips := marked (s.leaves t v) d.slips } := by
      rw [hwave, State.waveMarked_eq, Wave.marked, hd]
      rfl
    have hlen : (marked (s.leaves t v) d.slips).length = d.slips.length := by simp [marked]
    have hsweep : (t.wave v).sweep = (s.wave v).sweep := by rw [hwave]; rfl
    have hslot : ((t.endDelayOf v).port d.port).slot = .ready (d.reply v (s.wave v).sweep.start (d.passed + d.slips.length)) := by
      rw [State.endDelayOf_of_some hdelay, State.endDelay_port, if_pos rfl, hlen, hsweep]
      exact (PortUnit.placeReply_effect _ _ _).1
    rw [State.freeIfDone_port hdone]
    split
    · exact (PortUnit.append_slot _ _).trans hslot
    · exact hslot

end Sys2Proof.Machine
end

section
/-! SUPPORT. Slips and tickets leaving the board: what a slip freed, a ticket off the table and the end of draining leave (R8, R9, R22, R68, R78,
R128). -/

namespace Sys2Proof.Machine

variable {s t u : State}

/-! ## Evacuations whose queue empties (R128) -/

/-- From `s` to `t` queues may have lost slips: no station has changed but by the end of its evacuation, told where it ended, and one that ended
has no slip queued. -/
structure State.Sheds (s t : State) : Prop where
  still : Kept s t
  station : ∀ st, t.station st = { s.station st with evacuating := (t.station st).evacuating }
  queues : ∀ st, t.Queues st → s.Queues st
  started : ∀ st, (t.station st).evacuating = true → (s.station st).evacuating = true
  ended : ∀ st, (s.station st).evacuating = true → (t.station st).evacuating = false → ¬t.Queues st ∧ ∀ q, s.watchersOf st q = true →
    (t.port q).Told ⟨s.clock, .stationState st .down .evacuated (s.station st).config.backup 0⟩

theorem State.Sheds.refl (s : State) : s.Sheds s :=
  ⟨.refl s, fun _ => rfl, fun _ h => h, fun _ h => h, fun _ h k => absurd (k.symm.trans h) Bool.false_ne_true⟩

theorem State.Sheds.trans (h : s.Sheds t) (k : t.Sheds u) : s.Sheds u where
  still := h.still.trans k.still
  station st := by rw [k.station, h.station]
  queues st hq := h.queues st (k.queues st hq)
  started st he := h.started st (k.started st he)
  ended st he hn := by
    cases ht : (t.station st).evacuating with
    | true =>
      obtain ⟨h1, h2⟩ := k.ended st ht hn
      refine ⟨h1, fun q hq => ?_⟩
      have := h2 q ((h.still.watchersOf st q).trans hq)
      rwa [h.still.clock, h.still.configs] at this
    | false =>
      obtain ⟨h1, h2⟩ := h.ended st he ht
      exact ⟨fun hq => h1 (k.queues st hq), fun q hq => k.still.told (h2 q hq)⟩

/-- No station changes, and no slip comes to a queue. -/
theorem State.Sheds.of_stations (hk : Kept s t) (hst : ∀ st, t.station st = s.station st) (hq : ∀ st, t.Queues st → s.Queues st) : s.Sheds t :=
  ⟨hk, fun st => by rw [hst], hq, fun st he => by rwa [hst] at he, fun st he hn => by rw [hst, he] at hn; cases hn⟩

theorem State.Queues.congr {st : StationId} (h : s.Queues st) (hx : t.slips = s.slips) : t.Queues st := by rwa [State.Queues, hx]

theorem State.Sheds.of_slips (hk : Kept s t) (hst : ∀ st, t.station st = s.station st) (hx : t.slips = s.slips) : s.Sheds t :=
  .of_stations hk hst fun _ h => h.congr hx.symm

theorem State.Considered.sheds {sel : StationId → Prop} (h : State.Considered sel s t) : s.Sheds t := by
  refine .of_stations h.kept h.quiet.station fun st hq => ?_
  obtain ⟨y, hy, hst, hp⟩ := hq
  obtain ⟨x, hx, hc⟩ := forall₂_mem_right (h.slips.imp fun _ _ k => k.considers) hy
  have hxp := hc.pending hp
  obtain ⟨_, _, rfl⟩ := hc.exists_fields
  exact ⟨x, hx, hst, hxp⟩

theorem State.station_finishEvacuation_ne {st d : StationId} (h : d ≠ st) (s : State) : (s.finishEvacuation st).station d = s.station d := by
  unfold State.finishEvacuation
  split
  · rw [State.endEvacuation, State.station_post, State.station_modStation_ne h]
  · rfl

/-- An evacuation goes on exactly while its queue holds a slip (R128). -/
theorem State.station_finishEvacuation_self (st : StationId) (s : State) :
    (s.finishEvacuation st).station st = { s.station st with evacuating := (s.station st).evacuating && !(s.queue st).isEmpty } := by
  unfold State.finishEvacuation
  by_cases h : ((s.station st).evacuating && (s.queue st).isEmpty) = true
  · obtain ⟨h1, h2⟩ := (Bool.and_eq_true _ _).mp h
    rw [if_pos h, State.endEvacuation, State.station_post, State.station_modStation_self, h1, h2]
    rfl
  · rw [if_neg h]
    cases h1 : (s.station st).evacuating with
    | false => exact (StationUnit.mk.injEq ..).mpr ⟨rfl, rfl, rfl, rfl, h1, rfl⟩
    | true =>
      have h2 : (s.queue st).isEmpty = false := by simpa [h1] using h
      rw [h2]
      exact (StationUnit.mk.injEq ..).mpr ⟨rfl, rfl, rfl, rfl, h1, rfl⟩

theorem State.finishEvacuation_told {st : StationId} (h1 : (s.station st).evacuating = true) (h2 : ¬s.Queues st) {q : PortId}
    (hq : s.watchersOf st q = true) :
    ((s.finishEvacuation st).port q).Told ⟨s.clock, .stationState st .down .evacuated (s.station st).config.backup 0⟩ := by
  have hnil : s.queue st = [] := not_not.mp fun hne => h2 (State.queue_ne_nil.mp hne)
  unfold State.finishEvacuation
  rw [if_pos (by rw [h1, hnil]; rfl)]
  exact State.endEvacuation_told hq _ _

theorem State.Sheds.finishEvacuation (st : StationId) (s : State) : s.Sheds (s.finishEvacuation st) := by
  have hx := (AtStations.finishEvacuation st s).slips
  have hstill : ∀ d, (s.finishEvacuation st).station d =
      { s.station d with evacuating := ((s.finishEvacuation st).station d).evacuating } := fun d => by
    by_cases hd : d = st
    · subst hd; rw [State.station_finishEvacuation_self]
    · rw [State.station_finishEvacuation_ne hd]
  refine ⟨.finishEvacuation st s, hstill, fun d h => h.congr hx.symm, fun d he => ?_, fun d he hn => ?_⟩ <;> by_cases hd : d = st
  · subst hd
    rw [State.station_finishEvacuation_self] at he
    exact ((Bool.and_eq_true _ _).mp he).1
  · rwa [State.station_finishEvacuation_ne hd] at he
  · subst hd
    have hq : ¬s.Queues d := fun hq => by
      rw [State.station_finishEvacuation_self] at hn
      have : (s.queue d).isEmpty = false := List.isEmpty_eq_false_iff.mpr (State.queue_ne_nil.mpr hq)
      simp [he, this] at hn
    exact ⟨fun h => hq (h.congr hx.symm), fun q hw => State.finishEvacuation_told he hq hw⟩
  · rw [State.station_finishEvacuation_ne hd, he] at hn
    cases hn

/-! ## A slip freed (R22, R78) -/

/-- A slip freed, before the end of the evacuation that its leaving may be. -/
def State.unslip (x : Slip) (s : State) : State :=
  { s.markLeft x.wave x.number with slips := s.slips.filter fun y => y.number != x.number }.freeIfDone x.wave

theorem State.dropSlip_eq (x : Slip) (s : State) :
    s.dropSlip x = if x.isPending then (s.unslip x).finishEvacuation x.station else s.unslip x := rfl

theorem Kept.unslip (x : Slip) (s : State) : Kept s (s.unslip x) :=
  ((Kept.markLeft x.wave x.number s).trans (.filterSlips _ _)).trans (.freeIfDone _ _)

theorem State.unslip_frame (x : Slip) (s : State) : s.unslip x =
    { s with waves := (s.unslip x).waves, slips := s.slips.filter fun y => y.number != x.number, ports := (s.unslip x).ports } := by
  have := State.freeIfDone_frame { s.markLeft x.wave x.number with slips := s.slips.filter fun y => y.number != x.number } x.wave
  rw [State.unslip]
  generalize State.freeIfDone _ _ = a at this ⊢
  rw [this]
  rfl

theorem State.slips_unslip (x : Slip) (s : State) : (s.unslip x).slips = s.slips.filter fun y => y.number != x.number := by rw [State.unslip_frame]
theorem State.station_unslip (x : Slip) (s : State) (st : StationId) : (s.unslip x).station st = s.station st := by rw [State.unslip_frame]; rfl

theorem State.Only.not_mem_filter (ho : s.Only x) {y : Slip} (hy : y ∈ s.slips) (hne : y ≠ x) : y ∈ s.slips.filter fun y => y.number != x.number :=
  List.mem_filter.mpr ⟨hy, by simpa using fun hn => hne (ho y hy hn)⟩

theorem State.Clears.unslip {x : Slip} (ho : s.Only x) (hx : x ∈ s.slips) (hm : x.isPending = true ∨ ∃ ex, s.WavesBut ex) : s.Clears (s.unslip x) := by
  have hsub : (s.slips.filter fun y => y.number != x.number).Sublist s.slips := List.filter_sublist
  have hawait (v : WaveId) (n : Nat) (ha : s.Awaits v n) (hn : n ≠ x.number) :
      ∃ y ∈ s.slips.filter (fun y => y.number != x.number), y.number = n ∧ y.wave = v ∧ y.isPending = true := by
    obtain ⟨y, hy, hyn, hw, hp⟩ := ha
    exact ⟨y, List.mem_filter.mpr ⟨hy, by simpa [hyn] using hn⟩, hyn, hw, hp⟩
  have hgone (y : Slip) (hy : y ∈ s.slips.filter fun y => y.number != x.number) : y.number ≠ x.number := by simpa using (List.mem_filter.mp hy).2
  have hself : s.slipCount x.wave ≠ 0 := fun h0 => by
    rw [State.slipCount, List.length_eq_zero_iff, List.filter_eq_nil_iff] at h0
    exact h0 x hx (beq_self_eq_true _)
  refine State.Clears.freeIfDone (w := x.wave) ((Kept.markLeft _ _ s).trans (.filterSlips _ _)) rfl (fun _ => Nat.le_refl _) (fun v => ?_) (fun v n ha => ?_)
    (fun v n ha hp => ?_) (fun n hp => ?_) (fun v => ?_) (fun v hv hi => ⟨hi.1, ?_⟩) fun hi => hself hi.2
  · exact (hsub.filter fun y => y.wave == v).length_le
  · obtain ⟨y, hy, hh⟩ := ha
    exact ⟨y, hsub.subset hy, hh⟩
  · obtain ⟨y, hy, hyn, _⟩ := hp
    exact hawait v n ha (hyn ▸ hgone y hy)
  · obtain ⟨y, hy, hh⟩ := hp
    exact ⟨y, hsub.subset hy, hh⟩
  · show (s.markLeft x.wave x.number).wave v = _
    rw [State.wave_markLeft, State.waveMarked_eq]
    refine Wave.marked_congr fun d hd e he h2 => ?_
    rw [Bool.eq_iff_iff, State.leaves_iff, Bool.and_eq_true, decide_eq_true_eq, decide_eq_true_eq]
    constructor
    · rintro ⟨rfl, hn⟩
      have hp : x.isPending = true := hm.elim id fun ⟨ex, hw⟩ => by
        have hmem : (x.number, false) ∈ d.slips := by rw [← hn, ← h2]; exact he
        obtain ⟨y, hy, hyn, _, hyp⟩ := hw.listed x.wave d hd x.number hmem
        exact ho y hy hyn ▸ hyp
      exact ⟨⟨x, hx, hn.symm, rfl, hp⟩, fun ⟨y, hy, hyn, _⟩ => hgone y hy (hyn.trans hn)⟩
    · rintro ⟨ha, hno⟩
      have hn : e.1 = x.number := Decidable.byContradiction fun hn => hno <| by
        obtain ⟨y, hy, hyn, _, hyp⟩ := hawait v e.1 ha hn
        exact ⟨y, hy, hyn, hyp⟩
      obtain ⟨y, hy, hyn, hw, _⟩ := ha
      exact ⟨by rw [← hw, ho y hy (hyn.trans hn)], hn⟩
  · have h0 := hi.2
    rw [State.slipCount, List.length_eq_zero_iff, List.filter_eq_nil_iff] at h0 ⊢
    intro y hy hyv
    refine h0 y (List.mem_filter.mpr ⟨hy, ?_⟩) hyv
    have : y.number ≠ x.number := fun hn => hv (by rw [← beq_iff_eq.mp hyv, ho y hy hn])
    simpa using this

theorem State.Clears.dropSlip {x : Slip} (ho : s.Only x) (hx : x ∈ s.slips) (hm : x.isPending = true ∨ ∃ ex, s.WavesBut ex) : s.Clears (s.dropSlip x) := by
  rw [State.dropSlip_eq]
  split
  · exact (State.Clears.unslip ho hx hm).trans (.finishEvacuation _ _)
  · exact .unslip ho hx hm

theorem State.Sheds.unslip (x : Slip) (s : State) : s.Sheds (s.unslip x) := by
  refine .of_stations (.unslip x s) (State.station_unslip x s) fun st hq => ?_
  obtain ⟨y, hy, hh⟩ := hq
  rw [State.slips_unslip] at hy
  exact ⟨y, List.mem_of_mem_filter hy, hh⟩

theorem State.Sheds.dropSlip (x : Slip) (s : State) : s.Sheds (s.dropSlip x) := by
  rw [State.dropSlip_eq]
  split
  · exact (State.Sheds.unslip x s).trans (.finishEvacuation _ _)
  · exact .unslip x s

/-! ## A ticket off the table (R22, R68) -/

/-- A ticket off the table, before the end of draining. -/
def State.untabled (k : Ticket) (s : State) : State :=
  { s with tickets := s.tickets.filter fun u => u.number != k.number }.freeIfDone k.wave

theorem State.leaveTable_eq (k : Ticket) (s : State) : s.leaveTable k = (s.untabled k).endIfDrained := rfl

theorem Kept.untabled (k : Ticket) (s : State) : Kept s (s.untabled k) := (Kept.filterTickets s _).trans (.freeIfDone _ _)

theorem State.untabled_frame (k : Ticket) (s : State) : s.untabled k =
    { s with waves := (s.untabled k).waves, tickets := s.tickets.filter fun u => u.number != k.number, ports := (s.untabled k).ports } := by
  have := State.freeIfDone_frame { s with tickets := s.tickets.filter fun u => u.number != k.number } k.wave
  rw [State.untabled]
  generalize State.freeIfDone _ _ = a at this ⊢
  rw [this]

theorem State.tickets_untabled (k : Ticket) (s : State) : (s.untabled k).tickets = s.tickets.filter fun u => u.number != k.number := by
  rw [State.untabled_frame]
theorem State.slips_untabled (k : Ticket) (s : State) : (s.untabled k).slips = s.slips := by rw [State.untabled_frame]
theorem State.station_untabled (k : Ticket) (s : State) (st : StationId) : (s.untabled k).station st = s.station st := by rw [State.untabled_frame]; rfl
theorem State.service_untabled (k : Ticket) (s : State) : (s.untabled k).service = s.service := by rw [State.untabled_frame]

theorem Stands.untabled (k : Ticket) (s : State) : Stands s (s.untabled k) := by
  rw [Stands, s.untabled_frame k]

/-- A ticket that stands on the table leaves it. -/
theorem State.Clears.untabled {k : Ticket} (hk : ∃ j ∈ s.tickets, j.wave = k.wave ∧ ∀ i ∈ s.tickets, i.number = k.number → i = j) :
    s.Clears (s.untabled k) := by
  obtain ⟨j, hj, hw, honly⟩ := hk
  have hsub : (s.tickets.filter fun u => u.number != k.number).Sublist s.tickets := List.filter_sublist
  refine State.Clears.freeIfDone (w := k.wave) (.filterTickets s _) rfl (fun v => (hsub.filter _).length_le) (fun _ => Nat.le_refl _) (fun _ _ h => h)
    (fun _ _ h _ => h) (fun _ h => h) (fun v => (State.waveMarked_of_slips rfl v).symm) (fun v hv hi => ⟨?_, hi.2⟩) fun hi => ?_
  · have h0 := hi.1
    rw [State.ticketCount, List.length_eq_zero_iff, List.filter_eq_nil_iff] at h0 ⊢
    intro i hi' hiv
    refine h0 i (List.mem_filter.mpr ⟨hi', ?_⟩) hiv
    have : i.number ≠ k.number := fun hn => hv (by rw [← beq_iff_eq.mp hiv, honly i hi' hn, hw])
    simpa using this
  · have h0 := hi.1
    rw [State.ticketCount, List.length_eq_zero_iff, List.filter_eq_nil_iff] at h0
    exact h0 j hj (beq_iff_eq.mpr hw)

theorem State.RecordsSound.untabled (hr : s.RecordsSound) (k : Ticket) : (s.untabled k).RecordsSound := hr.untable k

theorem State.RecordsSound.clears_untabled (hr : s.RecordsSound) {k : Ticket} (hk : k ∈ s.tickets) : s.Clears (s.untabled k) :=
  .untabled ⟨k, hk, rfl, fun _ hj hn => hr.ticket_unique hk hj hn⟩

theorem State.Sheds.untabled (k : Ticket) (s : State) : s.Sheds (s.untabled k) :=
  .of_slips (.untabled k s) (State.station_untabled k s) (State.slips_untabled k s)

/-! ## The end of draining (R8, R9) -/

theorem State.endIfDrained_of_not (h : ¬(s.service = .draining ∧ s.tickets = [])) : s.endIfDrained = s := if_neg h

theorem State.endIfDrained_of (h : s.service = .draining ∧ s.tickets = []) : s.endIfDrained = s.endDraining := if_pos h

/-- The slips that remain discarded, before the service is CLOSED. -/
def State.emptied (s : State) : State := s.slips.foldl State.discard s

theorem State.endDraining_eq (s : State) : s.endDraining = s.emptied.toClosed.post everyPort (.service .closed .closed) := rfl

theorem State.slips_emptied (s : State) : s.emptied.slips = [] := s.endDraining_slips

theorem Kept.emptied (s : State) : Kept s s.emptied := .foldl Kept.discard _ s

theorem Stands.emptied (s : State) : Stands s s.emptied := .discardAll _ s

theorem State.Sheds.discards (l : List Slip) (s : State) : s.Sheds (l.foldl State.discard s) := by
  induction l generalizing s with
  | nil => exact .refl s
  | cons x l ih =>
    have hp : s.Sheds (s.postWithdrawn x .discarded) := .of_slips (.post _ _ s) (fun _ => rfl) rfl
    exact (hp.trans (.dropSlip x _)).trans (ih _)

theorem State.Sheds.emptied (s : State) : s.Sheds s.emptied := .discards _ s

theorem State.Clears.discards {ex : WaveId → Prop} (l : List Slip) (hn : (l.map Slip.number).Nodup) (hl : ∀ x ∈ l, x ∈ s.slips ∧ s.Only x)
    (hw : s.WavesBut ex) : s.Clears (l.foldl State.discard s) := by
  induction l generalizing s with
  | nil => exact .refl s
  | cons x l ih =>
    obtain ⟨hx, ho⟩ := hl x List.mem_cons_self
    obtain ⟨hnx, hnl⟩ := List.nodup_cons.mp hn
    have hw1 : (s.postWithdrawn x .discarded).WavesBut ex := hw.post _ _
    have h1 : s.Clears (s.discard x) := (State.Clears.post _ _ s).trans (.dropSlip (s := s.postWithdrawn x .discarded) ho hx (.inr ⟨ex, hw1⟩))
    refine h1.trans (ih hnl (fun y hy => ?_) (hw1.dropSlip ho))
    obtain ⟨hys, hyo⟩ := hl y (List.mem_cons_of_mem _ hy)
    have hne : y.number ≠ x.number := fun he => hnx (he ▸ List.mem_map_of_mem hy)
    rw [State.discard_slips]
    refine ⟨List.mem_filter.mpr ⟨hys, by simpa using hne⟩, hyo.subset ?_⟩
    rw [State.discard_slips]
    exact List.filter_subset_self _

theorem State.Clears.endDraining {ex : WaveId → Prop} (hr : s.RecordsSound) (hw : s.WavesBut ex) : s.Clears s.endDraining := by
  have hd : s.Clears s.emptied := .discards _ (List.pairwise_map.mpr (hr.slips_rise.imp Nat.ne_of_lt)) (fun x hx => ⟨hx, hr.only hx⟩) hw
  rw [State.endDraining_eq]
  have hc : s.emptied.Clears s.emptied.toClosed := .of_view (.toClosed _) rfl rfl (fun _ => rfl) fun _ => rfl
  exact (hd.trans hc).trans (.post _ _ _)

/-- Every slip discarded has its WITHDRAWN (R9). -/
theorem State.discards_told (l : List Slip) (s : State) {x : Slip} (hx : x ∈ l) {q : PortId} (hq : s.isBound x.station q = true) :
    ((l.foldl State.discard s).port q).Told ⟨s.clock, .withdrawn x.number x.station x.item .discarded none⟩ := by
  induction l generalizing s with
  | nil => cases hx
  | cons y l ih =>
    have hk := Kept.discard s y
    rcases List.mem_cons.mp hx with rfl | hx
    · have h1 := (Kept.refl s).told_post hq (.withdrawn x.number x.station x.item .discarded none)
      have h2 := (Kept.dropSlip x (s.postWithdrawn x .discarded)).told h1
      exact (Kept.foldl Kept.discard l (s.discard x)).told h2
    · have := ih (s.discard y) hx ((hk.isBound _ _).trans hq)
      rwa [hk.clock] at this

/-- What the end of draining leaves but for the waves (R1, R2, R8, R9). -/
structure State.Drained (s t : State) : Prop where
  service : t.service = .closed
  timer : t.secondTimer = none
  slips : t.slips = []
  tickets : t.tickets = s.tickets
  frame : t = { s with
    service := t.service, secondTimer := t.secondTimer, waves := t.waves, tickets := t.tickets, slips := t.slips, stations := t.stations
    ports := t.ports }
  station : ∀ st, t.station st = { s.station st with evacuating := (t.station st).evacuating, due := 0 }
  queues : ∀ st, ¬t.Queues st
  started : ∀ st, (t.station st).evacuating = true → (s.station st).evacuating = true
  ended : ∀ st, (s.station st).evacuating = true → (t.station st).evacuating = false → ∀ q, s.watchersOf st q = true →
    (t.port q).Told ⟨s.clock, .stationState st .down .evacuated (s.station st).config.backup 0⟩
  discarded : ∀ x ∈ s.slips, ∀ q, s.isBound x.station q = true → (t.port q).Told ⟨s.clock, .withdrawn x.number x.station x.item .discarded none⟩
  last : ∀ q, (t.port q).ToldLast ⟨s.clock, .service .closed .closed⟩

theorem State.tickets_discards (l : List Slip) (s : State) : (l.foldl State.discard s).tickets = s.tickets := by
  induction l generalizing s with
  | nil => rfl
  | cons x l ih =>
    rw [List.foldl_cons, ih, State.discard, State.tickets_dropSlip]
    rfl

theorem State.drained_endDraining (s : State) : s.Drained s.endDraining := by
  have hsl := s.slips_emptied
  have htk : s.emptied.tickets = s.tickets := s.tickets_discards s.slips
  have hst := Stands.emptied s
  have hsh := State.Sheds.emptied s
  have hk := Kept.emptied s
  have htold (x : Slip) (hx : x ∈ s.slips) (q : PortId) (hq : s.isBound x.station q = true) := s.discards_told s.slips hx hq
  change ∀ x ∈ s.slips, ∀ q, s.isBound x.station q = true → (s.emptied.port q).Told _ at htold
  rw [State.endDraining_eq]
  generalize s.emptied = a at hsl htk hst hsh hk htold ⊢
  have hka : Kept a (a.toClosed.post everyPort (.service .closed .closed)) := (Kept.toClosed a).trans (.post _ _ _)
  have hstation (st : StationId) : (a.toClosed.post everyPort (.service .closed .closed)).station st = { a.station st with due := 0 } := by
    rw [State.station_post, State.toClosed, State.station_mapStations]
    rfl
  have hx : (a.toClosed.post everyPort (.service .closed .closed)).slips = [] := hsl
  refine ⟨rfl, rfl, hx, htk, ?_, fun st => ?_, fun st hq => ?_, fun st he => ?_, fun st he hn q hq => ?_, fun x hx q hq => hka.told (htold x hx q hq), fun q => ?_⟩
  · rw [Stands] at hst
    rw [hst]
    rfl
  · rw [hstation, hsh.station]
  · obtain ⟨x, hx', _⟩ := hq
    rw [hx] at hx'
    cases hx'
  · rw [hstation] at he
    exact hsh.started st he
  · rw [hstation] at hn
    exact hka.told ((hsh.ended st he hn).2 q hq)
  · rw [State.port_post, ← hk.clock]
    exact PortUnit.toldLast_append _ _

end Sys2Proof.Machine
end

section
/-! SUPPORT. Lines taken out of their slips (R40, R67, R89 to R91): what one line leaves, and what any number of them leave. -/

namespace Sys2Proof.Machine

variable {s t u : State} {g g' : Nat → Nat → Bool}

/-! ## A slip without some of its lines -/

/-- A slip without the member lines that `g` names: a PENDING or CALLED one loses their portions with them (R89), a TAKEN one keeps its
portions (R91). -/
def Slip.pulled (g : Nat → Nat → Bool) (x : Slip) : Slip :=
  if x.isTaken then { x with members := x.members.filter fun m => !g m.ticket m.line } else x.removed fun m => g m.ticket m.line

/-- A slip that stays in the store: one that is TAKEN, or has members (R90, R91). -/
def Slip.stands (x : Slip) : Bool := x.isTaken || !x.members.isEmpty

theorem Slip.pulled_of_taken {x : Slip} (h : x.isTaken = true) (g : Nat → Nat → Bool) :
    x.pulled g = { x with members := x.members.filter fun m => !g m.ticket m.line } := if_pos h

theorem Slip.pulled_of_not_taken {x : Slip} (h : x.isTaken = false) (g : Nat → Nat → Bool) : x.pulled g = x.removed fun m => g m.ticket m.line :=
  if_neg (Bool.eq_false_iff.mp h)

/-- Only members and portions change. -/
theorem Slip.pulled_fields (g : Nat → Nat → Bool) (x : Slip) :
    x.pulled g = { x with members := x.members.filter fun m => !g m.ticket m.line, portions := (x.pulled g).portions } := by
  unfold Slip.pulled
  split <;> rfl

@[simp] theorem Slip.pulled_number (g : Nat → Nat → Bool) (x : Slip) : (x.pulled g).number = x.number := by rw [Slip.pulled_fields]
@[simp] theorem Slip.pulled_station (g : Nat → Nat → Bool) (x : Slip) : (x.pulled g).station = x.station := by rw [Slip.pulled_fields]
@[simp] theorem Slip.pulled_wave (g : Nat → Nat → Bool) (x : Slip) : (x.pulled g).wave = x.wave := by rw [Slip.pulled_fields]
@[simp] theorem Slip.pulled_state (g : Nat → Nat → Bool) (x : Slip) : (x.pulled g).state = x.state := by rw [Slip.pulled_fields]
@[simp] theorem Slip.pulled_members (g : Nat → Nat → Bool) (x : Slip) : (x.pulled g).members = x.members.filter fun m => !g m.ticket m.line := by
  rw [Slip.pulled_fields]
@[simp] theorem Slip.pulled_isTaken (g : Nat → Nat → Bool) (x : Slip) : (x.pulled g).isTaken = x.isTaken := by rw [Slip.pulled_fields]; rfl
@[simp] theorem Slip.pulled_isPending (g : Nat → Nat → Bool) (x : Slip) : (x.pulled g).isPending = x.isPending := by rw [Slip.pulled_fields]; rfl
@[simp] theorem Slip.pulled_isCalled (g : Nat → Nat → Bool) (x : Slip) : (x.pulled g).isCalled = x.isCalled := by rw [Slip.pulled_fields]; rfl
@[simp] theorem Slip.pulled_told (g : Nat → Nat → Bool) (x : Slip) : (x.pulled g).told = x.told := by rw [Slip.pulled_fields]; rfl
theorem Slip.pulled_waveView (g : Nat → Nat → Bool) (x : Slip) : (x.pulled g).waveView = x.waveView := by simp [Slip.waveView]

/-- The portions of a TAKEN slip stay. -/
theorem Slip.pulled_portions (g : Nat → Nat → Bool) (x : Slip) : (x.pulled g).portions =
    if x.isTaken then x.portions else x.portions - ((x.members.filter fun m => g m.ticket m.line).map Member.qty).sum := by
  unfold Slip.pulled
  split <;> rfl

/-- A slip with none of the lines named stays as it is. -/
theorem Slip.pulled_of_none {x : Slip} (h : ∀ m ∈ x.members, g m.ticket m.line = false) : x.pulled g = x := by
  have h1 : (x.members.filter fun m => !g m.ticket m.line) = x.members := List.filter_eq_self.mpr fun m hm => by rw [h m hm]; rfl
  have h2 : (x.members.filter fun m => g m.ticket m.line) = [] := List.filter_eq_nil_iff.mpr fun m hm => by rw [h m hm]; exact Bool.false_ne_true
  have h3 : (x.pulled g).portions = x.portions := by
    rw [Slip.pulled_portions, h2]
    split <;> rfl
  rw [Slip.pulled_fields, h1, h3]

theorem sum_filter_or (l : List Member) (p q : Member → Bool) :
    ((l.filter fun m => p m || q m).map Member.qty).sum = ((l.filter p).map Member.qty).sum + (((l.filter fun m => !p m).filter q).map Member.qty).sum := by
  induction l with
  | nil => rfl
  | cons m l ih => cases hp : p m <;> cases hq : q m <;> simp [hp, hq] at ih ⊢ <;> omega

theorem Slip.pulled_pulled (x : Slip) : (x.pulled g).pulled g' = x.pulled fun a b => g a b || g' a b := by
  have hm : (x.members.filter fun m => !g m.ticket m.line).filter (fun m => !g' m.ticket m.line) =
      x.members.filter fun m => !(g m.ticket m.line || g' m.ticket m.line) := by
    rw [List.filter_filter]
    exact List.filter_congr fun m _ => by rw [Bool.not_or, Bool.and_comm]
  have hp : ((x.pulled g).pulled g').portions = (x.pulled fun a b => g a b || g' a b).portions := by
    simp only [Slip.pulled_portions, Slip.pulled_isTaken, Slip.pulled_members]
    split
    · rfl
    · rw [sum_filter_or, Nat.sub_sub]
  rw [Slip.pulled_fields g' (x.pulled g), hp, Slip.pulled_members, hm, Slip.pulled_fields g x, Slip.pulled_fields (fun a b => g a b || g' a b) x]

theorem Slip.stands_of_pulled {x : Slip} (h : (x.pulled g).stands = true) : x.stands = true := by
  rw [Slip.stands, Slip.pulled_isTaken] at h
  rw [Slip.stands, Bool.or_eq_true] at *
  refine h.imp id fun h => ?_
  cases hx : x.members with
  | nil => simp [hx] at h
  | cons m l => rfl

/-- Lines taken out of slips in two goes, or in one. -/
theorem Slip.pulled_filter (l : List Slip) : (((l.map (Slip.pulled g)).filter Slip.stands).map (Slip.pulled g')).filter Slip.stands =
    (l.map (Slip.pulled fun a b => g a b || g' a b)).filter Slip.stands := by
  induction l with
  | nil => rfl
  | cons x l ih =>
    rw [List.map_cons, List.map_cons, List.filter_cons, List.filter_cons]
    by_cases hs : (x.pulled g).stands = true
    · rw [if_pos hs, List.map_cons, List.filter_cons, ih, Slip.pulled_pulled]
    · have hn : ¬(x.pulled fun a b => g a b || g' a b).stands = true := fun h => hs (by
        rw [← Slip.pulled_pulled] at h
        exact Slip.stands_of_pulled h)
      rw [if_neg hs, if_neg hn, ih]

/-! ## A ticket with some of its lines VOID -/

/-- A ticket with the lines that `g` names VOID, its state as it was. -/
def Ticket.voided (g : Nat → Nat → Bool) (k : Ticket) : Ticket :=
  { k with lines := k.lines.mapIdx fun i l => if g k.number i then { l with state := .void } else l }

@[simp] theorem Ticket.voided_number (g : Nat → Nat → Bool) (k : Ticket) : (k.voided g).number = k.number := rfl
@[simp] theorem Ticket.voided_wave (g : Nat → Nat → Bool) (k : Ticket) : (k.voided g).wave = k.wave := rfl

theorem Ticket.voided_getElem? (g : Nat → Nat → Bool) (k : Ticket) (i : Nat) :
    (k.voided g).lines[i]? = (k.lines[i]?).map fun l => if g k.number i then { l with state := .void } else l := List.getElem?_mapIdx ..

theorem Ticket.voided_of_none {k : Ticket} (h : ∀ i, g k.number i = false) : k.voided g = k := by
  have : (k.lines.mapIdx fun i l => if g k.number i then { l with state := .void } else l) = k.lines := by
    refine List.ext_getElem? fun i => ?_
    rw [List.getElem?_mapIdx]
    cases k.lines[i]? with
    | none => rfl
    | some l => rw [Option.map_some, h i, if_neg Bool.false_ne_true]
  rw [Ticket.voided, this]

theorem Ticket.voided_voided (k : Ticket) : (k.voided g).voided g' = k.voided fun a b => g a b || g' a b := by
  unfold Ticket.voided
  congr 1
  refine List.ext_getElem? fun i => ?_
  simp only [List.getElem?_mapIdx]
  cases k.lines[i]? with
  | none => rfl
  | some l =>
    rw [Option.map_some, Option.map_some, Option.map_some]
    by_cases hg : g k.number i = true <;> by_cases hg' : g' k.number i = true <;> simp [hg, hg']

/-! ## The event -/

/-- What the station of a slip is told that loses the lines that `g` names (R90, R93). -/
def Slip.pullNotice (g : Nat → Nat → Bool) (x : Slip) : NoticeBody :=
  if (x.pulled g).members = [] then .withdrawn x.number x.station x.item .emptied none
  else .changed x.number x.station x.item x.state x.fire (x.pulled g).portions (x.pulled g).members.length

theorem Slip.pullNotice_pulled (x : Slip) : (x.pulled g).pullNotice g' = x.pullNotice fun a b => g a b || g' a b := by
  rw [Slip.pullNotice, Slip.pulled_pulled, Slip.pullNotice, Slip.pulled_fields g x]

theorem Slip.pullNotice_congr {x : Slip} (h : x.pulled g = x.pulled g') : x.pullNotice g = x.pullNotice g' := by rw [Slip.pullNotice, h, Slip.pullNotice]

/-- From `s` to `t`, the lines that `g` names have left their slips, which are freed where they are left empty. -/
structure State.Slims (g : Nat → Nat → Bool) (s t : State) : Prop where
  still : Kept s t
  stand : Stands s t
  slips : t.slips = (s.slips.map (Slip.pulled g)).filter Slip.stands
  waves : ∀ ex, s.WavesBut ex → t.WavesBut ex
  clears : (∃ ex, s.WavesBut ex) ∨ (∀ x ∈ s.slips, x.isPending = false → ∀ m ∈ x.members, g m.ticket m.line = false) → s.Clears t
  sheds : s.Sheds t
  holds : ∀ st, (t.station st).evacuating = true → s.Queues st → t.Queues st
  queued : ∀ st, (s.station st).evacuating = true → (t.station st).evacuating = false → s.Queues st
  told : ∀ x ∈ s.slips, x.isTaken = false → x.told = true → x.members.any (fun m => g m.ticket m.line) = true → ∀ q, s.isBound x.station q = true →
    (t.port q).Told ⟨s.clock, x.pullNotice g⟩

/-- From `s` to `t`, the lines that `g` names have also become VOID; the tickets are not yet worked out. -/
structure State.Pulls (g : Nat → Nat → Bool) (s t : State) : Prop extends State.Slims g s t where
  tickets : t.tickets = s.tickets.map (Ticket.voided g)

theorem State.Pulls.lineAt (h : s.Pulls g t) (n i : Nat) :
    t.lineAt n i = (s.lineAt n i).map fun l => if g n i then { l with state := .void } else l := by
  rw [State.lineAt, State.ticket?_of_map h.tickets fun _ => rfl, State.lineAt]
  cases hk : s.ticket? n with
  | none => rfl
  | some k =>
    have hn := (State.ticket?_eq_some hk).1
    rw [Option.map_some, Option.bind_some, Option.bind_some, Ticket.voided_getElem?, hn]

theorem State.Slims.mem (h : s.Slims g t) {y : Slip} (hy : y ∈ t.slips) : ∃ x ∈ s.slips, x.pulled g = y ∧ y.stands = true := by
  rw [h.slips] at hy
  obtain ⟨hm, hs⟩ := List.mem_filter.mp hy
  obtain ⟨x, hx, rfl⟩ := List.mem_map.mp hm
  exact ⟨x, hx, rfl, hs⟩

theorem State.Slims.mem_of_member (h : s.Slims g t) {x : Slip} (hx : x ∈ s.slips) {m : Member} (hm : m ∈ x.members) (hg : g m.ticket m.line = false) :
    x.pulled g ∈ t.slips ∧ m ∈ (x.pulled g).members := by
  have hm' : m ∈ (x.pulled g).members := by
    rw [Slip.pulled_members]
    exact List.mem_filter.mpr ⟨hm, by rw [hg]; rfl⟩
  refine ⟨?_, hm'⟩
  rw [h.slips]
  refine List.mem_filter.mpr ⟨List.mem_map_of_mem hx, ?_⟩
  rw [Slip.stands, Bool.or_eq_true]
  exact .inr (by rw [List.isEmpty_eq_false_iff.mpr (List.ne_nil_of_mem hm')]; rfl)

theorem sum_filter_not (l : List Member) (p : Member → Bool) :
    ((l.filter p).map Member.qty).sum + ((l.filter fun m => !p m).map Member.qty).sum = (l.map Member.qty).sum := by
  induction l with
  | nil => rfl
  | cons m l ih => cases hp : p m <;> simp [hp] at ih ⊢ <;> omega

/-- Lines and slips agree after the event as before it. -/
theorem State.Pulls.linked (h : s.Pulls g t) (hl : s.Linked) : t.Linked where
  entries y hy m hm := by
    obtain ⟨x, hx, rfl, -⟩ := h.mem hy
    rw [Slip.pulled_members] at hm
    obtain ⟨hm, hg⟩ := List.mem_filter.mp hm
    obtain ⟨l, h1, h2, h3⟩ := hl.entries x hx m hm
    have hg' : ¬g m.ticket m.line = true := by simpa using hg
    exact ⟨l, by rw [h.lineAt, h1, Option.map_some, if_neg hg'], by rw [Slip.pulled_number, Slip.pulled_state, h2], h3⟩
  lines n i l k hlk hk := by
    rw [h.lineAt] at hlk
    obtain ⟨l0, hl0, rfl⟩ := Option.map_eq_some_iff.mp hlk
    by_cases hg : g n i = true
    · rw [if_pos hg] at hk; cases hk
    · rw [if_neg hg] at hk
      obtain ⟨x, hx, hn, m, hm, h1, h2⟩ := hl.lines n i l0 k hl0 hk
      obtain ⟨hx', hm'⟩ := h.mem_of_member hx hm (by rw [h1, h2]; exact Bool.eq_false_iff.mpr hg)
      exact ⟨_, hx', (Slip.pulled_number g x).trans hn, m, hm', h1, h2⟩
  once y hy := by
    obtain ⟨x, hx, rfl, -⟩ := h.mem hy
    rw [Slip.pulled_members]
    exact (hl.once x hx).sublist (List.filter_sublist.map _)
  portions y hy ht := by
    obtain ⟨x, hx, rfl, hs⟩ := h.mem hy
    have hxt : x.isTaken = false := (Slip.pulled_isTaken g x).symm.trans ht
    rw [Slip.stands, ht, Bool.false_or, Bool.not_eq_true', List.isEmpty_eq_false_iff] at hs
    refine ⟨hs, ?_⟩
    have := sum_filter_not x.members fun m => g m.ticket m.line
    rw [Slip.pulled_portions, hxt, if_neg Bool.false_ne_true, Slip.pulled_members, (hl.portions x hx hxt).2]
    omega

theorem State.Slims.recordsSound (h : s.Slims g t) (hr : s.RecordsSound) : t.RecordsSound := hr.kept h.still h.stand

theorem Slip.stands_of_linked (hl : s.Linked) {x : Slip} (hx : x ∈ s.slips) : x.stands = true := by
  rw [Slip.stands]
  cases ht : x.isTaken with
  | true => rfl
  | false => rw [List.isEmpty_eq_false_iff.mpr (hl.portions x hx ht).1]; rfl

theorem State.Pulls.refl (hl : s.Linked) : s.Pulls (fun _ _ => false) s where
  still := .refl s
  stand := .refl s
  tickets := ((List.map_congr_left fun k _ => Ticket.voided_of_none fun _ => rfl).trans (List.map_id _)).symm
  slips := by
    have : s.slips.map (Slip.pulled fun _ _ => false) = s.slips :=
      (List.map_congr_left fun x _ => Slip.pulled_of_none fun _ _ => rfl).trans (List.map_id' _)
    rw [this]
    exact (List.filter_eq_self.mpr fun x hx => Slip.stands_of_linked hl hx).symm
  waves _ h := h
  clears _ := .refl s
  sheds := .refl s
  holds _ _ h := h
  queued _ h k := absurd (k.symm.trans h) Bool.false_ne_true
  told x _ _ _ hany := by simp at hany

/-- A notice of a slip handed over on the way is the last of it where the slip loses no line after it. -/
theorem State.Slims.told_trans (h : s.Slims g t) (k : t.Slims g' u) {x : Slip} (hx : x ∈ s.slips) (ht : x.isTaken = false) (htold : x.told = true)
    (hany : x.members.any (fun m => g m.ticket m.line || g' m.ticket m.line) = true) {q : PortId} (hq : s.isBound x.station q = true) :
    (u.port q).Told ⟨s.clock, x.pullNotice fun a b => g a b || g' a b⟩ := by
  by_cases hlater : ∃ m ∈ x.members, g m.ticket m.line = false ∧ g' m.ticket m.line = true
  · obtain ⟨m, hm, h1, h2⟩ := hlater
    obtain ⟨hx', hm'⟩ := h.mem_of_member hx hm h1
    have := k.told _ hx' ((Slip.pulled_isTaken g x).trans ht) ((Slip.pulled_told g x).trans htold) (List.any_eq_true.mpr ⟨m, hm', h2⟩) q
      ((h.still.isBound _ _).trans (by rwa [Slip.pulled_station]))
    rwa [Slip.pullNotice_pulled, h.still.clock] at this
  · have hsame (m : Member) (hm : m ∈ x.members) (hg : g m.ticket m.line = false) : g' m.ticket m.line = false :=
      Bool.eq_false_iff.mpr fun hg' => hlater ⟨m, hm, hg, hg'⟩
    have hfix : (x.pulled g).pulled g' = x.pulled g := Slip.pulled_of_none fun m hm => by
      rw [Slip.pulled_members] at hm
      obtain ⟨hm, hg⟩ := List.mem_filter.mp hm
      exact hsame m hm (by simpa using hg)
    obtain ⟨m, hm, hor⟩ := List.any_eq_true.mp hany
    have hgm : g m.ticket m.line = true := by
      cases hg : g m.ticket m.line with
      | true => rfl
      | false => rw [hg, hsame m hm hg] at hor; cases hor
    rw [← Slip.pullNotice_congr (hfix.symm.trans x.pulled_pulled)]
    exact k.still.told (h.told x hx ht htold (List.any_eq_true.mpr ⟨m, hm, hgm⟩) q hq)

theorem State.Slims.trans (h : s.Slims g t) (k : t.Slims g' u) : s.Slims (fun a b => g a b || g' a b) u where
  still := h.still.trans k.still
  stand := h.stand.trans k.stand
  slips := by rw [k.slips, h.slips, Slip.pulled_filter]
  waves ex hw := k.waves ex (h.waves ex hw)
  clears hc := by
    rcases hc with ⟨ex, hw⟩ | hp
    · exact (h.clears (.inl ⟨ex, hw⟩)).trans (k.clears (.inl ⟨ex, h.waves ex hw⟩))
    · have hg (x : Slip) (hx : x ∈ s.slips) (hxp : x.isPending = false) (m : Member) (hm : m ∈ x.members) := Bool.or_eq_false_iff.mp (hp x hx hxp m hm)
      refine (h.clears (.inr fun x hx hxp m hm => (hg x hx hxp m hm).1)).trans (k.clears (.inr fun y hy hyp m hm => ?_))
      obtain ⟨x, hx, rfl, -⟩ := h.mem hy
      rw [Slip.pulled_members] at hm
      exact (hg x hx ((Slip.pulled_isPending g x).symm.trans hyp) m (List.mem_of_mem_filter hm)).2
  sheds := h.sheds.trans k.sheds
  holds st he hq := k.holds st he (h.holds st (k.sheds.started st he) hq)
  queued st he hn := by
    cases ht : (t.station st).evacuating with
    | true => exact h.sheds.queues st (k.queued st ht hn)
    | false => exact h.queued st he ht
  told x hx ht htold hany q hq := h.told_trans k hx ht htold hany hq

theorem State.Pulls.trans (h : s.Pulls g t) (k : t.Pulls g' u) : s.Pulls (fun a b => g a b || g' a b) u where
  toSlims := h.toSlims.trans k.toSlims
  tickets := by
    rw [k.tickets, h.tickets, List.map_map]
    exact List.map_congr_left fun j _ => j.voided_voided

/-! ## One line taken out -/

/-- Line `i` of ticket `n` alone. -/
def oneLine (n i : Nat) : Nat → Nat → Bool := fun a b => a == n && b == i

theorem oneLine_iff {n i a b : Nat} : oneLine n i a b = true ↔ a = n ∧ b = i := by simp [oneLine]

/-- Line `i` of ticket `n` VOID. -/
def State.voidLine (n i : Nat) (s : State) : State := s.modLine n i fun l => { l with state := .void }

theorem State.tickets_voidLine (n i : Nat) (s : State) : (s.voidLine n i).tickets = s.tickets.map (Ticket.voided (oneLine n i)) := by
  rw [State.voidLine, State.modLine_tickets]
  refine List.map_congr_left fun k _ => ?_
  unfold Ticket.voided
  by_cases hk : k.number = n
  · rw [if_pos hk]
    congr 1
    refine List.ext_getElem? fun b => ?_
    rw [List.getElem?_modify, List.getElem?_mapIdx]
    cases k.lines[b]? with
    | none => simp
    | some l =>
      by_cases hb : i = b
      · subst hb; simp [oneLine, hk]
      · simp [oneLine, hk, hb, Ne.symm hb]
  · rw [if_neg hk]
    exact (Ticket.voided_of_none (g := oneLine n i) fun b => by simp [oneLine, hk]).symm

section OneLine

variable (hr : s.RecordsSound) (hl : s.Linked) {x : Slip} (hx : x ∈ s.slips) {m : Member} (hm : m ∈ x.members)
include hl hx hm

/-- No other slip holds the line. -/
theorem State.Linked.pulled_other {y : Slip} (hy : y ∈ s.slips) (hn : y.number ≠ x.number) : y.pulled (oneLine m.ticket m.line) = y :=
  Slip.pulled_of_none fun j hj => Bool.eq_false_iff.mpr fun ho => by
    obtain ⟨h1, h2⟩ := oneLine_iff.mp ho
    exact hn (hl.entry_unique hx hy hm hj h1.symm h2.symm)

include hr in
/-- The slips after the line has left: the one that held it is freed where that leaves it empty. -/
theorem State.Linked.slips_pulled : (s.slips.map (Slip.pulled (oneLine m.ticket m.line))).filter Slip.stands =
    if (x.pulled (oneLine m.ticket m.line)).stands then
      s.slips.map fun y => if y.number = x.number then x.pulled (oneLine m.ticket m.line) else y
    else s.slips.filter fun y => y.number != x.number := by
  have hmap : s.slips.map (Slip.pulled (oneLine m.ticket m.line)) =
      s.slips.map fun y => if y.number = x.number then x.pulled (oneLine m.ticket m.line) else y := by
    refine List.map_congr_left fun y hy => ?_
    split
    · next hn => rw [hr.only hx y hy hn]
    · next hn => exact hl.pulled_other hx hm hy hn
  split
  · next hs =>
    rw [hmap]
    refine List.filter_eq_self.mpr fun y hy => ?_
    obtain ⟨z, hz, rfl⟩ := List.mem_map.mp hy
    split
    · exact hs
    · exact Slip.stands_of_linked hl hz
  · next hs =>
    rw [hmap, List.filter_map]
    have : s.slips.filter (Slip.stands ∘ fun y => if y.number = x.number then x.pulled (oneLine m.ticket m.line) else y) =
        s.slips.filter fun y => y.number != x.number := by
      refine List.filter_congr fun y hy => ?_
      simp only [Function.comp]
      by_cases hn : y.number = x.number
      · simp [hn, hs]
      · simp [hn, Slip.stands_of_linked hl hy]
    rw [this]
    refine (List.map_congr_left fun y hy => ?_).trans (List.map_id' _)
    rw [if_neg (by simpa using (List.mem_filter.mp hy).2)]

/-- Only the slip that held the line has anything to tell of it. -/
theorem State.Linked.holder {y : Slip} (hy : y ∈ s.slips) (hany : y.members.any (fun j => oneLine m.ticket m.line j.ticket j.line) = true) :
    y.number = x.number := by
  obtain ⟨j, hj, ho⟩ := List.any_eq_true.mp hany
  obtain ⟨h1, h2⟩ := oneLine_iff.mp ho
  exact hl.entry_unique hx hy hm hj h1.symm h2.symm

end OneLine

theorem Kept.voidLine (n i : Nat) (s : State) : Kept s (s.voidLine n i) := .modLine s n i _
theorem Stands.voidLine (n i : Nat) (s : State) : Stands s (s.voidLine n i) := .modLine s n i _

/-- What a slip that keeps a place among the slips leaves, its members and portions changed. -/
theorem State.Sheds.modSlip {n : Nat} {f : Slip → Slip} (hk : Kept s (s.modSlip n f))
    (hf : ∀ x ∈ s.slips, x.number = n → (f x).station = x.station ∧ (f x).isPending = x.isPending) : s.Sheds (s.modSlip n f) := by
  refine .of_stations hk (fun _ => rfl) fun st hq => ?_
  obtain ⟨y, hy, hst, hp⟩ := hq
  obtain ⟨x, hx, rfl⟩ := List.mem_map.mp hy
  split at hst
  · next hn =>
    rw [if_pos hn] at hp
    obtain ⟨h1, h2⟩ := hf x hx hn
    exact ⟨x, hx, h1.symm.trans hst, h2.symm.trans hp⟩
  · next hn =>
    rw [if_neg hn] at hp
    exact ⟨x, hx, hst, hp⟩

theorem State.Queues.modSlip {st : StationId} (h : s.Queues st) {n : Nat} {f : Slip → Slip}
    (hf : ∀ x ∈ s.slips, x.number = n → (f x).station = x.station ∧ (f x).isPending = x.isPending) : (s.modSlip n f).Queues st := by
  obtain ⟨x, hx, hst, hp⟩ := h
  refine ⟨if x.number = n then f x else x, List.mem_map_of_mem hx, ?_, ?_⟩ <;> split
  · next hn => exact (hf x hx hn).1.trans hst
  · exact hst
  · next hn => exact (hf x hx hn).2.trans hp
  · exact hp

/-- A queue whose evacuation goes on after a slip is freed holds another. -/
theorem State.holds_dropSlip {x : Slip} (ho : s.Only x) (st : StationId) (he : ((s.dropSlip x).station st).evacuating = true) (hq : s.Queues st) :
    (s.dropSlip x).Queues st := by
  obtain ⟨y, hy, hst, hp⟩ := hq
  by_cases hn : y.number = x.number
  · have := ho y hy hn
    subst this
    subst hst
    rw [State.dropSlip_eq, if_pos hp, State.station_finishEvacuation_self] at he
    have hne : ((s.unslip y).queue y.station).isEmpty = false := by simpa using ((Bool.and_eq_true _ _).mp he).2
    rw [State.dropSlip_eq, if_pos hp]
    exact (State.queue_ne_nil.mp (List.isEmpty_eq_false_iff.mp hne)).congr (AtStations.finishEvacuation _ _).slips
  · exact ⟨y, by rw [State.dropSlip_slips]; exact List.mem_filter.mpr ⟨hy, by simpa using hn⟩, hst, hp⟩

/-- Only a PENDING slip's leaving ends an evacuation, that of its own station. -/
theorem State.queued_dropSlip {x : Slip} (hx : x ∈ s.slips) (st : StationId) (he : (s.station st).evacuating = true)
    (hn : ((s.dropSlip x).station st).evacuating = false) : s.Queues st := by
  rw [State.dropSlip_eq] at hn
  split at hn
  · next hp =>
    by_cases hst : st = x.station
    · exact ⟨x, hx, hst.symm, hp⟩
    · rw [State.station_finishEvacuation_ne hst, State.station_unslip, he] at hn
      cases hn
  · rw [State.station_unslip, he] at hn
    cases hn

/-- Line `i` of ticket `n` VOID and out of its slip `x`: detached where that is TAKEN, else removed (R40, R67). -/
def State.pullLine (x : Slip) (n i : Nat) (s : State) : State :=
  if x.isTaken then (s.voidLine n i).detachMember x n i else (s.voidLine n i).removeMember x n i

theorem Kept.emptySlip_told {x : Slip} (ht : x.told = true) {q : PortId} (hq : s.isBound x.station q = true) :
    ((s.emptySlip x).port q).Told ⟨s.clock, .withdrawn x.number x.station x.item .emptied none⟩ := by
  rw [State.emptySlip, if_pos ht]
  exact (Kept.dropSlip x _).told ((Kept.refl s).told_post hq _)

theorem State.slips_emptySlip (x : Slip) (s : State) : (s.emptySlip x).slips = s.slips.filter fun y => y.number != x.number := by
  rw [State.emptySlip, State.dropSlip_slips]
  split <;> rfl

theorem State.Sheds.emptySlip (x : Slip) (s : State) : s.Sheds (s.emptySlip x) := by
  rw [State.emptySlip]
  split
  · exact (State.Sheds.of_slips (.post _ _ s) (fun _ => rfl) rfl).trans (.dropSlip x (s.postWithdrawn x .emptied))
  · exact .dropSlip x s

theorem State.Clears.emptySlip {x : Slip} (ho : s.Only x) (hx : x ∈ s.slips) (hm : x.isPending = true ∨ ∃ ex, s.WavesBut ex) :
    s.Clears (s.emptySlip x) := by
  rw [State.emptySlip]
  split
  · exact (State.Clears.post _ _ s).trans (.dropSlip (s := s.postWithdrawn x .emptied) ho hx (hm.imp id fun ⟨ex, hw⟩ => ⟨ex, hw.post _ _⟩))
  · exact .dropSlip ho hx hm

theorem State.holds_emptySlip {x : Slip} (ho : s.Only x) (st : StationId) (he : ((s.emptySlip x).station st).evacuating = true) (hq : s.Queues st) :
    (s.emptySlip x).Queues st := by
  rw [State.emptySlip] at he ⊢
  split at he
  · next ht =>
    rw [if_pos ht]
    exact State.holds_dropSlip (s := s.postWithdrawn x .emptied) ho st he hq
  · next ht =>
    rw [if_neg ht]
    exact State.holds_dropSlip ho st he hq

theorem State.Only.modSlip_eq {x : Slip} (ho : s.Only x) (f : Slip → Slip) : s.modSlip x.number f = s.modSlip x.number fun _ => f x := by
  have : (s.slips.map fun y => if y.number = x.number then f y else y) = s.slips.map fun y => if y.number = x.number then f x else y := by
    refine List.map_congr_left fun y hy => ?_
    split
    · next hn => rw [ho y hy hn]
    · rfl
  rw [State.modSlip, this]
  rfl

theorem State.queued_emptySlip {x : Slip} (hx : x ∈ s.slips) (st : StationId) (he : (s.station st).evacuating = true)
    (hn : ((s.emptySlip x).station st).evacuating = false) : s.Queues st := by
  rw [State.emptySlip] at hn
  split at hn
  · exact State.queued_dropSlip (s := s.postWithdrawn x .emptied) hx st he hn
  · exact State.queued_dropSlip hx st he hn

/-- A slip that stands without the line: written as it then is, with CHANGED where its station was told of it (R89, R91, R93). -/
theorem State.pullLine_of_stands {x : Slip} (ho : s.Only x) {n i : Nat} (hs : (x.pulled (oneLine n i)).stands = true) : s.pullLine x n i =
    if x.isTaken = false ∧ x.told = true then
      ((s.voidLine n i).modSlip x.number fun _ => x.pulled (oneLine n i)).postChanged (x.pulled (oneLine n i))
    else (s.voidLine n i).modSlip x.number fun _ => x.pulled (oneLine n i) := by
  have hon : (s.voidLine n i).Only x := ho
  cases ht : x.isTaken with
  | true =>
    rw [State.pullLine, if_pos ht, if_neg fun h => Bool.false_ne_true h.1.symm, State.detachMember, hon.modSlip_eq, Slip.pulled_of_taken ht]
    rfl
  | false =>
    have hne : ¬(x.without n i).isEmpty = true := by
      rw [Slip.stands, Slip.pulled_isTaken, ht, Slip.pulled_members, Bool.false_or, Bool.not_eq_true', List.isEmpty_eq_false_iff] at hs
      exact fun he => hs (List.isEmpty_iff.mp he)
    rw [State.pullLine, if_neg (Bool.eq_false_iff.mp ht), State.removeMember, if_neg hne, Slip.pulled_of_not_taken ht]
    cases hto : x.told with
    | true => rw [if_pos rfl, if_pos ⟨rfl, rfl⟩]; rfl
    | false => rw [if_neg Bool.false_ne_true, if_neg fun h => Bool.false_ne_true h.2]; rfl

/-- A slip left without members is freed (R90). -/
theorem State.pullLine_of_not_stands {x : Slip} {n i : Nat} (hs : ¬(x.pulled (oneLine n i)).stands = true) :
    s.pullLine x n i = (s.voidLine n i).emptySlip x ∧ x.isTaken = false ∧ (x.pulled (oneLine n i)).members = [] := by
  rw [Slip.stands, Slip.pulled_isTaken, Bool.or_eq_true, not_or] at hs
  obtain ⟨ht, hm⟩ := hs
  have ht : x.isTaken = false := Bool.eq_false_iff.mpr ht
  have hnil : (x.pulled (oneLine n i)).members = [] := by simpa using hm
  have he : (x.without n i).isEmpty = true := by
    rw [Slip.pulled_members] at hnil
    exact List.isEmpty_iff.mpr hnil
  exact ⟨by rw [State.pullLine, if_neg (Bool.eq_false_iff.mp ht), State.removeMember, if_pos he], ht, hnil⟩

section Pull

variable (hr : s.RecordsSound) (hl : s.Linked) {x : Slip} (hx : x ∈ s.slips) {m : Member} (hm : m ∈ x.members)
include hr hl hx hm

theorem State.Pulls.of_stands (hs : (x.pulled (oneLine m.ticket m.line)).stands = true) :
    s.Pulls (oneLine m.ticket m.line) (s.pullLine x m.ticket m.line) := by
  have hslips := hl.slips_pulled hr hx hm
  have hholder := fun y hy => hl.holder hx hm (y := y) hy
  have hwave := Slip.pulled_waveView (oneLine m.ticket m.line) x
  have hst := Slip.pulled_station (oneLine m.ticket m.line) x
  have hpend := Slip.pulled_isPending (oneLine m.ticket m.line) x
  have hsub : (x.pulled (oneLine m.ticket m.line)).members ⊆ x.members := by rw [Slip.pulled_members]; exact List.filter_subset_self _
  have htk := s.tickets_voidLine m.ticket m.line
  have ho := hr.only hx
  rw [State.pullLine_of_stands ho hs]
  rw [if_pos hs] at hslips
  have hnum := Slip.pulled_number (oneLine m.ticket m.line) x
  have hnotice : x.isTaken = false → (x.pulled (oneLine m.ticket m.line)).members ≠ [] := fun ht hnil => by
    rw [Slip.stands, Slip.pulled_isTaken, ht, hnil] at hs
    cases hs
  have hbody : x.isTaken = false → x.pullNotice (oneLine m.ticket m.line) = .changed x.number x.station x.item x.state x.fire
      (x.pulled (oneLine m.ticket m.line)).portions (x.pulled (oneLine m.ticket m.line)).members.length := fun ht => if_neg (hnotice ht)
  have hpost (a : State) : a.postChanged (x.pulled (oneLine m.ticket m.line)) = a.post (a.isBound x.station) (.changed x.number x.station x.item x.state
      x.fire (x.pulled (oneLine m.ticket m.line)).portions (x.pulled (oneLine m.ticket m.line)).members.length) := by
    rw [State.postChanged, Slip.pulled_fields]
  generalize x.pulled (oneLine m.ticket m.line) = p at *
  have hoa : (s.voidLine m.ticket m.line).Only x := ho
  have hka := Kept.voidLine m.ticket m.line s
  have hsa := Stands.voidLine m.ticket m.line s
  have hca : s.Clears (s.voidLine m.ticket m.line) := .modLine _ _ _ s
  have hsha : s.Sheds (s.voidLine m.ticket m.line) := .of_slips hka (fun _ => rfl) rfl
  have hwa (ex) (hw : s.WavesBut ex) : (s.voidLine m.ticket m.line).WavesBut ex := hw.modLine _ _ _
  have hqa (st) (hq : s.Queues st) : (s.voidLine m.ticket m.line).Queues st := hq
  have hsl : (s.voidLine m.ticket m.line).slips = s.slips := rfl
  have hst0 (d) : (s.voidLine m.ticket m.line).station d = s.station d := rfl
  generalize s.voidLine m.ticket m.line = a at *
  have hview (y : Slip) (hy : y ∈ a.slips) (hn : y.number = x.number) : p.station = y.station ∧ p.isPending = y.isPending := by
    rw [hoa y hy hn]; exact ⟨hst, hpend⟩
  have hkb : Kept a (a.modSlip x.number fun _ => p) := .modSlip (fun _ _ => hnum) fun y hy hn => by rw [hoa y hy hn]; exact hsub
  have hwv (y : Slip) (hy : y ∈ a.slips) (hn : y.number = x.number) : p.waveView = y.waveView := by rw [hoa y hy hn]; exact hwave
  have key (t : State) (ht : t = a.modSlip x.number (fun _ => p) ∨ t = (a.modSlip x.number fun _ => p).postChanged p)
      (htold : x.isTaken = false → x.told = true → ∀ q, s.isBound x.station q = true →
        (t.port q).Told ⟨s.clock, x.pullNotice (oneLine m.ticket m.line)⟩) : s.Pulls (oneLine m.ticket m.line) t := by
    have hkt : Kept (a.modSlip x.number fun _ => p) t := by rcases ht with rfl | rfl; exacts [.refl _, .post _ _ _]
    have hct : (a.modSlip x.number fun _ => p).Clears t := by rcases ht with rfl | rfl; exacts [.refl _, .post _ _ _]
    have hxt : t.slips = s.slips.map fun y => if y.number = x.number then p else y := by
      rw [← hsl]; rcases ht with rfl | rfl <;> rfl
    have htt : t.tickets = a.tickets := by rcases ht with rfl | rfl <;> rfl
    have hstt (st) : t.station st = a.station st := by rcases ht with rfl | rfl <;> rfl
    have hstands : Stands a t := by rcases ht with rfl | rfl <;> rfl
    have hwt (ex) (hw : (a.modSlip x.number fun _ => p).WavesBut ex) : t.WavesBut ex := by rcases ht with rfl | rfl; exacts [hw, hw.post _ _]
    have hmodsl : (a.modSlip x.number fun _ => p).slips = t.slips := by rcases ht with rfl | rfl <;> rfl
    have hshb : a.Sheds (a.modSlip x.number fun _ => p) := .modSlip hkb hview
    refine ⟨⟨(hka.trans hkb).trans hkt, hsa.trans hstands, hxt.trans hslips.symm, fun ex hw => hwt ex ((hwa ex hw).modSlip hwv),
      fun _ => (hca.trans (.modSlip hkb hwv)).trans hct, (hsha.trans hshb).trans (.of_slips hkt (fun st => ?_) hmodsl.symm), fun st _ hq => ?_,
      fun st he hn => ?_, fun y hy hyt hyto hany q hq => ?_⟩, htt.trans htk⟩
    · rw [hstt]; rfl
    · exact ((hqa st hq).modSlip hview).congr hmodsl.symm
    · rw [hstt, hst0, he] at hn
      cases hn
    · have := ho y hy (hholder y hy hany)
      subst this
      exact htold hyt hyto q hq
  split
  · next hc =>
    refine key _ (.inr rfl) fun ht hto q hq => ?_
    have hk := hka.trans hkb
    rw [hbody ht, hpost]
    exact hk.told_post ((hk.isBound _ _).trans hq) _
  · next hc => exact key _ (.inl rfl) fun ht hto => absurd ⟨ht, hto⟩ hc

theorem State.Pulls.of_not_stands (hs : ¬(x.pulled (oneLine m.ticket m.line)).stands = true) :
    s.Pulls (oneLine m.ticket m.line) (s.pullLine x m.ticket m.line) := by
  obtain ⟨heq, ht, hnil⟩ := State.pullLine_of_not_stands (s := s) hs
  have hslips := hl.slips_pulled hr hx hm
  rw [if_neg hs] at hslips
  have ho := hr.only hx
  have hoa : (s.voidLine m.ticket m.line).Only x := ho
  have hxa : x ∈ (s.voidLine m.ticket m.line).slips := hx
  rw [heq]
  refine ⟨⟨(Kept.voidLine _ _ s).trans (.emptySlip x _), (Stands.voidLine _ _ s).trans (.emptySlip _ x), ?_, fun ex hw => (hw.modLine _ _ _).emptySlip hoa,
    fun hc => (State.Clears.modLine _ _ _ s).trans (.emptySlip hoa hxa ?_), ?_, fun st he hq => State.holds_emptySlip hoa st he hq,
    fun st he hn => State.queued_emptySlip hxa st he hn, fun y hy _ hto hany q hq => ?_⟩, ?_⟩
  · rw [State.slips_emptySlip, hslips]; rfl
  · refine hc.symm.imp (fun hp => ?_) fun ⟨ex, hw⟩ => ⟨ex, hw.modLine _ _ _⟩
    cases hxp : x.isPending with
    | true => rfl
    | false =>
      have := hp x hx hxp m hm
      rw [oneLine_iff.mpr ⟨rfl, rfl⟩] at this
      cases this
  · exact (State.Sheds.of_slips (.voidLine _ _ s) (fun _ => rfl) rfl).trans (.emptySlip x _)
  · have := ho y hy (hl.holder hx hm hy hany)
    subst this
    rw [Slip.pullNotice, if_pos hnil]
    exact Kept.emptySlip_told (s := s.voidLine m.ticket m.line) hto hq
  · rw [← State.tickets_voidLine, State.emptySlip, State.tickets_dropSlip]
    split <;> rfl

/-- One line taken out of the slip that holds it. -/
theorem State.Pulls.pullLine : s.Pulls (oneLine m.ticket m.line) (s.pullLine x m.ticket m.line) := by
  by_cases hs : (x.pulled (oneLine m.ticket m.line)).stands = true
  · exact .of_stands hr hl hx hm hs
  · exact .of_not_stands hr hl hx hm hs

end Pull

end Sys2Proof.Machine
end

section
/-! SUPPORT. Lines voided one after another (R40, R67), and lines and slips in agreement through the operations on slips. -/

namespace Sys2Proof.Machine

variable {s t u : State}

/-! ## The slip of a line -/

/-- A line that is in a slip is an entry of the slip it names, and in its state. -/
theorem State.Linked.slip_of_line (hl : s.Linked) (hr : s.RecordsSound) {n i k : Nat} {l : Line} (h : s.lineAt n i = some l)
    (hk : l.state.slipNumber = some k) :
    ∃ x ∈ s.slips, ∃ m ∈ x.members, s.slip? k = some x ∧ x.number = k ∧ l.state = .follows k x.state ∧ m.ticket = n ∧ m.line = i := by
  obtain ⟨x, hx, hn, m, hm, h1, h2⟩ := hl.lines n i l k h hk
  obtain ⟨l', hl', hs, _⟩ := hl.entries x hx m hm
  rw [h1, h2, h] at hl'
  cases hl'
  exact ⟨x, hx, m, hm, hn ▸ hr.slip? hx, hn, hn ▸ hs, h1, h2⟩

theorem LineState.follows_isTaken {n k : Nat} {q : SlipState} {x : Slip} (hx : x.state = q) (h : LineState.cooking k = .follows n q) : x.isTaken = true := by
  cases q with
  | taken time => simp [Slip.isTaken, hx]
  | pending => cases h
  | called _ _ => cases h

theorem LineState.follows_not_taken {n : Nat} {x : Slip} {ls : LineState} (h : ls = .follows n x.state) (hn : ∀ k, ls ≠ .cooking k) :
    x.isTaken = false := by
  rcases hx : x.state with _ | ⟨_, _⟩ | _
  · simp [Slip.isTaken, hx]
  · simp [Slip.isTaken, hx]
  · rw [hx] at h
    exact absurd h (hn n)

/-- A WAITING line is voided and leaves its PENDING slip (R40). -/
theorem State.voidWaiting_of_waiting (hr : s.RecordsSound) (hl : s.Linked) {n i : Nat} {l : Line} (h : s.lineAt n i = some l)
    (hw : l.state.isWaiting = true) :
    ∃ x ∈ s.slips, ∃ m ∈ x.members, x.isPending = true ∧ m.ticket = n ∧ m.line = i ∧ s.voidWaiting n i = s.pullLine x n i := by
  obtain ⟨k, hk⟩ : ∃ k, l.state = .waiting k := by
    cases hs : l.state with
    | waiting k => exact ⟨k, rfl⟩
    | _ => rw [hs] at hw; cases hw
  obtain ⟨x, hx, m, hm, hfind, _, hf, h1, h2⟩ := hl.slip_of_line hr h (by rw [hk]; rfl)
  have hp : x.state = .pending := by
    rw [hk] at hf
    rcases hs : x.state with _ | ⟨_, _⟩ | _
    · rfl
    all_goals rw [hs] at hf; cases hf
  refine ⟨x, hx, m, hm, Slip.isPending_iff.mpr hp, h1, h2, ?_⟩
  have hpull : s.pullLine x n i = (s.voidLine n i).removeMember x n i := if_neg (by simp [Slip.isTaken, hp])
  have hfind' : (s.voidLine n i).slip? k = some x := hfind
  have hline : ((s.ticket? n).bind fun t => t.lines[i]?) = some l := h
  rw [hpull, State.voidWaiting]
  simp only [hline, hk]
  show (match (s.voidLine n i).slip? k with | some x => (s.voidLine n i).removeMember x n i | none => s.voidLine n i) = _
  rw [hfind']

/-- A line of a voided ticket that is in no slip stays as it is (R67). -/
theorem Voiding.line_of_free {v : Voiding} {n i : Nat} (h : ∀ l, v.state.lineAt n i = some l → l.state.slipNumber = none) : v.line n i = v := by
  have hline : ((v.state.ticket? n).bind fun t => t.lines[i]?) = v.state.lineAt n i := rfl
  rw [Voiding.line, hline]
  cases hl : v.state.lineAt n i with
  | none => rfl
  | some l =>
    have := h l hl
    dsimp only
    cases hs : l.state with
    | ready _ => rfl
    | void => rfl
    | _ => rw [hs] at this; cases this

/-- The counts of a void after one more line of slip `x`, which leaves it or is detached from it (R67). -/
def Voiding.pull (x : Slip) (n i : Nat) (v : Voiding) : Voiding where
  state := v.state.pullLine x n i
  removed := if x.isTaken then v.removed else v.removed + 1
  detached := if x.isTaken then v.detached + 1 else v.detached
  freed := if (x.pulled (oneLine n i)).stands then v.freed else v.freed + 1
  stations := if !(x.pulled (oneLine n i)).stands && x.isCalled then x.station :: v.stations else v.stations

/-- A line of a voided ticket that is in a slip leaves it (R67). -/
theorem Voiding.line_of_held {v : Voiding} (hr : v.state.RecordsSound) (hl : v.state.Linked) {n i k : Nat} {l : Line} (h : v.state.lineAt n i = some l)
    (hk : l.state.slipNumber = some k) :
    ∃ x ∈ v.state.slips, ∃ m ∈ x.members, m.ticket = n ∧ m.line = i ∧ v.line n i = v.pull x n i := by
  obtain ⟨x, hx, m, hm, hfind, hn, hf, h1, h2⟩ := hl.slip_of_line hr h hk
  refine ⟨x, hx, m, hm, h1, h2, ?_⟩
  have hline : ((v.state.ticket? n).bind fun t => t.lines[i]?) = some l := h
  have hfind' : (v.state.voidLine n i).slip? k = some x := hfind
  have hstands (ht : x.isTaken = false) : (x.pulled (oneLine n i)).stands = !(x.without n i).isEmpty := by
    rw [Slip.stands, Slip.pulled_isTaken, ht, Slip.pulled_members]
    rfl
  have removed (ht : x.isTaken = false) (heq : v.line n i = match (v.state.voidLine n i).slip? k with
      | some x => { state := (v.state.voidLine n i).removeMember x n i, removed := v.removed + 1, detached := v.detached
                    freed := if (x.without n i).isEmpty then v.freed + 1 else v.freed
                    stations := if (x.without n i).isEmpty && x.isCalled then x.station :: v.stations else v.stations }
      | none => v) : v.line n i = v.pull x n i := by
    rw [heq, hfind', Voiding.pull, State.pullLine, hstands ht]
    dsimp only
    cases (x.without n i).isEmpty <;> simp [ht]
  rw [Voiding.line, hline] at *
  cases hs : l.state with
  | waiting j =>
    rw [hs] at hk hf
    cases hk
    refine removed (LineState.follows_not_taken hf fun _ => nofun) ?_
    simp only [hs]
    rfl
  | called j =>
    rw [hs] at hk hf
    cases hk
    refine removed (LineState.follows_not_taken hf fun _ => nofun) ?_
    simp only [hs]
    rfl
  | cooking j =>
    rw [hs] at hk hf
    cases hk
    have ht := LineState.follows_isTaken rfl hf
    have hst : (x.pulled (oneLine n i)).stands = true := by rw [Slip.stands, Slip.pulled_isTaken, ht]; rfl
    simp only [hs]
    show (match (v.state.voidLine n i).slip? k with
      | some x => { v with state := (v.state.voidLine n i).detachMember x n i, detached := v.detached + 1 }
      | none => v) = _
    rw [hfind', Voiding.pull, State.pullLine, hst, ht]
    rfl
  | ready _ => rw [hs] at hk; cases hk
  | void => rw [hs] at hk; cases hk

/-! ## Lines voided one after another -/

/-- Line `i` of ticket `n` is in a slip (R51). -/
def State.inSlip (s : State) (n i : Nat) : Bool := (s.lineAt n i).any fun l => l.state.slipNumber.isSome

theorem State.inSlip_of_some {n i : Nat} {l : Line} (h : s.lineAt n i = some l) : s.inSlip n i = l.state.slipNumber.isSome := by
  rw [State.inSlip, h]
  rfl

theorem State.Pulls.congr {g g' : Nat → Nat → Bool} (h : s.Pulls g t) (hg : ∀ a b, g a b = g' a b) : s.Pulls g' t := by
  have : g = g' := funext fun a => funext fun b => hg a b
  exact this ▸ h

theorem Voiding.line_pulls {v : Voiding} (hr : v.state.RecordsSound) (hl : v.state.Linked) (n i : Nat) :
    v.state.Pulls (fun a b => oneLine n i a b && v.state.inSlip a b) (v.line n i).state := by
  have free (h : v.state.inSlip n i = false) : ∀ a b, false = (oneLine n i a b && v.state.inSlip a b) := fun a b => by
    by_cases ho : oneLine n i a b = true
    · obtain ⟨rfl, rfl⟩ := oneLine_iff.mp ho
      rw [h, Bool.and_false]
    · rw [Bool.eq_false_iff.mpr ho, Bool.false_and]
  have held (h : v.state.inSlip n i = true) : ∀ a b, oneLine n i a b = (oneLine n i a b && v.state.inSlip a b) := fun a b => by
    by_cases ho : oneLine n i a b = true
    · obtain ⟨rfl, rfl⟩ := oneLine_iff.mp ho
      rw [h, Bool.and_true]
    · rw [Bool.eq_false_iff.mpr ho, Bool.false_and]
  cases hline : v.state.lineAt n i with
  | none =>
    rw [Voiding.line_of_free fun l h => by rw [hline] at h; cases h]
    exact (State.Pulls.refl hl).congr (free (by rw [State.inSlip, hline]; rfl))
  | some l =>
    have hin := State.inSlip_of_some hline
    cases hs : l.state.slipNumber with
    | none =>
      rw [Voiding.line_of_free fun l' h => by rw [hline] at h; cases h; exact hs]
      exact (State.Pulls.refl hl).congr (free (by rw [hin, hs]; rfl))
    | some k =>
      obtain ⟨x, hx, m, hm, rfl, rfl, heq⟩ := Voiding.line_of_held hr hl hline hs
      rw [heq]
      exact (State.Pulls.pullLine hr hl hx hm).congr (held (by rw [hin, hs]; rfl))

/-- A line still in a slip, once others have left theirs. -/
theorem State.Pulls.inSlip {g : Nat → Nat → Bool} (h : s.Pulls g t) (n i : Nat) : t.inSlip n i = (s.inSlip n i && !g n i) := by
  rw [State.inSlip, h.lineAt, State.inSlip]
  cases s.lineAt n i with
  | none => rfl
  | some l => by_cases hg : g n i = true <;> simp [hg, LineState.slipNumber]

theorem Voiding.lines_pulls (n : Nat) (L : List Nat) {v : Voiding} (hr : v.state.RecordsSound) (hl : v.state.Linked) :
    v.state.Pulls (fun a b => a == n && L.contains b && v.state.inSlip a b) (L.foldl (Voiding.line n) v).state := by
  induction L generalizing v with
  | nil => exact (State.Pulls.refl hl).congr fun a b => by simp
  | cons i L ih =>
    have h1 := v.line_pulls hr hl n i
    refine (h1.trans (ih (h1.recordsSound hr) (h1.linked hl))).congr fun a b => ?_
    rw [h1.inSlip, oneLine, List.contains_cons]
    cases a == n <;> cases b == i <;> cases L.contains b <;> cases v.state.inSlip a b <;> rfl

/-- A ticket voided: every line of it that was in a slip is VOID and out of its slip (R67). -/
theorem State.voidLines_pulls (hr : s.RecordsSound) (hl : s.Linked) {k : Ticket} (hk : k ∈ s.tickets) :
    s.Pulls (fun a b => a == k.number && s.inSlip a b) (s.voidLines k).state := by
  refine (Voiding.lines_pulls k.number (List.range k.lines.length) (v := ⟨s, 0, 0, 0, []⟩) hr hl).congr fun a b => ?_
  show (a == k.number && (List.range k.lines.length).contains b && s.inSlip a b) = _
  by_cases ha : a = k.number
  · subst ha
    cases hin : s.inSlip k.number b with
    | false => simp
    | true =>
      rw [State.inSlip, hr.lineAt hk] at hin
      obtain ⟨l, hl, _⟩ := (Option.any_eq_true _ _).mp hin
      have : b < k.lines.length := (List.getElem?_eq_some_iff.mp hl).1
      simp [this]
  · rw [beq_eq_false_iff_ne.mpr ha, Bool.false_and, Bool.false_and]

theorem State.voidWaitings_pulls (n : Nat) (L : List Nat) (hr : s.RecordsSound) (hl : s.Linked) (hn : L.Nodup)
    (hw : ∀ i ∈ L, ∃ l, s.lineAt n i = some l ∧ l.state.isWaiting = true) :
    s.Pulls (fun a b => a == n && L.contains b) (L.foldl (State.voidWaiting n) s) ∧ ∀ x ∈ s.slips, x.isPending = false →
      ∀ m ∈ x.members, (m.ticket == n && L.contains m.line) = false := by
  constructor
  · induction L generalizing s with
    | nil => exact (State.Pulls.refl hl).congr fun a b => by simp
    | cons i L ih =>
      obtain ⟨hni, hnl⟩ := List.nodup_cons.mp hn
      obtain ⟨l, hline, hwait⟩ := hw i List.mem_cons_self
      obtain ⟨x, hx, m, hm, _, rfl, rfl, heq⟩ := State.voidWaiting_of_waiting hr hl hline hwait
      have h1 := State.Pulls.pullLine hr hl hx hm
      rw [List.foldl_cons, heq]
      refine (h1.trans (ih (h1.recordsSound hr) (h1.linked hl) hnl fun j hj => ?_)).congr fun a b => ?_
      · obtain ⟨lj, hlj, hwj⟩ := hw j (List.mem_cons_of_mem _ hj)
        refine ⟨lj, ?_, hwj⟩
        have : ¬oneLine m.ticket m.line m.ticket j = true := fun ho => hni ((oneLine_iff.mp ho).2 ▸ hj)
        rw [h1.lineAt, hlj, Option.map_some, if_neg this]
      · rw [oneLine, List.contains_cons]
        cases a == m.ticket <;> cases b == m.line <;> cases L.contains b <;> rfl
  · intro x hx hxp m hm
    refine Bool.eq_false_iff.mpr fun hc => ?_
    obtain ⟨h1, h2⟩ := (Bool.and_eq_true _ _).mp hc
    obtain ⟨l, hline, hwait⟩ := hw m.line (List.contains_iff_mem.mp h2)
    obtain ⟨l', hl', hs, _⟩ := hl.entries x hx m hm
    rw [beq_iff_eq.mp h1, hline] at hl'
    cases hl'
    rw [hs] at hwait
    have : x.state = .pending := by
      rcases h : x.state with _ | ⟨_, _⟩ | _
      · rfl
      all_goals rw [h] at hwait; cases hwait
    rw [Slip.isPending_iff.mpr this] at hxp
    cases hxp

end Sys2Proof.Machine
end

section
/-! SUPPORT. Lines, slips and tickets in agreement (R51, R52, R56, R80) through the operations that make no slip. -/

namespace Sys2Proof.Machine

variable {s t : State} {ex : Nat → Prop}

/-! ## The invariant, but for tickets not yet worked out -/

/-- Lines and slips agree, and every ticket but those that `ex` names is worked out. -/
structure State.Agreed (ex : Nat → Prop) (s : State) : Prop where
  linked : s.Linked
  worked : s.WorkedBut ex

theorem State.RecordsSound.membersSound_iff_agreed (hr : s.RecordsSound) : s.MembersSound ↔ s.Agreed fun _ => False :=
  hr.membersSound_iff.trans ⟨fun ⟨h1, h2⟩ => ⟨h1, h2⟩, fun h => ⟨h.linked, h.worked⟩⟩

theorem State.Agreed.congr (h : s.Agreed ex) (ht : t.tickets = s.tickets) (hx : t.slips = s.slips) : t.Agreed ex :=
  ⟨h.linked.congr hx (State.lineAt_congr ht), h.worked.congr ht⟩

theorem State.Agreed.mono {ex' : Nat → Prop} (h : s.Agreed ex) (hex : ∀ n, ex n → ex' n) : s.Agreed ex' :=
  ⟨h.linked, fun k hk hn => h.worked k hk fun he => hn (hex _ he)⟩

theorem State.Agreed.of_empty (ht : s.tickets = []) (hx : s.slips = []) : s.Agreed ex := by
  have hline (n i : Nat) : s.lineAt n i = none := by rw [State.lineAt, State.ticket?, ht]; rfl
  refine ⟨⟨?_, fun n i l k hl => ?_, ?_, ?_⟩, ?_⟩
  · rw [hx]; exact nofun
  · rw [hline] at hl; cases hl
  · rw [hx]; exact nofun
  · rw [hx]; exact nofun
  · rw [State.WorkedBut, ht]; exact nofun

theorem State.Considered.agreed {sel : StationId → Prop} (hc : State.Considered sel s t) (h : s.Agreed ex) : t.Agreed ex :=
  ⟨(hc.linked h.linked).1, hc.worked ex h.worked⟩

theorem State.Agreed.consider (h : s.Agreed ex) (hr : s.RecordsSound) (st : StationId) : (s.consider st).Agreed ex :=
  (State.consider_considered hr st).agreed h

theorem State.Agreed.considerAll (h : s.Agreed ex) (hr : s.RecordsSound) (sel : StationId → Bool) : (s.considerAll sel).Agreed ex :=
  (State.considerAll_considered hr sel).agreed h

/-- What a ticket's state is worked from. -/
theorem Ticket.workedState_congr {k j : Ticket} (h : j.lines.map Line.state = k.lines.map Line.state) :
    j.workedState = k.workedState ∧ j.allVoid = k.allVoid := by
  have hall (p : LineState → Bool) : (j.lines.all fun l => p l.state) = k.lines.all fun l => p l.state := by
    have h1 (l : List Line) : (l.all fun l => p l.state) = (l.map Line.state).all p := by rw [List.all_map]; rfl
    rw [h1, h, ← h1]
  have hany (p : LineState → Bool) : (j.lines.any fun l => p l.state) = k.lines.any fun l => p l.state := by
    have h1 (l : List Line) : (l.any fun l => p l.state) = (l.map Line.state).any p := by rw [List.any_map]; rfl
    rw [h1, h, ← h1]
  refine ⟨?_, hall LineState.isVoid⟩
  unfold Ticket.workedState
  rw [hall fun k => k.isReady || k.isVoid, hany LineState.isReady, hall fun k => k.isWaiting || k.isVoid]

/-- Tickets changed in nothing that the working out reads. -/
theorem State.WorkedBut.of_map (h : s.WorkedBut ex) {f : Ticket → Ticket} (ht : t.tickets = s.tickets.map f)
    (hf : ∀ k, (f k).number = k.number ∧ (f k).state = k.state ∧ (f k).lines.map Line.state = k.lines.map Line.state) : t.WorkedBut ex := by
  intro j hj hex
  rw [ht] at hj
  obtain ⟨k, hk, rfl⟩ := List.mem_map.mp hj
  obtain ⟨h1, h2, h3⟩ := hf k
  obtain ⟨w1, w2⟩ := Ticket.workedState_congr h3
  obtain ⟨k1, k2⟩ := h k hk (h1 ▸ hex)
  exact ⟨by rw [h2, w1, k1], by rw [w2, k2]⟩

/-- A ticket worked out needs no exception, where it has a line that is not VOID. -/
theorem State.Agreed.workOut {n : Nat} (h : s.Agreed fun m => ex m ∨ m = n) (hv : ∀ k ∈ s.tickets, k.number = n → k.allVoid = false) :
    (s.workOut n).Agreed ex := by
  refine ⟨h.linked.congr (State.slips_workOut n s) (State.lineAt_workOut n s), fun j hj hex => ?_⟩
  rw [State.tickets_workOut] at hj
  obtain ⟨k, hk, rfl⟩ := List.mem_map.mp hj
  by_cases hn : k.number = n
  · rw [if_pos hn]
    exact ⟨rfl, hv k hk hn⟩
  · rw [if_neg hn] at hex ⊢
    exact h.worked k hk fun hh => hh.elim hex hn

/-! ## Lines voided, tickets leaving (R40, R67, R68) -/

theorem State.Pulls.agreed {g : Nat → Nat → Bool} {n : Nat} (h : s.Pulls g t) (ha : s.Agreed ex) (hg : ∀ a b, g a b = true → a = n) :
    t.Agreed fun m => ex m ∨ m = n := by
  refine ⟨h.linked ha.linked, fun j hj hex => ?_⟩
  rw [h.tickets] at hj
  obtain ⟨k, hk, rfl⟩ := List.mem_map.mp hj
  have hne : k.number ≠ n := fun hn => hex (.inr hn)
  rw [Ticket.voided_of_none fun i => Bool.eq_false_iff.mpr fun hh => hne (hg _ _ hh)]
  exact ha.worked k hk fun hh => hex (.inl hh)

/-- The lines of a ticket that has left are gone; every other stands. -/
theorem State.lineAt_untabled (k : Ticket) (s : State) (n i : Nat) : (s.untabled k).lineAt n i = if n = k.number then none else s.lineAt n i := by
  rw [State.lineAt, State.ticket?, State.tickets_untabled, List.find?_filter]
  by_cases hn : n = k.number
  · rw [if_pos hn, List.find?_eq_none.mpr fun u _ => by simp [hn]]
    rfl
  · rw [if_neg hn]
    have : (s.tickets.find? fun u => u.number != k.number && u.number == n) = s.tickets.find? fun u => u.number == n :=
      List.find?_congr fun u _ => by
        by_cases hu : u.number = n
        · simp [hu, hn]
        · simp [hu]
    simp only [Bool.decide_and, Bool.decide_eq_true] at this ⊢
    rw [this]
    rfl

/-- A ticket leaves the table without harm where none of its lines is in a slip. -/
theorem State.Agreed.untabled {k : Ticket} (h : s.Agreed fun m => ex m ∨ m = k.number) (hfree : ∀ i, s.inSlip k.number i = false) :
    (s.untabled k).Agreed ex := by
  have hx := State.slips_untabled k s
  have hentry (x : Slip) (hxs : x ∈ s.slips) (m : Member) (hm : m ∈ x.members) : m.ticket ≠ k.number := fun hn => by
    obtain ⟨l, hl, hs, _⟩ := h.linked.entries x hxs m hm
    have := hfree m.line
    rw [State.inSlip_of_some (hn ▸ hl), hs, LineState.slipNumber_follows] at this
    cases this
  refine ⟨⟨fun x hxs m hm => ?_, fun n i l j hl hj => ?_, ?_, ?_⟩, fun j hj hex => ?_⟩
  · rw [hx] at hxs
    rw [State.lineAt_untabled, if_neg (hentry x hxs m hm)]
    exact h.linked.entries x hxs m hm
  · rw [State.lineAt_untabled] at hl
    rw [hx]
    split at hl
    · cases hl
    · exact h.linked.lines n i l j hl hj
  · rw [hx]; exact h.linked.once
  · rw [hx]; exact h.linked.portions
  · rw [State.tickets_untabled] at hj
    obtain ⟨hj, hn⟩ := List.mem_filter.mp hj
    exact h.worked j hj fun hh => hh.elim hex (by simpa using hn)

theorem State.Agreed.endIfDrained (h : s.Agreed ex) : s.endIfDrained.Agreed ex := by
  unfold State.endIfDrained
  split
  · next hd =>
    have hdr := s.drained_endDraining
    exact .of_empty (hdr.tickets.trans hd.2) hdr.slips
  · exact h

theorem State.Agreed.leaveTable {k : Ticket} (h : s.Agreed fun m => ex m ∨ m = k.number) (hfree : ∀ i, s.inSlip k.number i = false) :
    (s.leaveTable k).Agreed ex := by
  rw [State.leaveTable_eq]
  exact (h.untabled hfree).endIfDrained

/-- No line of a ticket whose lines are all READY or VOID is in a slip. -/
theorem State.RecordsSound.inSlip_of_lines (hr : s.RecordsSound) {k : Ticket} (hk : k ∈ s.tickets) (h : ∀ l ∈ k.lines, l.state.slipNumber = none)
    (i : Nat) : s.inSlip k.number i = false := by
  rw [State.inSlip, hr.lineAt hk]
  cases hl : k.lines[i]? with
  | none => rfl
  | some l => rw [Option.any_some, h l (List.mem_of_getElem? hl)]; rfl

theorem LineState.slipNumber_of_done {ls : LineState} (h : (ls.isReady || ls.isVoid) = true) : ls.slipNumber = none := by
  cases ls with
  | ready _ => rfl
  | void => rfl
  | _ => cases h

theorem Ticket.done_of_up {k : Ticket} (h : k.workedState = .up) (l : Line) (hl : l ∈ k.lines) : l.state.slipNumber = none :=
  LineState.slipNumber_of_done (List.all_eq_true.mp ((Bool.and_eq_true _ _).mp (by
    unfold Ticket.workedState at h
    split at h
    · next hh => exact hh
    · split at h <;> cases h)).1 l hl)

theorem Ticket.done_of_allVoid {k : Ticket} (h : k.allVoid = true) (l : Line) (hl : l ∈ k.lines) : l.state.slipNumber = none :=
  LineState.slipNumber_of_done (by rw [List.all_eq_true.mp h l hl, Bool.or_true])

/-- PICKUP of an UP ticket (R71). -/
theorem State.Agreed.pickup (h : s.Agreed ex) (hr : s.RecordsSound) {k : Ticket} (hk : k ∈ s.tickets) (hex : ¬ex k.number) (hu : k.state = .up) :
    (s.leaveTable k).Agreed ex :=
  (h.mono fun _ => .inl).leaveTable (hr.inSlip_of_lines hk (Ticket.done_of_up ((h.worked k hk hex).1.symm.trans hu)))

theorem State.Agreed.voidTicket (h : s.Agreed ex) (hr : s.RecordsSound) {k : Ticket} (hk : k ∈ s.tickets) : (s.voidTicket k).Agreed ex := by
  have hp := State.voidLines_pulls hr h.linked hk
  have ha := hp.agreed h fun a b hg => beq_iff_eq.mp ((Bool.and_eq_true _ _).mp hg).1
  have hra := hp.recordsSound hr
  have hfree (i : Nat) : (s.voidLines k).state.inSlip k.number i = false := by
    rw [hp.inSlip, beq_self_eq_true, Bool.true_and, Bool.and_not_self]
  unfold State.voidTicket
  extract_lets v s1
  have hc := State.considerAll_considered hra fun st => v.stations.contains st
  have h1 : s1.Agreed fun m => ex m ∨ m = k.number := hc.agreed ha
  have hfree1 (i : Nat) : s1.inSlip k.number i = false := by
    refine Bool.eq_false_iff.mpr fun hin => ?_
    obtain ⟨l, hl, hs⟩ := (Option.any_eq_true _ _).mp hin
    obtain ⟨j, hj, hn, hli⟩ := State.lineAt_eq_some hl
    obtain ⟨j0, hj0, hcons⟩ := forall₂_mem_right (hc.linked ha.linked).2 hj
    have hn0 : j0.number = k.number := by rw [← hn, hcons.kept]
    obtain ⟨l0, hl0, hcl⟩ : ∃ l0, j0.lines[i]? = some l0 ∧ Line.Considers l0 l := by
      have hget := hcons.lines
      obtain ⟨hlen, hget⟩ := List.forall₂_iff_get.mp hget
      have hi := (List.getElem?_eq_some_iff.mp hli).1
      refine ⟨j0.lines[i]'(hlen ▸ hi), List.getElem?_eq_getElem _, ?_⟩
      have := hget i (hlen ▸ hi) hi
      rw [List.get_eq_getElem, List.get_eq_getElem] at this
      rwa [← (List.getElem?_eq_some_iff.mp hli).2]
    have := hfree i
    rw [← hn0, State.inSlip, hra.lineAt hj0, hl0, Option.any_some] at this
    rcases hcl with rfl | ⟨m, hm, _⟩
    · rw [this] at hs; cases hs
    · rw [hm] at this; cases this
  exact (h1.congr (t := s1.post (s1.watchersAnd k.origin) (.voided k.number .command)) rfl rfl).leaveTable hfree1

/-- The lines of a ticket that a mark of item `c` voids. -/
def Ticket.hits (c : ItemCode) (k : Ticket) : Nat → Nat → Bool := fun a b => a == k.number && (k.linesHit c).contains b

theorem Ticket.mem_linesHit {c : ItemCode} {k : Ticket} {i : Nat} : i ∈ k.linesHit c ↔ ∃ l, k.lines[i]? = some l ∧ l.hit c = true := by
  simp only [Ticket.linesHit, List.mem_map, List.mem_filter, Prod.exists, List.mem_zipIdx_iff_getElem?]
  constructor
  · rintro ⟨l, j, ⟨h1, h2⟩, rfl⟩
    exact ⟨l, h1, h2⟩
  · rintro ⟨l, h1, h2⟩
    exact ⟨l, i, ⟨h1, h2⟩, rfl⟩

theorem Ticket.linesHit_nodup (c : ItemCode) (k : Ticket) : (k.linesHit c).Nodup := by
  have : (k.lines.zipIdx.map Prod.snd).Nodup := by
    rw [List.zipIdx_map_snd]
    exact List.nodup_range'
  exact this.sublist (List.filter_sublist.map _)

/-- A ticket's lines of an item voided and its SHORT told, before it is worked out or retired (R40, R41). -/
def State.shorted (c : ItemCode) (k : Ticket) (s : State) : State :=
  ((k.linesHit c).foldl (State.voidWaiting k.number) s).post
    (((k.linesHit c).foldl (State.voidWaiting k.number) s).watchersAnd k.origin) (.short k.number c (lineSet (k.linesHit c)))

/-- One ticket of a MARK OUT: off the table where all its lines are VOID, else worked out (R41, R70). -/
def State.shortOff (c : ItemCode) (s : State) (k : Ticket) : State :=
  if (k.voided (k.hits c)).allVoid then
    ((s.shorted c k).post ((s.shorted c k).watchersAnd (k.voided (k.hits c)).origin) (.voided (k.voided (k.hits c)).number .allVoid)).untabled
      (k.voided (k.hits c))
  else (s.shorted c k).workOut k.number

theorem State.Pulls.post {g : Nat → Nat → Bool} (h : s.Pulls g t) (r : PortId → Bool) (b : NoticeBody) : s.Pulls g (t.post r b) where
  still := h.still.trans (.post r b t)
  stand := h.stand.trans (.post t r b)
  tickets := h.tickets
  slips := h.slips
  waves ex hw := (h.waves ex hw).post r b
  clears hc := (h.clears hc).trans (.post r b t)
  sheds := h.sheds.trans (.of_slips (.post r b t) (fun _ => rfl) rfl)
  holds := h.holds
  queued := h.queued
  told x hx ht hto hany q hq := (Kept.post r b t).told (h.told x hx ht hto hany q hq)

section Short

variable (hr : s.RecordsSound) (hl : s.Linked) {k : Ticket} (hk : k ∈ s.tickets) (c : ItemCode)
include hr hl hk

theorem State.shorted_pulls : s.Pulls (k.hits c) (s.shorted c k) ∧
    ∀ x ∈ s.slips, x.isPending = false → ∀ m ∈ x.members, k.hits c m.ticket m.line = false := by
  obtain ⟨h1, h2⟩ := State.voidWaitings_pulls k.number (k.linesHit c) hr hl (k.linesHit_nodup c) fun i hi => by
    obtain ⟨l, hli, hhit⟩ := Ticket.mem_linesHit.mp hi
    exact ⟨l, by rw [hr.lineAt hk, hli], ((Bool.and_eq_true _ _).mp hhit).2⟩
  exact ⟨h1.post _ _, h2⟩

theorem State.shorted_mem : k.voided (k.hits c) ∈ (s.shorted c k).tickets := by
  rw [(State.shorted_pulls hr hl hk c).1.tickets]
  exact List.mem_map_of_mem hk

/-- One ticket of a MARK OUT, and the end of draining that its retiring may be (R41, R70). -/
theorem State.shortTicket_eq : s.shortTicket c k = (s.shortOff c k).endIfDrained := by
  have hp := (State.shorted_pulls hr hl hk c).1
  have hfind : (s.shorted c k).ticket? k.number = some (k.voided (k.hits c)) := by
    rw [State.ticket?_of_map hp.tickets fun _ => rfl, hr.ticket? hk]
    rfl
  have hmem := State.shorted_mem hr hl hk c
  show (match (s.shorted c k).ticket? k.number with
    | some t' => if t'.allVoid then (s.shorted c k).retire t' else (s.shorted c k).workOut k.number
    | none => s.shorted c k) = _
  rw [hfind, State.shortOff]
  dsimp only
  split
  · rfl
  · refine (State.endIfDrained_of_not fun hd => ?_).symm
    rw [State.tickets_workOut, List.map_eq_nil_iff] at hd
    rw [hd.2] at hmem
    cases hmem

end Short

theorem Ticket.hits_number {c : ItemCode} {k : Ticket} {a b : Nat} (h : k.hits c a b = true) : a = k.number :=
  beq_iff_eq.mp ((Bool.and_eq_true _ _).mp h).1

/-- Agreement stands through a ticket that loses its WAITING lines of an item (R41). -/
theorem State.Agreed.shortOff (h : s.Agreed ex) (hr : s.RecordsSound) {k : Ticket} (hk : k ∈ s.tickets) (c : ItemCode) :
    (s.shortOff c k).Agreed ex := by
  have hp := (State.shorted_pulls hr h.linked hk c).1
  have ha := hp.agreed h fun a b => Ticket.hits_number
  have hra := hp.recordsSound hr
  have hmem := State.shorted_mem hr h.linked hk c
  have hnum : (k.voided (k.hits c)).number = k.number := rfl
  unfold State.shortOff
  generalize s.shorted c k = a at ha hra hmem ⊢
  generalize k.voided (k.hits c) = j at hmem hnum ⊢
  rw [← hnum] at ha ⊢
  split
  · next hv =>
    have hfree := hra.inSlip_of_lines hmem (Ticket.done_of_allVoid hv)
    have hp : (a.post (a.watchersAnd j.origin) (.voided j.number .allVoid)).Agreed fun m => ex m ∨ m = j.number := ha.congr rfl rfl
    exact hp.untabled hfree
  · next hv =>
    refine ha.workOut fun i hi hn => ?_
    rw [hra.ticket_unique hmem hi hn]
    exact Bool.eq_false_iff.mpr hv

theorem State.Agreed.shortTicket (h : s.Agreed ex) (hr : s.RecordsSound) {k : Ticket} (hk : k ∈ s.tickets) (c : ItemCode) :
    (s.shortTicket c k).Agreed ex := by
  rw [State.shortTicket_eq hr h.linked hk]
  exact (h.shortOff hr hk c).endIfDrained

/-- The tickets that a MARK OUT has not yet come to stand as they were. -/
theorem State.shortOff_others (hr : s.RecordsSound) (hl : s.Linked) {k : Ticket} (hk : k ∈ s.tickets) (c : ItemCode) {j : Ticket} (hj : j ∈ s.tickets)
    (hn : j.number ≠ k.number) : j ∈ (s.shortOff c k).tickets := by
  have hj1 : j ∈ (s.shorted c k).tickets := by
    rw [(State.shorted_pulls hr hl hk c).1.tickets]
    exact List.mem_map.mpr ⟨j, hj, Ticket.voided_of_none fun i => Bool.eq_false_iff.mpr fun hh => hn (Ticket.hits_number hh)⟩
  unfold State.shortOff
  split
  · rw [State.tickets_untabled]
    exact List.mem_filter.mpr ⟨hj1, by simpa using hn⟩
  · rw [State.tickets_workOut]
    exact List.mem_map.mpr ⟨j, hj1, if_neg hn⟩

/-- While another ticket stands on the table no ticket's retiring ends the draining. -/
theorem State.shortTicket_of_others (hr : s.RecordsSound) (hl : s.Linked) {k : Ticket} (hk : k ∈ s.tickets) (c : ItemCode) {j : Ticket} (hj : j ∈ s.tickets)
    (hn : j.number ≠ k.number) : s.shortTicket c k = s.shortOff c k := by
  have hmem := State.shortOff_others hr hl hk c hj hn
  rw [State.shortTicket_eq hr hl hk]
  refine State.endIfDrained_of_not fun hd => ?_
  rw [hd.2] at hmem
  cases hmem

theorem State.Agreed.shortTickets (c : ItemCode) (l : List Ticket) (h : s.Agreed ex) (hr : s.RecordsSound) (hn : (l.map Ticket.number).Nodup)
    (hl : ∀ k ∈ l, k ∈ s.tickets) : (l.foldl (State.shortTicket c) s).Agreed ex := by
  induction l generalizing s with
  | nil => exact h
  | cons k l ih =>
    obtain ⟨hk, hnl⟩ := List.nodup_cons.mp hn
    have hks := hl k List.mem_cons_self
    refine ih (h.shortTicket hr hks c) (hr.shortTicket c k) hnl fun j hj => ?_
    have hne : j.number ≠ k.number := fun he => hk (he ▸ List.mem_map_of_mem hj)
    have hjs := hl j (List.mem_cons_of_mem _ hj)
    rw [State.shortTicket_of_others hr h.linked hks c hjs hne]
    exact State.shortOff_others hr h.linked hks c hjs hne

/-- The tickets hit stand on the table, each once. -/
theorem State.RecordsSound.ticketsHit (hr : s.RecordsSound) (c : ItemCode) :
    ((s.ticketsHit c).map Ticket.number).Nodup ∧ ∀ k ∈ s.ticketsHit c, k ∈ s.tickets :=
  ⟨List.pairwise_map.mpr ((hr.tickets_rise.filter _).imp Nat.ne_of_lt), fun _ hk => List.mem_of_mem_filter hk⟩

theorem State.Agreed.markOut (h : s.Agreed ex) (hr : s.RecordsSound) (c : ItemCode) : (s.markOut c).Agreed ex := by
  obtain ⟨hn, hl⟩ := hr.ticketsHit c
  have h0 : (s.setOutBoard (insertCode c s.outBoard)).Agreed ex := h.congr rfl rfl
  have hr0 : (s.setOutBoard (insertCode c s.outBoard)).RecordsSound := hr.beside rfl
  unfold State.markOut
  split
  · exact h0.shortTickets c _ hr0 hn hl
  · exact h0

end Sys2Proof.Machine
end

section
/-! SUPPORT. Every step keeps lines and slips in agreement and every ticket worked out (R51, R52, R56, R80). -/

namespace Sys2Proof.Machine

variable {s t : State} {ex : Nat → Prop}

/-! ## Slips returned, taken, moved, freed (R52 to R54, R92, R109, R123, R127) -/

theorem State.Agreed.restate (h : s.Agreed ex) {x : Slip} (ho : s.Only x) (hx : x ∈ s.slips) (ht : x.isTaken = false) (k : SlipState) :
    (s.restate x k).Agreed ex := ⟨h.linked.restate ho hx ht k, h.worked.restate x k⟩

theorem State.Agreed.returnSlip (h : s.Agreed ex) {x : Slip} (ho : s.Only x) (hx : x ∈ s.slips) (ht : x.isTaken = false) (r : WithdrawReason) :
    (s.returnSlip x r).Agreed ex := by
  rw [State.returnSlip_eq]
  exact (h.restate ho hx ht .pending).congr rfl rfl

theorem Slip.not_taken_of_called {x : Slip} (h : x.isCalled = true) : x.isTaken = false := by
  obtain ⟨_, _, hs⟩ := Slip.isCalled_iff.mp h
  simp [Slip.isTaken, hs]

theorem State.Agreed.goDown (h : s.Agreed ex) (hr : s.RecordsSound) (st : StationId) (cause : StationCause) : (s.goDown st cause).Agreed ex := by
  have hat := s.goDown_atStations st cause
  refine State.Agreed.congr ?_ hat.tickets hat.slips
  rw [State.downed_eq]
  have h0 : (s.modStation st fun u => { u with state := .down }).Agreed ex := h.congr rfl rfl
  have hr0 : (s.modStation st fun u => { u with state := .down }).RecordsSound := hr.congr rfl rfl rfl
  have hn : ((s.calledAt st).map Slip.number).Nodup :=
    List.pairwise_map.mpr (((hr.slips_rise.filter _).filter _).imp Nat.ne_of_lt)
  have hl : ∀ x ∈ s.calledAt st, x ∈ (s.modStation st fun u => { u with state := .down }).slips ∧ x.isTaken = false := fun x hx => by
    obtain ⟨h1, _, h2⟩ := State.mem_calledAt.mp hx
    exact ⟨h1, Slip.not_taken_of_called h2⟩
  generalize s.calledAt st = l at hn hl
  generalize s.modStation st _ = a at h0 hr0 hl
  induction l generalizing a with
  | nil => exact h0
  | cons x l ih =>
    obtain ⟨hnx, hnl⟩ := List.nodup_cons.mp hn
    obtain ⟨hx, ht⟩ := hl x List.mem_cons_self
    refine ih hnl _ (h0.returnSlip (hr0.only hx) hx ht .down) (hr0.kept (.returnSlip x .down a) (Quiet.returnSlip x .down a).stands) fun y hy => ?_
    obtain ⟨hy1, hy2⟩ := hl y (List.mem_cons_of_mem _ hy)
    have hne : y.number ≠ x.number := fun he => hnx (he ▸ List.mem_map_of_mem hy)
    exact ⟨by rw [State.slips_returnSlip]; exact List.mem_map.mpr ⟨y, hy1, if_neg hne⟩, hy2⟩

theorem State.RecordsSound.timedOut (hr : s.RecordsSound) (x : Slip) : (s.timedOut x).RecordsSound := hr.kept (.timedOut x s) (.timedOut x s)

theorem State.Agreed.timedOut (h : s.Agreed ex) (hr : s.RecordsSound) {x : Slip} (hx : x ∈ s.slips) (hc : x.isCalled = true) :
    (s.timedOut x).Agreed ex :=
  (h.returnSlip (hr.only hx) hx (Slip.not_taken_of_called hc) .timeout).congr rfl rfl

theorem State.Agreed.timeoutSlip (h : s.Agreed ex) (hr : s.RecordsSound) {x : Slip} (hx : x ∈ s.slips) (hc : x.isCalled = true) :
    (s.timeoutSlip x).Agreed ex := by
  have h1 := h.timedOut hr hx hc
  rw [State.timeoutSlip_eq]
  split
  · exact h1.goDown (hr.timedOut x) _ _
  · exact h1

theorem State.goDown_state (st : StationId) (cause : StationCause) (s : State) : ((s.goDown st cause).station st).state = .down := by
  have h1 : (((s.downed st).announceDown st cause).station st).state = .down := by
    rw [State.station_announceDown, State.station_downed, if_pos rfl]
  rw [State.goDown_eq]
  generalize (s.downed st).announceDown st cause = a at h1
  split
  · rw [State.station_modStation_self]; exact h1
  · exact h1

theorem State.Agreed.timeoutAll (st : StationId) (l : List Slip) (h : s.Agreed ex) (hr : s.RecordsSound) (hl : s.TimesOut st l) :
    (s.timeoutAll st l).Agreed ex := by
  induction l generalizing s with
  | nil => exact h
  | cons x l ih =>
    obtain ⟨hx, hst, hc⟩ := hl.2 x List.mem_cons_self
    have h1 := h.timeoutSlip hr hx hc
    unfold State.timeoutAll
    dsimp only
    split
    · exact h1
    · next hd =>
      rw [State.timeoutSlip_eq] at hd h1 ⊢
      by_cases h2 : (s.station x.station).missed = 2
      · rw [if_pos h2, ← hst] at hd
        exact absurd (State.goDown_state _ _ _) hd
      · rw [if_neg h2] at h1 ⊢
        exact ih h1 (hr.timedOut x) hl.tail

theorem State.Agreed.lowerTimers (h : s.Agreed ex) (st : StationId) : (s.lowerTimers st).Agreed ex := by
  refine ⟨h.linked.of_map (State.lowerTimers_slips st s) (fun x _ => ?_) (g := fun _ _ l => l) (fun n i => (Option.map_id' (x := s.lineAt n i)).symm)
    fun _ _ _ => ⟨rfl, rfl⟩, h.worked.congr rfl⟩
  obtain ⟨r, hx, hr | ⟨time, k, hs, -, hr⟩⟩ := x.lowered_spec st
  · rw [hx, hr]
    exact ⟨rfl, rfl, rfl, rfl, rfl⟩
  · rw [hx]
    refine ⟨rfl, ?_, ?_, rfl, rfl⟩
    · show LineState.follows x.number r = _
      rw [hr, hs]
      rfl
    · show Slip.isTaken { x with state := r } = x.isTaken
      rw [hr]
      simp only [Slip.isTaken, hs]

theorem State.Agreed.secondAt (h : s.Agreed ex) (hr : s.RecordsSound) (st : StationId) : (s.secondAt st).Agreed ex := by
  unfold State.secondAt
  extract_lets s1
  split
  · have h1 : s1.Agreed ex := h.lowerTimers st
    have hr1 : s1.RecordsSound := hr.lowerTimers st
    have hl : s1.TimesOut st ((s1.busySet st).filter Slip.timedOut) := by
      rw [funext Slip.timedOut_eq]
      exact hr1.timesOut st Slip.timedOut
    exact (h1.timeoutAll st _ hr1 hl).consider (hr1.kept (.timeoutAll st _ s1) (.timeoutAll s1 st _)) st
  · exact h

theorem State.Agreed.takeSlip (h : s.Agreed ex) {x : Slip} (ho : s.Only x) (hx : x ∈ s.slips) (hc : x.isCalled = true) (time : Nat) :
    (s.takeSlip x time).Agreed ex := by
  rw [State.takeSlip_eq]
  exact (h.restate ho hx (Slip.not_taken_of_called hc) (.taken time)).congr rfl rfl

/-- A slip's member lines READY, their tickets worked out (R54). -/
def State.readyMembers (x : Slip) (s : State) : State := (s.setMembers x.members (.ready s.clock)).workOutAll x.members

theorem State.finishSlip_eq (x : Slip) (s : State) : s.finishSlip x = (s.readyMembers x).dropSlip x := rfl

theorem State.slips_readyMembers (x : Slip) (s : State) : (s.readyMembers x).slips = s.slips := by
  rw [State.readyMembers, State.slips_workOutAll, State.slips_setMembers]

theorem State.tickets_readyMembers (x : Slip) (s : State) : (s.readyMembers x).tickets = s.tickets.map fun k =>
    if x.members.any (fun m => decide (m.ticket = k.number)) then (k.setLines x.members (.ready s.clock)).worked else k := by
  rw [State.readyMembers, State.tickets_workOutAll, State.tickets_setMembers, List.map_map]
  refine List.map_congr_left fun k _ => ?_
  simp only [Function.comp]
  have hn : (k.setLines x.members (.ready s.clock)).number = k.number := rfl
  rw [hn]
  split
  · rfl
  · next hno => exact Ticket.setLines_of_none (by simpa using hno) _

theorem State.lineAt_readyMembers (x : Slip) (s : State) (n i : Nat) : (s.readyMembers x).lineAt n i = (s.lineAt n i).map fun l =>
    if x.members.any (fun m => decide (m.ticket = n ∧ m.line = i)) then { l with state := .ready s.clock } else l := by
  rw [State.readyMembers, State.lineAt_workOutAll, State.lineAt_setMembers]

theorem State.Agreed.finishSlip (h : s.Agreed ex) {x : Slip} (ho : s.Only x) (hx : x ∈ s.slips) : (s.finishSlip x).Agreed ex := by
  have hslips : (s.finishSlip x).slips = s.slips.filter fun y => y.number != x.number := by
    rw [State.finishSlip_eq, State.dropSlip_slips, State.slips_readyMembers]
  have htk : (s.finishSlip x).tickets = (s.readyMembers x).tickets := State.tickets_dropSlip x _
  have hline (n i : Nat) : (s.finishSlip x).lineAt n i = (s.lineAt n i).map fun l =>
      if x.members.any (fun m => decide (m.ticket = n ∧ m.line = i)) then { l with state := .ready s.clock } else l :=
    (State.lineAt_congr htk n i).trans (s.lineAt_readyMembers x n i)
  have hmem (y : Slip) (hy : y ∈ s.slips.filter fun y => y.number != x.number) : y ∈ s.slips ∧ y.number ≠ x.number := by
    obtain ⟨h1, h2⟩ := List.mem_filter.mp hy
    exact ⟨h1, by simpa using h2⟩
  refine ⟨⟨fun y hy m hm => ?_, fun n i l k hl hk => ?_, fun y hy => ?_, fun y hy => ?_⟩, fun j hj hex => ?_⟩
  · rw [hslips] at hy
    obtain ⟨hy, hn⟩ := hmem y hy
    obtain ⟨l, hl, hs, hq⟩ := h.linked.entries y hy m hm
    have hno : ¬x.members.any (fun j => decide (j.ticket = m.ticket ∧ j.line = m.line)) = true := by
      rw [List.any_eq_true]
      rintro ⟨j, hj, hd⟩
      obtain ⟨h1, h2⟩ := of_decide_eq_true hd
      exact hn (h.linked.entry_unique hx hy hj hm h1 h2)
    exact ⟨l, by rw [hline, hl, Option.map_some, if_neg hno], hs, hq⟩
  · rw [hline] at hl
    obtain ⟨l0, hl0, rfl⟩ := Option.map_eq_some_iff.mp hl
    by_cases hany : x.members.any (fun m => decide (m.ticket = n ∧ m.line = i)) = true
    · rw [if_pos hany] at hk; cases hk
    · rw [if_neg hany] at hk
      obtain ⟨y, hy, hn, m, hm, h1⟩ := h.linked.lines n i l0 k hl0 hk
      refine ⟨y, ?_, hn, m, hm, h1⟩
      rw [hslips]
      refine ho.not_mem_filter hy fun hyx => hany (List.any_eq_true.mpr ⟨m, hyx ▸ hm, decide_eq_true h1⟩)
  · rw [hslips] at hy
    exact h.linked.once y (hmem y hy).1
  · rw [hslips] at hy
    exact h.linked.portions y (hmem y hy).1
  · rw [htk, State.tickets_readyMembers] at hj
    obtain ⟨k, hk, rfl⟩ := List.mem_map.mp hj
    by_cases hm : x.members.any (fun m => decide (m.ticket = k.number)) = true
    · rw [if_pos hm] at hex ⊢
      exact ⟨rfl, Ticket.allVoid_setLines (h.worked k hk hex).2 _ nofun⟩
    · rw [if_neg hm] at hex ⊢
      exact h.worked k hk hex

theorem State.Agreed.bumpSlip (h : s.Agreed ex) (hr : s.RecordsSound) {x : Slip} (hx : x ∈ s.slips) (time : Nat) : (s.bumpSlip x time).Agreed ex := by
  unfold State.bumpSlip
  have h2 : ((s.clearMissed x.station).learn x.station (s.sampleOf x time)).Agreed ex := h.congr rfl rfl
  have hr2 : ((s.clearMissed x.station).learn x.station (s.sampleOf x time)).RecordsSound := hr.congr rfl rfl rfl
  exact (h2.finishSlip (hr2.only hx) hx).consider (hr2.finishSlip x) x.station

theorem State.Agreed.forceSlip (h : s.Agreed ex) (hr : s.RecordsSound) {x : Slip} (hx : x ∈ s.slips) : (s.forceSlip x).Agreed ex := by
  unfold State.forceSlip
  extract_lets s1 s2 s3
  have h2 : s2.Agreed ex ∧ s2.RecordsSound ∧ s2.slips = s.slips := by
    simp only [s2]
    split
    · exact ⟨h.congr rfl rfl, hr.congr rfl rfl rfl, rfl⟩
    · exact ⟨h.congr rfl rfl, hr.congr rfl rfl rfl, rfl⟩
  obtain ⟨h2, hr2, hx2⟩ := h2
  have h3 : s3.Agreed ex := h2.finishSlip (hr2.only (hx2 ▸ hx)) (hx2 ▸ hx)
  split
  · exact h3
  · exact h3.consider (hr2.finishSlip x) x.station

/-! ## Fire times, moves (R26, R30, R127) -/

/-- Slips and lines changed in nothing that the invariant reads. -/
theorem State.Agreed.of_slips (h : s.Agreed ex) {f : Slip → Slip} (hx : t.slips = s.slips.map f) (hf : ∀ x ∈ s.slips, x.SameLinks (f x))
    (ht : t.tickets = s.tickets) : t.Agreed ex :=
  ⟨h.linked.of_map hx hf (g := fun _ _ l => l) (fun n i => (State.lineAt_congr ht n i).trans (Option.map_id' (x := s.lineAt n i)).symm)
    fun _ _ _ => ⟨rfl, rfl⟩, h.worked.congr ht⟩

theorem State.Agreed.refireTime (h : s.Agreed ex) (x : Slip) (fire : Nat) : (s.refireTime x fire).Agreed ex := by
  refine h.of_slips (State.slips_refireTime x fire s) (fun y _ => ?_) (State.tickets_refireTime x fire s)
  split <;> exact ⟨rfl, rfl, rfl, rfl, rfl⟩

theorem State.Agreed.fireWave (h : s.Agreed ex) (hr : s.RecordsSound) (w : WaveId) : (s.fireWave w).Agreed ex := by
  have (l : List Slip) (fire : Nat) : ∀ {a : State}, a.RecordsSound → a.Agreed ex →
      (l.foldl (fun s x => s.refireTime x fire) a).RecordsSound ∧ (l.foldl (fun s x => s.refireTime x fire) a).Agreed ex := by
    induction l with
    | nil => exact fun hr h => ⟨hr, h⟩
    | cons x l ih => exact fun hr h => ih (hr.kept (.refireTime x fire _) (.refireTime _ x fire)) (h.refireTime x fire)
  obtain ⟨h1, h2⟩ := this (s.toFire w) s.clock hr h
  exact h2.considerAll h1 _

theorem State.Agreed.reachSlip (h : s.Agreed ex) (hr : s.RecordsSound) (w : WaveId) (d : Delay) (n : Nat) (left : Bool) (rest : List (Nat × Bool)) :
    (s.reachSlip w d n left rest).Agreed ex := by
  have hw (f : Wave → Wave) : (s.modWave w f).Agreed ex := h.congr rfl rfl
  have hrw (f : Wave → Wave) : (s.modWave w f).RecordsSound := hr.congr rfl rfl rfl
  unfold State.reachSlip
  split
  · exact hw _
  · next x _ =>
    dsimp only
    split
    · exact (hw _).consider (hrw _) _
    · exact ((hw _).refireTime x _).consider ((hrw _).kept (.refireTime x _ _) (.refireTime _ x _)) _

/-- A line changed in neither state nor quantity leaves the agreement. -/
theorem State.Linked.modLine (h : s.Linked) (n i : Nat) {f : Line → Line} (hf : ∀ l, (f l).state = l.state ∧ (f l).qty = l.qty) :
    (s.modLine n i f).Linked := by
  refine h.of_map (f := id) (List.map_id _).symm (fun _ _ => ⟨rfl, rfl, rfl, rfl, rfl⟩) (g := fun a b l => if a = n ∧ b = i then f l else l)
    (fun a b => ?_) fun a b l => ?_
  · rw [State.lineAt_modLine]
    by_cases hab : a = n ∧ b = i
    · rw [if_pos hab]
      exact Option.map_congr fun l _ => (if_pos hab).symm
    · rw [if_neg hab]
      exact (Option.map_id' (x := s.lineAt a b)).symm.trans (Option.map_congr fun l _ => (if_neg hab).symm)
  · split
    · exact hf l
    · exact ⟨rfl, rfl⟩

theorem Ticket.map_state_modify {i : Nat} {f : Line → Line} (hf : ∀ l, (f l).state = l.state) (ls : List Line) :
    (ls.modify i f).map Line.state = ls.map Line.state := by
  refine List.ext_getElem? fun b => ?_
  simp only [List.getElem?_map, List.getElem?_modify, Option.map_eq_map]
  cases ls[b]? with
  | none => rfl
  | some l =>
    by_cases hi : i = b
    · simp [hi, hf]
    · simp [hi]

theorem State.WorkedBut.modLine (h : s.WorkedBut ex) (n i : Nat) {f : Line → Line} (hf : ∀ l, (f l).state = l.state) :
    (s.modLine n i f).WorkedBut ex := by
  refine h.of_map (f := fun k => if k.number = n then { k with lines := k.lines.modify i f } else k) rfl fun k => ?_
  by_cases hn : k.number = n
  · simp only [if_pos hn]
    exact ⟨trivial, trivial, Ticket.map_state_modify hf _⟩
  · simp only [if_neg hn]
    exact ⟨trivial, trivial, trivial⟩

theorem State.Agreed.modLine (h : s.Agreed ex) (n i : Nat) {f : Line → Line} (hf : ∀ l, (f l).state = l.state ∧ (f l).qty = l.qty) :
    (s.modLine n i f).Agreed ex := ⟨h.linked.modLine n i hf, h.worked.modLine n i fun l => (hf l).1⟩

theorem State.Agreed.moved (h : s.Agreed ex) (st b : StationId) (x : Slip) : (s.moved st b x).Agreed ex := by
  unfold State.moved
  have h0 : (((if x.previewed then s.post (s.isBound st) (.withdrawn x.number st x.item .moved (some b)) else s).modSlip x.number fun y =>
      { y with station := b, previewed := false, fire := s.movedFire b x }).unlist x.wave x.number).Agreed ex := by
    refine h.of_slips (f := fun y => if y.number = x.number then { y with station := b, previewed := false, fire := s.movedFire b x } else y) ?_
      (fun y _ => ?_) ?_
    · split <;> rfl
    · split <;> exact ⟨rfl, rfl, rfl, rfl, rfl⟩
    · split <;> rfl
  generalize State.unlist x.wave x.number _ = a at h0
  generalize x.members = ms
  induction ms generalizing a with
  | nil => exact h0
  | cons m ms ih => exact ih _ (h0.modLine _ _ fun _ => ⟨rfl, rfl⟩)

theorem State.Agreed.moveSlip (h : s.Agreed ex) (hr : s.RecordsSound) (st b : StationId) (x : Slip) : (s.moveSlip st b x).Agreed ex := by
  rw [State.moveSlip_eq]
  have hat := AtStations.finishEvacuation st ((s.moved st b x).consider b)
  exact ((h.moved st b x).consider (hr.kept (.moved st b x s) (.moved st b x s)) b).congr hat.tickets hat.slips

/-! ## Lines placed (R63, R74, R84 to R88) -/

theorem State.lineAt_createSlip (st : StationId) (c : ItemCode) (w : WaveId) (k : SlipClass) (fire : Nat) (m : Member) (s : State) (n i : Nat) :
    (s.createSlip st c w k fire m).lineAt n i =
      if n = m.ticket ∧ i = m.line then (s.lineAt n i).map fun l => { l with state := .waiting s.nextSlip } else s.lineAt n i := by
  rw [State.lineAt_congr (s.tickets_createSlip st c w k fire m), State.lineAt_modLine]

theorem State.tickets_joinSlip (x : Slip) (fire : Nat) (m : Member) (s : State) :
    (s.joinSlip x fire m).tickets = (s.modLine m.ticket m.line fun l => { l with state := .waiting x.number }).tickets := by
  unfold State.joinSlip
  dsimp only
  split <;> rfl

theorem State.lineAt_joinSlip (x : Slip) (fire : Nat) (m : Member) (s : State) (n i : Nat) : (s.joinSlip x fire m).lineAt n i =
    if n = m.ticket ∧ i = m.line then (s.lineAt n i).map fun l => { l with state := .waiting x.number } else s.lineAt n i := by
  rw [State.lineAt_congr (s.tickets_joinSlip x fire m), State.lineAt_modLine]

/-- The line of member `m` stands on the table in no slip, with the member's quantity. -/
def State.Loose (s : State) (m : Member) : Prop := ∃ l, s.lineAt m.ticket m.line = some l ∧ l.state.slipNumber = none ∧ l.qty = m.qty

/-- A loose line is no member's. -/
theorem State.Linked.not_loose (h : s.Linked) {m : Member} (hl : s.Loose m) {x : Slip} (hx : x ∈ s.slips) {j : Member} (hj : j ∈ x.members) :
    ¬(j.ticket = m.ticket ∧ j.line = m.line) := by
  rintro ⟨h1, h2⟩
  obtain ⟨l, hl, hs, _⟩ := hl
  obtain ⟨l', hl', hs', _⟩ := h.entries x hx j hj
  rw [h1, h2, hl] at hl'
  cases hl'
  rw [hs', LineState.slipNumber_follows] at hs
  cases hs

theorem State.Linked.createSlip (h : s.Linked) (st : StationId) (c : ItemCode) (w : WaveId) (k : SlipClass) (fire : Nat) {m : Member} (hl : s.Loose m) :
    (s.createSlip st c w k fire m).Linked := by
  have hslips := s.slips_createSlip st c w k fire m
  have hline := s.lineAt_createSlip st c w k fire m
  have hold (x : Slip) (hx : x ∈ s.slips) : x ∈ (s.createSlip st c w k fire m).slips := by rw [hslips]; exact List.mem_append_left _ hx
  have hnew := List.mem_append_right s.slips (List.mem_singleton_self (⟨s.nextSlip, st, c, w, k, .pending, false, fire, m.qty, [m]⟩ : Slip))
  rw [← hslips] at hnew
  have hmem {x : Slip} (hx : x ∈ (s.createSlip st c w k fire m).slips) :
      x ∈ s.slips ∨ x = ⟨s.nextSlip, st, c, w, k, .pending, false, fire, m.qty, [m]⟩ := by
    rw [hslips] at hx
    exact (List.mem_append.mp hx).imp id List.mem_singleton.mp
  refine ⟨fun x hx j hj => ?_, fun n i l q hli hq => ?_, fun x hx => ?_, fun x hx hxt => ?_⟩
  · rcases hmem hx with hx | rfl
    · obtain ⟨l, h1, h2⟩ := h.entries x hx j hj
      exact ⟨l, by rw [hline, if_neg (h.not_loose hl hx hj), h1], h2⟩
    · rw [List.mem_singleton.mp hj]
      obtain ⟨l, h1, _, h3⟩ := hl
      exact ⟨{ l with state := .waiting s.nextSlip }, by rw [hline, if_pos ⟨rfl, rfl⟩, h1]; rfl, rfl, h3⟩
  · rw [hline] at hli
    by_cases hni : n = m.ticket ∧ i = m.line
    · rw [if_pos hni] at hli
      obtain ⟨l0, _, rfl⟩ := Option.map_eq_some_iff.mp hli
      exact ⟨_, hnew, Option.some.inj hq, m, List.mem_singleton_self m, hni.1.symm, hni.2.symm⟩
    · rw [if_neg hni] at hli
      obtain ⟨x, hx, hh⟩ := h.lines n i l q hli hq
      exact ⟨x, hold x hx, hh⟩
  · rcases hmem hx with hx | rfl
    · exact h.once x hx
    · exact List.nodup_singleton _
  · rcases hmem hx with hx | rfl
    · exact h.portions x hx hxt
    · exact ⟨List.cons_ne_nil _ _, (List.sum_singleton (x := m.qty)).symm⟩

theorem State.Linked.joinSlip (h : s.Linked) {x : Slip} (ho : s.Only x) (hx : x ∈ s.slips) (hp : x.state = .pending) (fire : Nat) {m : Member}
    (hl : s.Loose m) : (s.joinSlip x fire m).Linked := by
  have hslips := s.slips_joinSlip x fire m
  have hline := s.lineAt_joinSlip x fire m
  have hmem {y : Slip} (hy : y ∈ (s.joinSlip x fire m).slips) : y ∈ s.slips ∧ y.number ≠ x.number ∨
      y = { x with members := x.members ++ [m], portions := x.portions + m.qty, fire := min x.fire fire } := by
    rw [hslips] at hy
    obtain ⟨z, hz, rfl⟩ := List.mem_map.mp hy
    by_cases hn : z.number = x.number
    · rw [if_pos hn]; exact .inr rfl
    · rw [if_neg hn]; exact .inl ⟨hz, hn⟩
  have hself : ({ x with members := x.members ++ [m], portions := x.portions + m.qty, fire := min x.fire fire } : Slip) ∈ (s.joinSlip x fire m).slips := by
    rw [hslips]
    exact List.mem_map.mpr ⟨x, hx, if_pos rfl⟩
  have hxt : x.isTaken = false := by simp [Slip.isTaken, hp]
  refine ⟨fun y hy j hj => ?_, fun n i l q hli hq => ?_, fun y hy => ?_, fun y hy hyt => ?_⟩
  · have hstay (z : Slip) (hz : z ∈ s.slips) (hjz : j ∈ z.members) :
        ∃ l, (s.joinSlip x fire m).lineAt j.ticket j.line = some l ∧ l.state = .follows z.number z.state ∧ l.qty = j.qty := by
      obtain ⟨l, h1, h2⟩ := h.entries z hz j hjz
      exact ⟨l, by rw [hline, if_neg (h.not_loose hl hz hjz), h1], h2⟩
    rcases hmem hy with ⟨hy, _⟩ | rfl
    · exact hstay y hy hj
    · rcases List.mem_append.mp hj with hj' | hj'
      · exact hstay x hx hj'
      · rw [List.mem_singleton.mp hj']
        obtain ⟨l, h1, _, h3⟩ := hl
        refine ⟨{ l with state := .waiting x.number }, by rw [hline, if_pos ⟨rfl, rfl⟩, h1]; rfl, ?_, h3⟩
        show LineState.waiting x.number = .follows x.number x.state
        rw [hp]
        rfl
  · rw [hline] at hli
    by_cases hni : n = m.ticket ∧ i = m.line
    · rw [if_pos hni] at hli
      obtain ⟨l0, _, rfl⟩ := Option.map_eq_some_iff.mp hli
      exact ⟨_, hself, Option.some.inj hq, m, List.mem_append_right _ (List.mem_singleton_self m), hni.1.symm, hni.2.symm⟩
    · rw [if_neg hni] at hli
      obtain ⟨y, hy, hn, j, hj, hji⟩ := h.lines n i l q hli hq
      by_cases hyx : y.number = x.number
      · have := ho y hy hyx
        subst this
        exact ⟨_, hself, hn, j, List.mem_append_left _ hj, hji⟩
      · exact ⟨y, by rw [hslips]; exact List.mem_map.mpr ⟨y, hy, if_neg hyx⟩, hn, j, hj, hji⟩
  · rcases hmem hy with ⟨hy, _⟩ | rfl
    · exact h.once y hy
    · rw [List.map_append, List.nodup_append]
      refine ⟨h.once x hx, List.nodup_singleton _, fun a ha b hb hab => ?_⟩
      obtain ⟨j, hj, rfl⟩ := List.mem_map.mp ha
      rw [List.map_singleton, List.mem_singleton] at hb
      rw [hb] at hab
      exact h.not_loose hl hx hj (Prod.mk.inj hab)
  · rcases hmem hy with ⟨hy, _⟩ | rfl
    · exact h.portions y hy hyt
    · refine ⟨List.append_ne_nil_of_right_ne_nil _ (List.cons_ne_nil _ _), ?_⟩
      show x.portions + m.qty = ((x.members ++ [m]).map Member.qty).sum
      rw [List.map_append, List.sum_append, (h.portions x hx hxt).2]
      rfl

end Sys2Proof.Machine
end

section
/-! Settling O38; SUPPORT for O10: what placing a line makes of its ticket, its slip and the ports (R58, R82 to R88). -/

namespace Sys2Proof.Machine

variable {s t : State} {ex : Nat → Prop}

/-! ## A line readied (R58, R63) -/

/-- Ticket `k` with line `i` given station `st`, line and ticket late where `late`. -/
def Ticket.readied (i : Nat) (st : StationId) (late : Bool) (k : Ticket) : Ticket :=
  { k with
    late := k.late || late
    lines := k.lines.modify i fun l => { l with station := some st, late := l.late || late } }

theorem State.setLate_frame (n i : Nat) (s : State) : s.setLate n i = { s with tickets := (s.setLate n i).tickets, ports := (s.setLate n i).ports } := by
  unfold State.setLate
  dsimp only
  repeat' split
  all_goals rfl

theorem State.readied_frame (n i : Nat) (st : StationId) (late : Bool) (s : State) : s.readied n i st late =
    { s with tickets := (s.readied n i st late).tickets, ports := (s.readied n i st late).ports } := by
  unfold State.readied
  split
  · rw [State.setLate_frame]
    rfl
  · rfl

theorem State.ticket?_modLine (n i : Nat) (f : Line → Line) (s : State) : (s.modLine n i f).ticket? n =
    (s.ticket? n).map fun k => { k with lines := k.lines.modify i f } := by
  rw [State.ticket?_of_map (s := s) (f := fun k => if k.number = n then { k with lines := k.lines.modify i f } else k) rfl (fun k => by split <;> rfl)]
  exact Option.map_congr fun k hk => if_pos (State.ticket?_eq_some hk).1

/-- The ticket's late flag is set with the line's; the LATE notice goes out where it was clear. -/
theorem State.setLate_of_some {k : Ticket} {n : Nat} (hk : s.ticket? n = some k) (i : Nat) : s.setLate n i =
    if k.late then s.modLine n i fun l => { l with late := true }
    else ((s.modLine n i fun l => { l with late := true }).modTicket n fun k => { k with late := true }).post s.watchers
      (.late n k.wave k.table (s.target k) i) := by
  unfold State.setLate
  dsimp only
  rw [hk]

theorem State.setLate_told {k : Ticket} {n : Nat} (hk : s.ticket? n = some k) (hl : k.late = false) (i : Nat) {q : PortId} (hq : s.watchers q = true) :
    ((s.setLate n i).port q).Told ⟨s.clock, .late n k.wave k.table (s.target k) i⟩ := by
  rw [State.setLate_of_some hk, if_neg (by simp [hl])]
  have h1 : Kept s ((s.modLine n i fun l => { l with late := true }).modTicket n fun k => { k with late := true }) :=
    (Kept.modLine s _ _ _).trans (.modTicket fun _ => rfl)
  exact h1.told_post hq _

theorem State.tickets_setLate (hr : s.RecordsSound) (n i : Nat) : (s.setLate n i).tickets = s.tickets.map fun k =>
    if k.number = n then { k with late := true, lines := k.lines.modify i fun l => { l with late := true } } else k := by
  cases hu : s.ticket? n with
  | some u =>
    obtain ⟨hn, hmem⟩ := State.ticket?_eq_some hu
    rw [State.setLate_of_some hu]
    split
    · next hl =>
      refine List.map_congr_left fun k hk => ?_
      split
      · next hkn =>
        have hl' : k.late = true := hr.ticket_unique hmem hk (hkn.trans hn.symm) ▸ hl
        rw [← hl']
      · rfl
    · refine (List.map_map ..).trans (List.map_congr_left fun k _ => ?_)
      simp only [Function.comp]
      by_cases hkn : k.number = n
      · simp [hkn]
      · simp [hkn]
  | none =>
    have hno (k : Ticket) (hk : k ∈ s.tickets) : k.number ≠ n := by simpa using List.find?_eq_none.mp hu k hk
    unfold State.setLate
    dsimp only
    rw [hu]
    refine List.map_congr_left fun k hk => ?_
    rw [if_neg (hno k hk), if_neg (hno k hk)]

theorem State.tickets_readied (hr : s.RecordsSound) (n i : Nat) (st : StationId) (late : Bool) : (s.readied n i st late).tickets =
    s.tickets.map fun k => if k.number = n then k.readied i st late else k := by
  unfold State.readied
  split
  · next hl =>
    have h1 : (s.modLine n i fun l => { l with station := some st }).tickets = s.tickets.map fun k =>
      if k.number = n then { k with lines := k.lines.modify i fun l => { l with station := some st } } else k := rfl
    rw [State.tickets_setLate (hr.kept (.modLine s _ _ _) (.modLine s _ _ _)), h1, List.map_map]
    refine List.map_congr_left fun k _ => ?_
    by_cases hn : k.number = n
    · simp only [Function.comp, if_pos hn]
      simp [Ticket.readied, hl, List.modify_modify_eq, Function.comp_def]
    · simp only [Function.comp, if_neg hn]
  · next hl =>
    refine List.map_congr_left fun k _ => ?_
    by_cases hn : k.number = n
    · rw [if_pos hn, if_pos hn]
      simp [Ticket.readied, Bool.eq_false_iff.mpr hl]
    · rw [if_neg hn, if_neg hn]

/-- A line planned late makes its ticket's LATE notice, where it is the first (R58). -/
theorem State.readied_told (hr : s.RecordsSound) {k : Ticket} (hk : k ∈ s.tickets) (i : Nat) (st : StationId) (hl : k.late = false) {q : PortId}
    (hq : s.watchers q = true) : ((s.readied k.number i st true).port q).Told ⟨s.clock, .late k.number k.wave k.table (s.target k) i⟩ := by
  have hu := (State.ticket?_modLine k.number i (fun l => { l with station := some st }) s).trans (congrArg _ (hr.ticket? hk))
  rw [State.readied, if_pos rfl]
  exact State.setLate_told hu hl i hq

/-! ## A line placed (R63, R82 to R88) -/

/-- Ticket `k` with line `i` placed at station `st` in slip `n`. -/
def Ticket.placed (i : Nat) (st : StationId) (late : Bool) (n : Nat) (k : Ticket) : Ticket :=
  { k with
    late := k.late || late
    lines := k.lines.modify i fun l => { l with station := some st, late := l.late || late, state := .waiting n } }

/-- The number of the slip that a line of ticket `k` stands in once it is placed: of the slip it joins, else the next one given. -/
def State.slipFor (s : State) (k : Ticket) (l : Line) (st : StationId) : Nat :=
  match s.joined? k l st (s.planned k l.item st).1 with
  | some x => x.number
  | none => s.nextSlip

theorem State.joined?_readied (n i : Nat) (st d : StationId) (late : Bool) (k : Ticket) (l : Line) (fire : Nat) (s : State) :
    (s.readied n i st late).joined? k l d fire = s.joined? k l d fire := by
  rw [State.readied_frame]
  rfl

theorem State.createSlip_frame (st : StationId) (c : ItemCode) (w : WaveId) (k : SlipClass) (fire : Nat) (m : Member) (s : State) :
    s.createSlip st c w k fire m = { s with
      nextSlip := (s.createSlip st c w k fire m).nextSlip
      slipsExhausted := (s.createSlip st c w k fire m).slipsExhausted
      tickets := (s.createSlip st c w k fire m).tickets
      slips := (s.createSlip st c w k fire m).slips } := by
  unfold State.createSlip State.giveSlipNumber
  dsimp only
  split <;> rfl

theorem State.nextSlip_createSlip (hr : s.RecordsSound) (st : StationId) (c : ItemCode) (w : WaveId) (k : SlipClass) (fire : Nat) (m : Member) :
    (s.createSlip st c w k fire m).nextSlip = min (s.nextSlip + 1) 65535 := by
  have := hr.nextSlip_range
  unfold State.createSlip State.giveSlipNumber
  dsimp only
  split
  · show s.nextSlip + 1 = _
    omega
  · show s.nextSlip = _
    omega

theorem State.joinSlip_frame (x : Slip) (fire : Nat) (m : Member) (s : State) : s.joinSlip x fire m =
    { s with tickets := (s.joinSlip x fire m).tickets, slips := (s.joinSlip x fire m).slips, ports := (s.joinSlip x fire m).ports } := by
  unfold State.joinSlip
  dsimp only
  split <;> rfl

/-- Placing a line moves the records, the numbers of the slips and the ports. -/
theorem State.placeLine_frame {l : Line} {st : StationId} (h : s.route l.item l.modifiers = some st) (k : Ticket) (i : Nat) :
    (s.placeLine k i l).1 = { s with
      nextSlip := (s.placeLine k i l).1.nextSlip
      slipsExhausted := (s.placeLine k i l).1.slipsExhausted
      tickets := (s.placeLine k i l).1.tickets
      slips := (s.placeLine k i l).1.slips
      ports := (s.placeLine k i l).1.ports } := by
  rw [State.placeLine_of_route h]
  generalize (s.planned k l.item st).1 = fire
  have ha := s.readied_frame k.number i st (s.planned k l.item st).2
  generalize s.readied k.number i st (s.planned k l.item st).2 = a at ha
  cases a.joined? k l st fire with
  | some x =>
    dsimp only
    rw [State.joinSlip_frame]
    rw [ha]
  | none =>
    dsimp only
    rw [State.createSlip_frame]
    rw [ha]

theorem State.tickets_modLine_readied (hr : s.RecordsSound) (n i : Nat) (st : StationId) (late : Bool) (q : Nat) :
    ((s.readied n i st late).modLine n i fun l => { l with state := .waiting q }).tickets =
      s.tickets.map fun k => if k.number = n then k.placed i st late q else k := by
  show (s.readied n i st late).tickets.map _ = _
  rw [State.tickets_readied hr, List.map_map]
  refine List.map_congr_left fun k _ => ?_
  simp only [Function.comp]
  by_cases hk : k.number = n
  · simp only [if_pos hk]
    simp [Ticket.readied, Ticket.placed, List.modify_modify_eq, Function.comp_def, hk]
  · simp only [if_neg hk]

theorem State.tickets_placeLine (hr : s.RecordsSound) {l : Line} {st : StationId} (h : s.route l.item l.modifiers = some st) (k : Ticket) (i : Nat) :
    (s.placeLine k i l).1.tickets =
      s.tickets.map fun j => if j.number = k.number then j.placed i st (s.planned k l.item st).2 (s.slipFor k l st) else j := by
  have hn : (s.readied k.number i st (s.planned k l.item st).2).nextSlip = s.nextSlip := by rw [State.readied_frame]
  rw [State.placeLine_of_route h, State.joined?_readied, State.slipFor]
  cases s.joined? k l st (s.planned k l.item st).1 with
  | some x =>
    dsimp only
    rw [State.tickets_joinSlip]
    exact State.tickets_modLine_readied hr _ _ _ _ _
  | none =>
    dsimp only
    rw [State.tickets_createSlip, hn]
    exact State.tickets_modLine_readied hr _ _ _ _ _

/-! ## LINES PLANNED AND PLACED: O38 -/

theorem State.onDelayList_eq_false (s : State) (v : WaveId) (n : Nat) :
    s.onDelayList v n = false ↔ ∀ d, (s.wave v).delay = some d → n ∉ d.slips.map Prod.fst := by
  unfold State.onDelayList
  cases (s.wave v).delay with
  | none => simp
  | some d =>
    simp only [Option.some.injEq, forall_eq', List.any_eq_false, beq_iff_eq, List.mem_map, not_exists, not_and]

theorem State.qualifies_iff (s : State) (st : StationId) (c : ItemCode) (v : WaveId) (fire qty : Nat) (x : Slip) :
    s.qualifies st c v fire qty x = true ↔
      (s.station st).state ≠ .down ∧ x.station = st ∧ x.state = .pending ∧ x.cls = .normal ∧ x.item = c ∧ x.wave = v ∧
      x.members.length < 16 ∧ (∃ e, s.entry? c = some e ∧ x.portions + qty ≤ e.batch) ∧
      fire ≤ x.fire + (s.station st).config.window ∧ x.fire ≤ fire + (s.station st).config.window ∧
      ∀ d, (s.wave v).delay = some d → x.number ∉ d.slips.map Prod.fst := by
  rw [← State.onDelayList_eq_false, ← Slip.isPending_iff]
  unfold State.qualifies
  cases s.entry? c with
  | none => simp
  | some e =>
    simp only [Bool.and_eq_true, bne_iff_ne, beq_iff_eq, decide_eq_true_iff, Bool.not_eq_true', Config.memberCapacity, Option.some.injEq, and_assoc,
      Nat.sub_le_iff_le_add']
    constructor
    · rintro ⟨h1, h2, h3, h4, h5, h6, h7, h8, h9, h10, h11⟩
      exact ⟨h1, h2, h3, h4, h5, h6, of_decide_eq_true h7, ⟨e, rfl, h8⟩, h9, h10, h11⟩
    · rintro ⟨h1, h2, h3, h4, h5, h6, h7, ⟨_, rfl, h8⟩, h9, h10, h11⟩
      exact ⟨h1, h2, h3, h4, h5, h6, decide_eq_true h7, h8, h9, h10, h11⟩

theorem planFire_spec (target lead clock : Nat) :
    (lead ≤ target → clock ≤ target - lead → planFire target lead clock = (target - lead, false)) ∧
    (target < lead ∨ target - lead < clock → planFire target lead clock = (clock, true)) := by
  unfold planFire
  exact ⟨fun h1 h2 => if_pos ⟨h1, h2⟩, fun h => if_neg (by omega)⟩

/-- What qualifies stands in the station's queue. -/
theorem State.qualifies_mem_queue {st : StationId} {c : ItemCode} {v : WaveId} {fire qty : Nat} {x : Slip} (hx : x ∈ s.slips)
    (h : s.qualifies st c v fire qty x = true) : x ∈ s.queue st := by
  obtain ⟨-, hst, hp, -⟩ := (s.qualifies_iff st c v fire qty x).mp h
  exact State.mem_queue.mpr ⟨hx, hst, Slip.isPending_iff.mpr hp⟩

theorem State.joined?_eq_none {k : Ticket} {l : Line} {st : StationId} {fire : Nat}
    (h : k.rush = true ∨ ∀ x ∈ s.slips, s.qualifies st l.item k.wave fire l.qty x = false) : s.joined? k l st fire = none := by
  unfold State.joined?
  rcases h with h | h
  · exact if_pos h
  · split
    · rfl
    · exact List.find?_eq_none.mpr fun x hx => by simp [h x (State.mem_queue.mp hx).1]

/-- The slip joined is the one due first of those that qualify, the lowest number first (R86). -/
theorem State.joined?_eq_first (hr : s.RecordsSound) {k : Ticket} {l : Line} {st : StationId} {fire : Nat} (hk : k.rush = false) {x : Slip} (hx : x ∈ s.slips)
    (hq : s.qualifies st l.item k.wave fire l.qty x = true)
    (hfirst : ∀ y ∈ s.slips, s.qualifies st l.item k.wave fire l.qty y = true → x.fire < y.fire ∨ x.fire = y.fire ∧ x.number ≤ y.number) :
    s.joined? k l st fire = some x := by
  rw [State.joined?, if_neg (by simp [hk])]
  cases hf : (s.queue st).find? (s.qualifies st l.item k.wave fire l.qty) with
  | none => exact absurd hq (List.find?_eq_none.mp hf x (State.qualifies_mem_queue hx hq))
  | some y =>
    obtain ⟨hqy, before, after, hsplit, hno⟩ := List.find?_eq_some_iff_append.mp hf
    have hy : y ∈ s.slips := (State.mem_queue.mp (List.mem_of_find?_eq_some hf)).1
    have hxin := State.qualifies_mem_queue hx hq
    rw [hsplit] at hxin
    have hsorted := s.queue_sorted st
    rw [hsplit] at hsorted
    rcases List.mem_append.mp hxin with h | h
    · have := hno x h
      rw [hq] at this
      cases this
    · rcases List.mem_cons.mp h with rfl | h
      · rfl
      · have hle := (Slip.queueLe_iff y x).mp ((List.pairwise_cons.mp (List.pairwise_append.mp hsorted).2.1).1 x h)
        obtain ⟨-, -, -, hcx, -⟩ := (s.qualifies_iff _ _ _ _ _ x).mp hq
        obtain ⟨-, -, -, hcy, -⟩ := (s.qualifies_iff _ _ _ _ _ y).mp hqy
        rw [hcx, hcy] at hle
        have hge := hfirst y hy hqy
        have hn : y.number = x.number := by
          rcases hle with ⟨h1, _⟩ | ⟨_, hle⟩
          · cases h1
          · omega
        rw [hr.slip_unique hx hy hn]

theorem State.planned_eq {k : Ticket} {c : ItemCode} {st : StationId} {e : MenuEntry} (he : s.entry? c = some e) : s.planned k c st =
    if k.rush then (s.clock, false) else
      planFire (min ((s.wave k.wave).sweep.start + k.position * (s.wave k.wave).sweep.interval) 65535)
        (e.cook + (s.station st).config.plate + (s.station st).lag) s.clock := by
  unfold State.planned
  rw [State.leadTime, State.cookTime, he]
  rfl

theorem State.joinSlip_told {x : Slip} (hx : x.previewed = true) (hp : x.state = .pending) (fire : Nat) (m : Member) {q : PortId}
    (hq : s.isBound x.station q = true) : ((s.joinSlip x fire m).port q).Told ⟨s.clock, .changed x.number x.station x.item .pending
      (min x.fire fire) (x.portions + m.qty) (x.members.length + 1)⟩ := by
  have h1 : s.Works ((s.modSlip x.number fun _ => { x with members := x.members ++ [m], portions := x.portions + m.qty, fire := min x.fire fire }).modLine
      m.ticket m.line fun l => { l with state := .waiting x.number }) := .of_units rfl rfl rfl
  have h2 := h1.told_post (r := s.isBound x.station) hq (.changed x.number x.station x.item x.state (min x.fire fire) (x.portions + m.qty) (x.members ++ [m]).length)
  rw [hp, List.length_append] at h2
  rw [State.joinSlip, if_pos hx, State.postChanged]
  dsimp only
  rw [hp, List.length_append]
  exact h2

/-- Settles O38: the plan of a line; what qualifies; the ticket, the slip and the notices that placing it leaves. -/
theorem linePlannedAndPlaced : Obligations.LinePlannedAndPlaced := by
  refine ⟨planFire_spec, State.qualifies_iff, fun s k i l st e hr hk hrt he => ?_⟩
  refine ⟨(s.placeLine k i l).1, s.planned k l.item st, s.slipFor k l st, ⟨k.number, i, l.qty⟩, ?_, rfl, State.planned_eq he, State.placeLine_frame hrt k i,
    State.tickets_placeLine hr hrt k i, ?_, ?_, ?_⟩
  · rw [State.placeLine_of_route hrt]
  · rintro j rfl hnone
    have hj := State.joined?_eq_none hnone
    have ha := s.readied_frame k.number i st (s.planned k l.item st).2
    have hra := hr.kept (Kept.readied k.number i st (s.planned k l.item st).2 s) (Stands.readied k.number i st (s.planned k l.item st).2 s)
    have hn : (s.readied k.number i st (s.planned k l.item st).2).nextSlip = s.nextSlip := by rw [ha]
    rw [State.slipFor, State.placeLine_of_route hrt, State.joined?_readied, hj]
    dsimp only
    refine ⟨rfl, ?_, ?_⟩
    · rw [State.slips_createSlip, State.slips_readied, hn]
      rfl
    · rw [State.nextSlip_createSlip hra, hn]
  · intro hrush x hx hq hfirst
    have hj := State.joined?_eq_first hr hrush hx hq hfirst
    obtain ⟨-, hst, hp, -⟩ := (s.qualifies_iff _ _ _ _ _ x).mp hq
    have hitem : x.item = l.item := ((s.qualifies_iff _ _ _ _ _ x).mp hq).2.2.2.2.1
    have ha := s.readied_frame k.number i st (s.planned k l.item st).2
    have hwk := State.Works.readied k.number i st (s.planned k l.item st).2 s
    rw [State.slipFor, State.placeLine_of_route hrt, State.joined?_readied, hj]
    dsimp only
    refine ⟨rfl, ?_, ?_, fun hprev q hb => ?_⟩
    · rw [State.joinSlip_frame, ha]
    · rw [State.slips_joinSlip, State.slips_readied]
    · have hb' : (s.readied k.number i st (s.planned k l.item st).2).isBound x.station q = true := by rw [hwk.isBound, hst]; exact hb
      have h := State.joinSlip_told hprev hp (s.planned k l.item st).1 ⟨k.number, i, l.qty⟩ hb'
      rw [hst, hitem, hwk.clock] at h
      generalize s.readied k.number i st (s.planned k l.item st).2 = a at h ⊢
      exact h
  · intro hlate hkl q hq
    rw [State.placeLine_of_route hrt, hlate]
    have h1 := State.readied_told hr hk i st hkl hq
    generalize s.readied k.number i st true = a at h1
    dsimp only
    split
    · exact (State.Works.joinSlip _ _ _ a).told h1
    · exact (State.Works.createSlip _ _ _ _ _ _ a).told h1

end Sys2Proof.Machine
end

section
/-! Settling O10: every step keeps lines and slips in agreement and every ticket worked out (R51, R52, R56, R80). -/

namespace Sys2Proof.Machine

variable {s t : State} {ex : Nat → Prop}

/-! ## Lines placed (R63, R74) -/

/-- A member entry of ticket `n` stands in some slip. -/
def State.Seated (s : State) (n : Nat) : Prop := ∃ x ∈ s.slips, ∃ m ∈ x.members, m.ticket = n

/-- A ticket with a member entry is not all VOID. -/
theorem State.Seated.not_allVoid {n : Nat} (h : s.Seated n) (hl : s.Linked) (hr : s.RecordsSound) {k : Ticket} (hk : k ∈ s.tickets) (hn : k.number = n) :
    k.allVoid = false := by
  obtain ⟨x, hx, m, hm, hmn⟩ := h
  obtain ⟨l, hli, hs, _⟩ := hl.entries x hx m hm
  rw [hmn, ← hn, State.lineAt, hr.ticket? hk] at hli
  rw [Ticket.allVoid, List.all_eq_false]
  refine ⟨l, List.mem_of_getElem? hli, ?_⟩
  rw [hs]
  cases x.state <;> exact Bool.false_ne_true

theorem State.Seated.considerAll {n : Nat} (h : s.Seated n) (sel : StationId → Bool) : (s.considerAll sel).Seated n := by
  obtain ⟨x, hx, m, hm, hmn⟩ := h
  obtain ⟨y, hy, hxy⟩ := forall₂_mem_left (Quiet.considerAll sel s).slips hx
  exact ⟨y, hy, m, by rw [hxy.fields]; exact hm, hmn⟩

theorem State.lineAt_readied (hr : s.RecordsSound) (n i : Nat) (st : StationId) (late : Bool) (a b : Nat) : (s.readied n i st late).lineAt a b =
    if a = n ∧ b = i then (s.lineAt a b).map fun l => { l with station := some st, late := l.late || late } else s.lineAt a b := by
  rw [State.lineAt, State.ticket?_of_map (State.tickets_readied hr n i st late) (fun k => by split <;> rfl), State.lineAt]
  cases h : s.ticket? a with
  | none => simp
  | some k =>
    have hk := (State.ticket?_eq_some h).1
    by_cases ha : a = n
    · subst ha
      by_cases hb : b = i
      · subst hb; simp [hk, Ticket.readied]
      · simp [hk, Ticket.readied, hb, Ne.symm hb]
    · simp [hk, ha]

theorem State.Linked.readied (h : s.Linked) (hr : s.RecordsSound) (n i : Nat) (st : StationId) (late : Bool) : (s.readied n i st late).Linked := by
  refine h.of_map (f := id) ((State.slips_readied ..).trans (List.map_id _).symm) (fun _ _ => ⟨rfl, rfl, rfl, rfl, rfl⟩)
    (g := fun a b l => if a = n ∧ b = i then { l with station := some st, late := l.late || late } else l) (fun a b => ?_) fun a b l => ?_
  · rw [State.lineAt_readied hr]
    by_cases hab : a = n ∧ b = i
    · simp only [if_pos hab]
    · simp only [if_neg hab, Option.map_id']
  · split <;> exact ⟨rfl, rfl⟩

theorem State.Loose.readied {m : Member} (h : s.Loose m) (hr : s.RecordsSound) (n i : Nat) (st : StationId) (late : Bool) : (s.readied n i st late).Loose m := by
  obtain ⟨l, hl, h1, h2⟩ := h
  rw [State.Loose, State.lineAt_readied hr, hl]
  split
  · exact ⟨_, rfl, h1, h2⟩
  · exact ⟨l, rfl, h1, h2⟩

/-- The line that a slip is made or found for is linked to it. -/
theorem State.Linked.placeLine (h : s.Linked) (hr : s.RecordsSound) {k : Ticket} {i : Nat} {l : Line} (hl : s.Loose ⟨k.number, i, l.qty⟩) :
    (s.placeLine k i l).1.Linked := by
  cases hrt : s.route l.item l.modifiers with
  | none => rw [State.placeLine_of_no_route hrt]; exact h
  | some st =>
    rw [State.placeLine_of_route hrt]
    generalize (s.planned k l.item st).1 = fire
    have ha := h.readied hr k.number i st (s.planned k l.item st).2
    have hal := hl.readied hr k.number i st (s.planned k l.item st).2
    have hra := hr.kept (Kept.readied k.number i st (s.planned k l.item st).2 s) (Stands.readied k.number i st (s.planned k l.item st).2 s)
    generalize s.readied k.number i st (s.planned k l.item st).2 = a at ha hra hal
    cases hj : a.joined? k l st fire with
    | some x =>
      obtain ⟨hx, -, hp⟩ := State.mem_queue.mp (State.joined?_mem hj).1
      exact ha.joinSlip (hra.only hx) hx (Slip.isPending_iff.mp hp) fire hal
    | none => exact ha.createSlip st l.item k.wave k.slipClass fire hal

/-- The other lines stay as they are. -/
theorem State.Loose.placeLine {m : Member} (h : s.Loose m) (hr : s.RecordsSound) {k : Ticket} {i : Nat} (l : Line) (hm : m.ticket ≠ k.number ∨ m.line ≠ i) :
    (s.placeLine k i l).1.Loose m := by
  have hne : ¬(m.ticket = k.number ∧ m.line = i) := fun hh => hm.elim (· hh.1) (· hh.2)
  cases hrt : s.route l.item l.modifiers with
  | none => rw [State.placeLine_of_no_route hrt]; exact h
  | some st =>
    rw [State.placeLine_of_route hrt]
    generalize (s.planned k l.item st).1 = fire
    have ha := h.readied hr k.number i st (s.planned k l.item st).2
    generalize s.readied k.number i st (s.planned k l.item st).2 = a at ha
    dsimp only
    split
    · rw [State.Loose, State.lineAt_joinSlip, if_neg hne]; exact ha
    · rw [State.Loose, State.lineAt_createSlip, if_neg hne]; exact ha

theorem State.WorkedBut.placeLine (h : s.WorkedBut ex) (hr : s.RecordsSound) (k : Ticket) (hk : ex k.number) (i : Nat) (l : Line) :
    (s.placeLine k i l).1.WorkedBut ex := by
  cases hrt : s.route l.item l.modifiers with
  | none => rw [State.placeLine_of_no_route hrt]; exact h
  | some st =>
    intro j hj hex
    rw [State.tickets_placeLine hr hrt] at hj
    obtain ⟨u, hu, rfl⟩ := List.mem_map.mp hj
    by_cases hn : u.number = k.number
    · rw [if_pos hn] at hex
      exact absurd (hn ▸ hk) hex
    · rw [if_neg hn] at hex ⊢
      exact h u hu hex

theorem State.Seated.placeLine {n : Nat} (h : s.Seated n) (hr : s.RecordsSound) (k : Ticket) (i : Nat) (l : Line) : (s.placeLine k i l).1.Seated n := by
  obtain ⟨x, hx, m, hm, hmn⟩ := h
  cases hrt : s.route l.item l.modifiers with
  | none => rw [State.placeLine_of_no_route hrt]; exact ⟨x, hx, m, hm, hmn⟩
  | some st =>
    rw [State.placeLine_of_route hrt]
    generalize (s.planned k l.item st).1 = fire
    have ha : x ∈ (s.readied k.number i st (s.planned k l.item st).2).slips := by rwa [State.slips_readied]
    have hra := hr.kept (Kept.readied k.number i st (s.planned k l.item st).2 s) (Stands.readied k.number i st (s.planned k l.item st).2 s)
    generalize s.readied k.number i st (s.planned k l.item st).2 = a at ha hra
    cases hj : a.joined? k l st fire with
    | some y =>
      obtain ⟨hy, -, hp⟩ := State.mem_queue.mp (State.joined?_mem hj).1
      refine ⟨_, by rw [State.slips_joinSlip]; exact List.mem_map_of_mem ha, m, ?_, hmn⟩
      split
      · next hxy => exact List.mem_append_left _ (hra.slip_unique hy ha hxy ▸ hm)
      · exact hm
    | none => exact ⟨x, by rw [State.slips_createSlip]; exact List.mem_append_left _ ha, m, hm, hmn⟩

/-- A line that has a route is seated. -/
theorem State.placeLine_seated (k : Ticket) (i : Nat) {l : Line} (hrt : s.route l.item l.modifiers ≠ none) : (s.placeLine k i l).1.Seated k.number := by
  obtain ⟨st, hrt⟩ := Option.ne_none_iff_exists'.mp hrt
  rw [State.placeLine_of_route hrt]
  generalize (s.planned k l.item st).1 = fire
  generalize s.readied k.number i st (s.planned k l.item st).2 = a
  cases hj : a.joined? k l st fire with
  | some y =>
    obtain ⟨hy, -, -⟩ := State.mem_queue.mp (State.joined?_mem hj).1
    exact ⟨_, by rw [State.slips_joinSlip]; exact List.mem_map.mpr ⟨y, hy, if_pos rfl⟩, _, List.mem_append_right _ (List.mem_singleton_self _), rfl⟩
  | none =>
    exact ⟨_, by rw [State.slips_createSlip]; exact List.mem_append_right _ (List.mem_singleton_self _), _, List.mem_singleton_self _, rfl⟩

theorem State.route_congr (hm : t.menu = s.menu) (hd : t.diversions = s.diversions) (hst : ∀ d, t.station d = s.station d) (c : ItemCode) (mods : Modifiers) :
    t.route c mods = s.route c mods := by
  unfold State.route State.chosenStation State.entry? State.redirect State.usableBackup State.isRunning
  simp only [hm, hd, hst]

theorem State.route_placeLine (k : Ticket) (i : Nat) (l : Line) (s : State) (c : ItemCode) (mods : Modifiers) :
    (s.placeLine k i l).1.route c mods = s.route c mods := by
  cases hrt : s.route l.item l.modifiers with
  | none => rw [State.placeLine_of_no_route hrt]
  | some st =>
    have hf := State.placeLine_frame hrt k i
    exact State.route_congr (by rw [hf]) (by rw [hf]) (fun d => by rw [hf]; rfl) c mods

/-- What entering a ticket and placing its lines keeps, line `i` next (R63). -/
structure State.Seating (k : Ticket) (route : ItemCode → Modifiers → Option StationId) (out : ItemCode → Bool) (i : Nat) (s : State) : Prop where
  linked : s.Linked
  worked : s.WorkedBut fun n => n = k.number
  routes : ∀ c m, s.route c m = route c m
  outs : ∀ c, s.isOut c = out c
  loose : ∀ j l, i ≤ j → k.lines[j]? = some l → s.Loose ⟨k.number, j, l.qty⟩
  seated : (∃ j l, j < i ∧ k.lines[j]? = some l ∧ out l.item = false ∧ route l.item l.modifiers ≠ none) → s.Seated k.number

theorem State.Seating.skip {k : Ticket} {route : ItemCode → Modifiers → Option StationId} {out : ItemCode → Bool} {i : Nat} (h : s.Seating k route out i)
    {l : Line} (hl : k.lines[i]? = some l) (ho : s.isOut l.item = true) : s.Seating k route out (i + 1) := by
  refine ⟨h.linked, h.worked, h.routes, h.outs, fun j m hj => h.loose j m (by omega), fun ⟨j, m, hj, hm, hout, hrt⟩ => h.seated ⟨j, m, ?_, hm, hout, hrt⟩⟩
  refine Nat.lt_of_le_of_ne (by omega) fun hji => ?_
  subst hji
  rw [hl] at hm
  cases hm
  rw [h.outs, hout] at ho
  cases ho

theorem State.Seating.placeLine {k : Ticket} {route : ItemCode → Modifiers → Option StationId} {out : ItemCode → Bool} {i : Nat} (h : s.Seating k route out i)
    (hr : s.RecordsSound) {l : Line} (hl : k.lines[i]? = some l) : (s.placeLine k i l).1.Seating k route out (i + 1) where
  linked := h.linked.placeLine hr (h.loose i l (Nat.le_refl i) hl)
  worked := h.worked.placeLine hr k rfl i l
  routes c m := (s.route_placeLine k i l c m).trans (h.routes c m)
  outs c := (State.placeLine_isOut k i l s c).trans (h.outs c)
  loose j m hj hm := (h.loose j m (by omega) hm).placeLine hr l (.inr (by show j ≠ i; omega))
  seated := fun ⟨j, m, hj, hm, hout, hrt⟩ => by
    by_cases hji : j = i
    · subst hji
      rw [hl] at hm
      cases hm
      exact State.placeLine_seated k j (by rwa [h.routes])
    · exact (h.seated ⟨j, m, by omega, hm, hout, hrt⟩).placeLine hr k i l

/-- A submission that passed has a line to place, and a route for each of them (R61). -/
theorem State.checkSubmission_lines {a : Submission} (h : s.checkSubmission a = none) :
    ∃ e ∈ a.lines, s.isOut e.item = false ∧ s.route e.item e.modifiers ≠ none := by
  have hl : s.checkLines a = none := by
    unfold State.checkSubmission at h
    split at h
    · cases h
    · split at h
      · cases h
      · assumption
  have hlen : 1 ≤ a.lines.length ∧ a.lines.length ≤ 12 := by
    by_contra hn
    rw [State.checkLines, if_pos hn] at hl
    cases hl
  rw [State.checkLines_eq hlen] at hl
  cases hq : a.lines.findIdx? LineEntry.badQty with
  | some i => simp [hq] at hl
  | none =>
    cases he : a.lines.findIdx? fun e => (s.entry? e.item).isNone with
    | some i => simp [hq, he] at hl
    | none =>
      cases hu : a.lines.findIdx? s.unrouted with
      | some i => simp [hq, he, hu] at hl
      | none =>
        simp only [hq, he, hu] at hl
        have hall : (a.lines.all fun e => s.isOut e.item) = false := by
          by_contra hc
          rw [if_pos (by simpa using hc)] at hl
          cases hl
        obtain ⟨e, hme, hout⟩ := List.all_eq_false.mp hall
        have hout : s.isOut e.item = false := by simpa using hout
        have hun := List.findIdx?_eq_none_iff.mp hu e hme
        refine ⟨e, hme, hout, fun hrt => ?_⟩
        rw [State.unrouted, hout, hrt] at hun
        cases hun

/-- The number given next is no live ticket's. -/
theorem State.RecordsSound.not_given (hr : s.RecordsSound) (he : s.ticketsExhausted = false) {k : Ticket} (hk : k ∈ s.tickets) : k.number ≠ s.nextTicket := by
  rcases (hr.tickets_given k hk).2 with h | ⟨h, _⟩
  · exact Nat.ne_of_lt h
  · rw [he] at h; cases h

theorem State.lineAt_entered (hr : s.RecordsSound) (he : s.ticketsExhausted = false) (p : PortId) (a : Submission) (n i : Nat) :
    (s.entered p a).lineAt n i = if n = s.nextTicket then (s.newTicket p a).lines[i]? else s.lineAt n i := by
  have ht : (s.entered p a).tickets = s.tickets ++ [s.newTicket p a] := by rw [State.entered_frame]
  rw [State.lineAt, State.ticket?, ht, List.find?_append]
  by_cases hn : n = s.nextTicket
  · have hno : s.tickets.find? (fun t => t.number == n) = none :=
      List.find?_eq_none.mpr fun k hk => by simpa [hn] using hr.not_given he hk
    rw [hno, if_pos hn]
    simp [State.newTicket, hn]
  · have hne : ¬(s.newTicket p a).number = n := fun h => hn h.symm
    rw [if_neg hn, State.lineAt, State.ticket?]
    simp [hne]

theorem State.Seating.entered (h : s.Agreed fun _ => False) (hr : s.RecordsSound) {a : Submission} (ha : s.checkSubmission a = none) (p : PortId) :
    (s.entered p a).Seating (s.newTicket p a) s.route s.isOut 0 := by
  obtain ⟨-, -, hx, -, -⟩ := State.checkSubmission_none ha
  have hf := s.entered_frame p a
  have hline := State.lineAt_entered hr hx p a
  have hslips : (s.entered p a).slips = s.slips := by rw [hf]
  have htickets : (s.entered p a).tickets = s.tickets ++ [s.newTicket p a] := by rw [hf]
  have hfresh (i : Nat) : s.lineAt s.nextTicket i = none := by
    rw [State.lineAt, State.ticket?, List.find?_eq_none.mpr fun k hk => by simpa using hr.not_given hx hk]
    rfl
  refine ⟨⟨fun x hx m hm => ?_, fun n i l q hl hq => ?_, fun x hx => ?_, fun x hx => ?_⟩, fun j hj hex => ?_, fun c m => ?_, fun c => ?_, fun j l _ hl => ?_,
    fun ⟨j, _, hj, _⟩ => absurd hj (Nat.not_lt_zero j)⟩
  · rw [hslips] at hx
    obtain ⟨l, hl, hh⟩ := h.linked.entries x hx m hm
    refine ⟨l, ?_, hh⟩
    rw [hline, if_neg fun hn => ?_, hl]
    rw [hn, hfresh] at hl
    cases hl
  · rw [hline] at hl
    by_cases hn : n = s.nextTicket
    · rw [if_pos hn] at hl
      obtain ⟨e, -, rfl⟩ := List.mem_map.mp (List.mem_of_getElem? hl)
      cases hq
    · rw [if_neg hn] at hl
      rw [hslips]
      exact h.linked.lines n i l q hl hq
  · exact h.linked.once x (hslips ▸ hx)
  · exact h.linked.portions x (hslips ▸ hx)
  · rw [htickets] at hj
    rcases List.mem_append.mp hj with hj | hj
    · exact h.worked j hj id
    · rw [List.mem_singleton.mp hj] at hex
      exact absurd rfl hex
  · exact State.route_congr (by rw [hf]) (by rw [hf]) (fun d => by rw [hf]; rfl) c m
  · rw [State.isOut, State.isOut, hf]
  · refine ⟨l, (hline _ _).trans ((if_pos rfl).trans hl), ?_, rfl⟩
    obtain ⟨e, -, rfl⟩ := List.mem_map.mp (List.mem_of_getElem? hl)
    rfl

theorem State.Agreed.acceptTicket (h : s.Agreed fun _ => False) (hr : s.RecordsSound) {a : Submission} (ha : s.checkSubmission a = none) (p : PortId) :
    (s.acceptTicket p a).Agreed fun _ => False := by
  obtain ⟨h1, h2⟩ := hr.placed ha p (P := fun i u => u.Seating (s.newTicket p a) s.route s.isOut i) (.entered h hr ha p)
    (fun u i l hl ho h => h.skip hl ho) fun u i l hu hl _ h => h.placeLine hu.records hl
  have hseated := h2.seated (by
    obtain ⟨e, he, hout, hrt⟩ := State.checkSubmission_lines ha
    obtain ⟨j, hj⟩ := List.mem_iff_getElem?.mp (List.mem_map_of_mem (f := LineEntry.entered) he)
    exact ⟨j, e.entered, (List.getElem?_eq_some_iff.mp hj).1, hj, hout, hrt⟩)
  rw [State.acceptTicket_eq]
  generalize ((s.entered p a).placeLines (s.newTicket p a) 0 (s.newTicket p a).lines) = b at h1 h2 hseated
  have hb : b.1.Agreed fun n => False ∨ n = s.nextTicket := ⟨h2.linked, fun j hj hex => h2.worked j hj fun hn => hex (.inr hn)⟩
  have hrc := h1.kept (.considerAll (fun st => b.2.contains st) _) (Quiet.considerAll _ _).stands
  have hbc := hb.considerAll h1 fun st => b.2.contains st
  exact hbc.workOut fun k hk hn => (hseated.considerAll _).not_allVoid hbc.linked hrc hk hn

/-! ## Refires (R74) -/

theorem State.lineAt_countRefire (n i : Nat) (s : State) (a b : Nat) : (s.countRefire n i).lineAt a b = s.lineAt a b := by
  unfold State.countRefire
  split
  · rfl
  · dsimp only
    split
    · exact State.lineAt_of_map (f := fun k => if k.number = n then _ else k) rfl (fun k => by split <;> rfl) (fun k => by split <;> rfl) a b
    · exact State.lineAt_of_map (f := fun k => if k.number = n then _ else k) rfl (fun k => by split <;> rfl) (fun k => by split <;> rfl) a b

theorem State.Agreed.countRefire (h : s.Agreed ex) (n i : Nat) : (s.countRefire n i).Agreed ex := by
  refine ⟨h.linked.congr (State.slips_countRefire n i s) (State.lineAt_countRefire n i s), ?_⟩
  unfold State.countRefire
  split
  · exact h.worked
  · dsimp only
    split
    · exact h.worked.of_map (f := fun k => if k.number = n then _ else k) rfl fun k => by split <;> exact ⟨rfl, rfl, rfl⟩
    · exact h.worked.of_map (f := fun k => if k.number = n then _ else k) rfl fun k => by split <;> exact ⟨rfl, rfl, rfl⟩

theorem State.WorkedBut.modLine_of (h : s.WorkedBut ex) (n i : Nat) (f : Line → Line) : (s.modLine n i f).WorkedBut fun m => ex m ∨ m = n := by
  intro j hj hex
  obtain ⟨k, hk, rfl⟩ := List.mem_map.mp (show j ∈ s.tickets.map fun k => if k.number = n then { k with lines := k.lines.modify i f } else k from hj)
  by_cases hn : k.number = n
  · rw [if_pos hn] at hex
    exact absurd (.inr hn) hex
  · rw [if_neg hn] at hex ⊢
    exact h k hk fun he => hex (.inl he)

theorem State.Agreed.refireLine (h : s.Agreed ex) (hr : s.RecordsSound) {k : Ticket} (hk : k ∈ s.tickets) (hl : s.slipsLeft ≠ 0) {i : Nat} {l : Line}
    (hi : k.lines[i]? = some l) (hready : l.state.isReady = true) (st : StationId) : (s.refireLine k i l st).Agreed ex := by
  have hr0 : (s.modLine k.number i fun l => { l with station := some st }).RecordsSound := hr.kept (.modLine s _ _ _) (.modLine s _ _ _)
  have ho : s.service ≠ .closed := fun hc => by rw [(hr.closed_empty hc).1] at hk; cases hk
  have h0 := h.modLine k.number i (f := fun l => { l with station := some st }) fun _ => ⟨rfl, rfl⟩
  have hloose : (s.modLine k.number i fun l => { l with station := some st }).Loose ⟨k.number, i, l.qty⟩ := by
    obtain ⟨time, ht⟩ := LineState.isReady_iff.mp hready
    refine ⟨{ l with station := some st }, ?_, by rw [ht]; rfl, rfl⟩
    rw [State.lineAt_modLine, if_pos ⟨rfl, rfl⟩, State.lineAt, hr.ticket? hk, Option.bind_some, hi]
    rfl
  have hlinked := h0.linked.createSlip st l.item k.wave .priority s.clock hloose
  have hworked : ((s.modLine k.number i fun l => { l with station := some st }).createSlip st l.item k.wave .priority s.clock ⟨k.number, i, l.qty⟩).WorkedBut
      fun m => ex m ∨ m = k.number := (h0.worked.modLine_of k.number i _).congr (State.tickets_createSlip ..)
  have hseated : ((s.modLine k.number i fun l => { l with station := some st }).createSlip st l.item k.wave .priority s.clock ⟨k.number, i, l.qty⟩).Seated
      k.number := ⟨_, by rw [State.slips_createSlip]; exact List.mem_append_right _ (List.mem_singleton_self _), _, List.mem_singleton_self _, rfl⟩
  have hrc := (hr0.createSlip (m := ⟨k.number, i, l.qty⟩) hl ho (hr.tickets_given k hk) st l.item k.wave .priority s.clock).1
  rw [State.refireLine_eq]
  have hout := State.Agreed.workOut ⟨hlinked, hworked⟩ fun j hj hn => hseated.not_allVoid hlinked hrc hj hn
  exact (hout.countRefire k.number i).consider (hr.refired hk hl i l st) st

/-! ## The step -/

theorem State.sealWave_frame (w : WaveId) (s : State) : s.sealWave w = { s with waves := (s.sealWave w).waves, ports := (s.sealWave w).ports } := by
  by_cases h : (s.wave w).state = .opened
  · rw [State.sealWave_of_opened h, State.freeIfDone_frame]
    rfl
  · rw [State.sealWave_of_not_opened h]

theorem State.Agreed.sealWave (h : s.Agreed ex) (w : WaveId) : (s.sealWave w).Agreed ex := by
  have hf := s.sealWave_frame w
  exact h.congr (by rw [hf]) (by rw [hf])

theorem State.Agreed.closeService (h : s.Agreed ex) : s.closeService.Agreed ex := by
  have ha : (allWaves.foldl (fun s w => s.sealWave w) s).Agreed ex := by
    generalize allWaves = l
    induction l generalizing s with
    | nil => exact h
    | cons w l ih => exact ih (h.sealWave w)
  rw [State.closeService_eq]
  generalize allWaves.foldl (fun s w => s.sealWave w) s = a at ha
  have ha1 : ({ a with service := .draining } : State).Agreed ex := ha.congr rfl rfl
  generalize ({ a with service := .draining } : State) = b at ha1 ⊢
  have hb : (b.post everyPort (.service .draining .draining)).Agreed ex := ha1.congr rfl rfl
  exact hb.endIfDrained

theorem Deed.agreed {p : PortId} {u : State} {c : Cmd} (k : Deed p s c u) (hr : s.RecordsSound) (h : s.Agreed fun _ => False) : u.Agreed fun _ => False := by
  cases k with
  | nothing => exact h
  | openService hs =>
    obtain ⟨h1, h2⟩ := hr.closed_empty hs
    exact .of_empty h1 h2
  | closeService => exact h.closeService
  | resetService => exact .of_empty rfl rfl
  | sealWave w => exact h.sealWave w
  | releaseWave w =>
    have h1 : (s.modWave w fun v => { v with hold := false }).Agreed fun _ => False := h.congr rfl rfl
    exact h1.considerAll (hr.congr rfl rfl rfl) _
  | fireWave w => exact h.fireWave hr w
  | markOut c => exact h.markOut hr c
  | submitTicket a ha => exact h.acceptTicket hr ha p
  | voidTicket n k hk => exact h.voidTicket hr (State.ticket?_eq_some hk).2
  | pickup n k hk hu => exact h.pickup hr (State.ticket?_eq_some hk).2 id hu
  | refire n i k l st hk hi hready _ hn => exact h.refireLine hr (State.ticket?_eq_some hk).2 hn hi hready st
  | resumeStation st =>
    have h1 : (s.announceStation st .opened .resumed).Agreed fun _ => False := h.congr rfl rfl
    exact h1.consider (hr.congr rfl rfl rfl) st
  | stationDown st => exact h.goDown hr st _
  | stationOpen st =>
    have hat := AtStations.reopened st s
    rw [State.reopen_eq]
    exact (h.congr hat.tickets hat.slips).consider (hr.kept (.reopened st s) hat.stands) st
  | take n x time k hx hc =>
    have hm := (State.slip?_eq_some hx).2
    exact h.takeSlip (hr.only hm) hm (Slip.isCalled_iff.mpr ⟨_, _, hc⟩) time
  | bump n x time hx => exact h.bumpSlip hr (State.slip?_eq_some hx).2 time
  | forceBump n x hx => exact h.forceSlip hr (State.slip?_eq_some hx).2
  | _ => exact h.congr rfl rfl

theorem Framed.agreed {c : Cmd} {p : PortId} (k : Framed c p s t) (hr : s.RecordsSound) (h : s.Agreed fun _ => False) : t.Agreed fun _ => False := by
  cases k with
  | owned _ ho =>
    obtain ⟨u, hu, ⟨st, d, rfl⟩ | ⟨_, rfl, _⟩⟩ := ho
    · exact (hu.agreed (hr.handed c p) (h.congr rfl rfl)).congr rfl rfl
    · exact hu.agreed (hr.handed c p) (h.congr rfl rfl)
  | _ => exact h.congr rfl rfl

theorem State.Agreed.refclkCycle (h : s.Agreed ex) : s.refclkCycle.Agreed ex := by
  unfold State.refclkCycle State.tenthCycle State.secondCycle State.secondExpires
  repeat' split
  all_goals exact h.congr rfl rfl

theorem Happens.agreed (k : Happens s t) (hr : s.RecordsSound) (h : s.Agreed fun _ => False) : t.Agreed fun _ => False := by
  cases k with
  | frame c p k => exact k.agreed hr h
  | powerOn straps => exact .of_empty rfl rfl
  | resetPin straps => exact .of_empty rfl rfl
  | second => unfold State.secondExpires; split <;> exact h.congr rfl rfl
  | stationSecond st =>
    have h1 : (s.modStation st fun u => { u with due := u.due - 1 }).Agreed fun _ => False := h.congr rfl rfl
    exact h1.secondAt (hr.congr rfl rfl rfl) st
  | takeTimeout n x hx hc => exact h.timeoutSlip hr (State.slip?_eq_some hx).2 hc
  | reachEmpty w d => exact h.congr rfl rfl
  | reach w d e rest hd he ht =>
    have h1 := h.reachSlip hr w d e.1 e.2 rest
    rcases ht with rfl | ⟨d', _, rfl⟩
    · exact h1
    · exact h1.congr rfl rfl
  | evacuationMove st b x => exact h.moveSlip hr st b x
  | cycle => exact h.refclkCycle
  | _ => exact h.congr rfl rfl

/-- Settles O10: every event keeps each line with the slip that holds it, and each ticket's state worked from its lines. -/
theorem stepKeepsMembersSound : Obligations.StepKeepsMembersSound := by
  intro s t hr h hstep
  have hrt := stepKeepsRecordsSound s t hr hstep
  refine ⟨hrt, hrt.membersSound_iff_agreed.mpr ?_⟩
  obtain ⟨rest, k⟩ := step_happens hstep
  exact k.agreed (hr.beside rfl) ((hr.membersSound_iff_agreed.mp h).congr rfl rfl)

end Sys2Proof.Machine
end

section
/-! SUPPORT; settling O41: what an owner's event leaves once its command is answered, and PICKUP (R8, R9, R22, R71). -/

namespace Sys2Proof.Machine

variable {s t u : State} {c : Cmd} {p : PortId}

theorem State.toldLast_answer {q : PortId} {n : Notice} (h : (s.port q).ToldLast n) (p : PortId) (c : Cmd) (k : Status) (d : ReplyData) :
    ((s.answer p c k d).port q).ToldLast n := by
  by_cases hq : q = p
  · subst hq
    rw [State.port_answer]
    exact h.placeReply _ _
  · rwa [State.port_answer_ne hq]

/-! ## From the state handed over to the state before the frame -/

/-- What an event leaves of the waves stands once its command is answered; no delay is the issuing port's, whose reply slot was EMPTY. -/
theorem State.WavesAfter.answered (hs : (s.port p).slot = .empty) (h : (s.handed c p).Clears u) (k : Status) (d : ReplyData) :
    s.WavesAfter (u.answer p c k d) where
  freed v hv := by
    have hw := h.freed v hv
    refine ⟨by rw [State.wave_answer, hw]; rfl, by rw [State.wave_answer, hw]; rfl, by rw [State.wave_answer, hw]; rfl, fun q hq => ?_⟩
    exact State.told_answer (h.told v hv q (by rw [State.handed_watchers]; exact hq)) _ _ _ _
  ended v e hv he hslot hother := by
    have hp : e.port ≠ p := fun hep => hslot (hep ▸ hs)
    rw [State.port_answer_ne hp]
    exact h.ended v e hv he hother
  kept v hv := by
    have hw := h.kept v fun hh => hv ⟨hh.1, hh.2.2⟩
    rw [State.wave_answer, hw, State.waveMarked, State.waveMarked]
    rfl

/-- The service drained: every wave of work is FREE, and the FREE ones stay so. -/
theorem State.Clears.all_free (h : s.Clears t) (hw : s.WavesSound) (ho : ∀ v, (s.wave v).state ≠ .opened) (ht : t.tickets = []) (hx : t.slips = [])
    (v : WaveId) : (t.wave v).state = .free ∧ (t.wave v).delay = none ∧
      ((s.wave v).state ≠ .free → (t.wave v).hold = false ∧ ∀ q, s.watchers q = true → (t.port q).Told ⟨s.clock, .waveFree v⟩) := by
  have hwb := State.wavesSound_iff.mp hw
  have hidle : t.ticketCount v = 0 ∧ t.slipCount v = 0 := by
    rw [State.ticketCount, State.slipCount, ht, hx]
    exact ⟨rfl, rfl⟩
  by_cases hf : (s.wave v).state = .free
  · obtain ⟨-, -, hd⟩ := hwb.free v hf
    have hk := h.kept v fun hh => by have h1 := hh.1; rw [hf] at h1; cases h1
    rw [hk, State.waveMarked_eq]
    exact ⟨hf, by rw [Wave.marked, hd]; rfl, fun hn => absurd hf hn⟩
  · have hseal : (s.wave v).state = .sealed := by
      cases hst : (s.wave v).state with
      | free => exact absurd hst hf
      | opened => exact absurd hst (ho v)
      | sealed => rfl
    have hv : s.EmptiesWave t v := ⟨hseal, fun hh => hwb.sealed v hseal hh.1 hh.2, hidle⟩
    rw [h.freed v hv]
    exact ⟨rfl, rfl, fun _ => ⟨rfl, h.told v hv⟩⟩

/-! ## PICKUP: O41 -/

theorem LineState.readyTime_iff {k : LineState} {time : Nat} : k.readyTime = some time ↔ k = .ready time := by
  cases k <;> simp [LineState.readyTime]

theorem Ticket.lastReady_spec (k : Ticket) : (∀ l ∈ k.lines, ∀ time, l.state = .ready time → time ≤ k.lastReady) ∧
    (k.lastReady = 0 ∨ ∃ l ∈ k.lines, l.state = .ready k.lastReady) := by
  have hmem (time : Nat) : time ∈ k.lines.filterMap (fun l => l.state.readyTime) ↔ ∃ l ∈ k.lines, l.state = .ready time := by
    simp [List.mem_filterMap, LineState.readyTime_iff]
  exact ⟨fun l hl time ht => (foldl_max_ge _ 0).2 time ((hmem time).mpr ⟨l, hl, ht⟩), (foldl_max_mem _ 0).imp id (hmem _).mp⟩

theorem State.filter_number (s : State) (k : Ticket) :
    (s.tickets.filter fun u => u.number != k.number) = s.tickets.filter fun u => decide (u.number ≠ k.number) :=
  List.filter_congr fun u _ => by simp [bne, beq_eq_decide]

/-- A sealed wave that has lost its last ticket, and has no slip, is done. -/
theorem State.untabled_of_not_done {k : Ticket} (h : ¬((s.wave k.wave).state = .sealed ∧ (s.untabled k).ticketCount k.wave = 0 ∧ s.slipCount k.wave = 0)) :
    s.untabled k = { s with tickets := s.tickets.filter fun u => u.number != k.number } := by
  refine State.freeIfDone_of_not_done fun hd => h ⟨hd.1, ?_, hd.2.2⟩
  rw [State.ticketCount, State.tickets_untabled]
  exact hd.2.1

theorem State.wave_untabled_ne {k : Ticket} {v : WaveId} (h : v ≠ k.wave) : (s.untabled k).wave v = s.wave v := State.freeIfDone_wave_ne _ h

theorem State.not_idle_of_ticket {k : Ticket} (hk : k ∈ s.tickets) : s.ticketCount k.wave ≠ 0 := fun h0 => by
  rw [State.ticketCount, List.length_eq_zero_iff, List.filter_eq_nil_iff] at h0
  exact h0 k hk (beq_self_eq_true _)

/-- A service DRAINING has no OPEN wave (R7). -/
theorem State.WavesSound.not_opened (h : s.WavesSound) (hs : s.service = .draining) (v : WaveId) : (s.wave v).state ≠ .opened :=
  (State.wavesSound_iff.mp h).draining hs v

/-- Settles O41: the ticket off the table with its wave's freeing; where the service was drained, the end of draining after it. -/
theorem pickupRetires : Obligations.PickupRetires := by
  intro w s n n1 n0 ht hn hp
  have hex : exec (.pickup w) s = .next (ownPickup w.port n (s.handed .pickup w.port)) :=
    congrArg Host.Outcome.next (State.frame_of_takes (owner := ownPickup) ht (by rw [hp]; exact parseNumber_of hn))
  have htick : (s.handed .pickup w.port).ticket? n = s.ticket? n := rfl
  rw [hex, ownPickup, htick]
  refine ⟨fun hno => ?_, fun hr k hk hkn => ⟨fun hup => ?_, fun hup => ?_⟩⟩
  · have : s.ticket? n = none := List.find?_eq_none.mpr fun k hk => by simpa using hno k hk
    rw [this]
    exact congrArg _ (State.answer_handed ht.still _ _)
  · rw [← hkn, hr.ticket? hk]
    exact congrArg _ ((if_pos hup).trans (State.answer_handed ht.still _ _))
  · rw [← hkn, hr.ticket? hk]
    dsimp only
    rw [if_neg (not_not.mpr hup)]
    set h := s.handed .pickup w.port with hh
    have hrh : h.RecordsSound := hr.handed .pickup w.port
    have hfilter := State.filter_number h k
    have hlast : ∃ last, (((h.leaveTable k).answer w.port .pickup .ok (.pickup (h.pickupReport k))).port w.port).slot = .ready ⟨0x32, .ok, .pickup
        { ticket := k.number, wave := k.wave, table := k.table, accepted := k.accepted
          target := min ((s.wave k.wave).sweep.start + k.position * (s.wave k.wave).sweep.interval) 65535
          clock := s.clock, lastReady := last, refires := k.refires, late := k.late, exceptional := k.exceptional }⟩ ∧
        (∀ l ∈ k.lines, ∀ time, l.state = .ready time → time ≤ last) ∧ (last = 0 ∨ ∃ l ∈ k.lines, l.state = .ready last) :=
      ⟨k.lastReady, State.answer_slot _ _ _ _ _, k.lastReady_spec⟩
    have hstay : h.service = s.service := rfl
    have htk : (h.untabled k).tickets = s.tickets.filter fun j => decide (j.number ≠ k.number) := (State.tickets_untabled k h).trans hfilter
    have huf := State.untabled_frame k h
    have hclears := hrh.clears_untabled (k := k) hk
    generalize h.pickupReport k = report at hlast ⊢
    by_cases hd : s.service = .draining ∧ (s.tickets.filter fun j => decide (j.number ≠ k.number)) = []
    · have hend : h.leaveTable k = (h.untabled k).endDraining :=
        State.endIfDrained_of ⟨(State.service_untabled k h).trans hd.1, htk.trans hd.2⟩
      rw [hend] at hlast ⊢
      have hdr := State.drained_endDraining (h.untabled k)
      have hku := Kept.untabled k h
      have hru := hrh.untabled k
      have hcl (hw : s.WavesSound) : h.Clears (h.untabled k).endDraining := by
        have hwh := (State.wavesSound_iff.mp hw).congr (t := h) (fun _ => rfl) rfl rfl rfl
        exact hclears.trans (.endDraining hru (hwh.untable fun j hj hn => congrArg Ticket.wave (hrh.ticket_unique hk hj hn)))
      generalize (h.untabled k).endDraining = z at hdr hcl hlast ⊢
      have htz : z.tickets = [] := hdr.tickets.trans (htk.trans hd.2)
      refine ⟨_, rfl, ?_, ?_, ?_, fun _ _ => ⟨hdr.service, hdr.timer, hdr.slips, fun st => ?_, fun x hx q hq => ?_, fun hw v => ?_, fun q => ?_⟩, hlast⟩
      · have hf := hdr.frame
        rw [huf] at hf
        generalize z = y at hf ⊢
        rw [hf]
        rfl
      · exact hdr.tickets.trans htk
      · exact fun hno => absurd ⟨hd.1, htz⟩ hno
      · rw [State.station_answer, hdr.station, State.station_untabled]
        exact ⟨rfl, rfl, rfl, rfl⟩
      · have hx' : x ∈ (h.untabled k).slips := by rw [State.slips_untabled]; exact hx
        have := hdr.discarded x hx' q ((hku.isBound _ _).trans (by rw [hh, State.handed_isBound]; exact hq))
        rw [hku.clock] at this
        exact State.told_answer this _ _ _ _
      · obtain ⟨h1, h2, h3⟩ := (hcl hw).all_free (State.wavesSound_iff.mpr ((State.wavesSound_iff.mp hw).congr (fun _ => rfl) rfl rfl rfl))
          (hw.not_opened hd.1) htz hdr.slips v
        rw [State.wave_answer]
        refine ⟨h1, h2, fun hf => ⟨(h3 hf).1, fun q hq => State.told_answer ((h3 hf).2 q ?_) _ _ _ _⟩⟩
        rw [hh, State.handed_watchers]
        exact hq
      · have := hdr.last q
        rw [hku.clock] at this
        exact State.toldLast_answer this _ _ _ _
    · have hend : h.leaveTable k = h.untabled k :=
        State.endIfDrained_of_not fun hh => hd ⟨(State.service_untabled k h).symm.trans hh.1, htk.symm.trans hh.2⟩
      rw [hend] at hlast ⊢
      have hkeep (v : WaveId) (hv : v ≠ k.wave) : (h.untabled k).wave v = h.wave v := State.wave_untabled_ne hv
      have hwaves := h.untabled_of_not_done (k := k)
      generalize h.untabled k = z at huf htk hclears hlast hkeep hwaves ⊢
      refine ⟨_, rfl, ?_, htk, fun _ => ⟨?_, ?_, ?_, ?_, fun v hv => ?_, fun h1 h2 h3 => ?_, fun hno => ?_⟩, fun h1 h2 => absurd ⟨h1, htk.symm.trans h2⟩ hd, hlast⟩
      · rw [huf]
        rfl
      · rw [huf]
        rfl
      · rw [huf]
        rfl
      · rw [huf]
        rfl
      · rw [huf]
        rfl
      · rw [State.wave_answer, hkeep v hv]
        rfl
      · have hv : h.EmptiesWave z k.wave := ⟨h1, fun hh => State.not_idle_of_ticket hk hh.1, h2, by rw [State.slipCount, huf]; exact h3⟩
        rw [State.wave_answer, hclears.freed _ hv]
        exact ⟨rfl, rfl, rfl, fun q hq => State.told_answer (hclears.told _ hv q (by rw [hh, State.handed_watchers]; exact hq)) _ _ _ _⟩
      · rw [hwaves fun hx => hno hx]
        refine ⟨rfl, fun q hq => ?_⟩
        rw [State.port_answer_ne hq]
        exact State.handed_port_ne hq .pickup s

end Sys2Proof.Machine
end

section
/-! Settling O18: CLOSE SERVICE (R7 to R9, R22). -/

namespace Sys2Proof.Machine

variable {s t : State} {ex : WaveId → Prop}

/-! ## The waves sealed -/

/-- Wave `v` after a seal: an OPEN one with work SEALED, one without FREE (R21). -/
def State.sealedWave (s : State) (v : WaveId) : Wave :=
  if (s.wave v).state = .opened then if s.ticketCount v = 0 ∧ s.slipCount v = 0 then freeWave else { s.wave v with state := .sealed } else s.wave v

theorem State.wave_sealWave (w v : WaveId) (s : State) : (s.sealWave w).wave v = if v = w then s.sealedWave v else s.wave v := by
  by_cases ho : (s.wave w).state = .opened
  · rw [State.sealWave_of_opened ho]
    by_cases hv : v = w
    · subst hv
      rw [if_pos rfl, State.sealedWave, if_pos ho]
      by_cases hi : s.ticketCount v = 0 ∧ s.slipCount v = 0
      · rw [if_pos hi, State.freeIfDone_wave_self (State.done_sealed.mpr hi)]
      · rw [if_neg hi, State.freeIfDone_of_not_done fun hd => hi (State.done_sealed.mp hd), State.wave_modWave_self]
    · rw [if_neg hv, State.freeIfDone_wave_ne _ hv, State.wave_modWave_ne hv]
  · rw [State.sealWave_of_not_opened ho]
    split
    · next hv => rw [hv, State.sealedWave, if_neg ho]
    · rfl

theorem State.sealedWave_sealWave {w v : WaveId} (h : v ≠ w) (s : State) : (s.sealWave w).sealedWave v = s.sealedWave v := by
  have hf := s.sealWave_frame w
  have hw : (s.sealWave w).wave v = s.wave v := (s.wave_sealWave w v).trans (if_neg h)
  rw [State.sealedWave, hw, State.ticketCount, State.slipCount, hf]
  rfl

theorem State.wave_sealWaves {l : List WaveId} (hl : l.Nodup) (v : WaveId) (s : State) :
    (l.foldl (fun s w => s.sealWave w) s).wave v = if v ∈ l then s.sealedWave v else s.wave v := by
  induction l generalizing s with
  | nil => rfl
  | cons w l ih =>
    obtain ⟨hw, hl⟩ := List.nodup_cons.mp hl
    rw [List.foldl_cons, ih hl]
    by_cases hv : v = w
    · subst hv
      rw [if_neg hw, if_pos List.mem_cons_self, State.wave_sealWave, if_pos rfl]
    · rw [State.sealedWave_sealWave hv, State.wave_sealWave, if_neg hv]
      simp [hv]

theorem State.sealWave_told {v : WaveId} (ho : (s.wave v).state = .opened) (hi : s.ticketCount v = 0 ∧ s.slipCount v = 0) {q : PortId}
    (hq : s.watchers q = true) : ((s.sealWave v).port q).Told ⟨s.clock, .waveFree v⟩ := by
  rw [State.sealWave_of_opened ho]
  exact State.freeIfDone_told (State.done_sealed.mpr hi) hq

theorem State.sealWaves_told {l : List WaveId} (hl : l.Nodup) {v : WaveId} (hv : v ∈ l) (ho : (s.wave v).state = .opened)
    (hi : s.ticketCount v = 0 ∧ s.slipCount v = 0) {q : PortId} (hq : s.watchers q = true) :
    ((l.foldl (fun s w => s.sealWave w) s).port q).Told ⟨s.clock, .waveFree v⟩ := by
  induction l generalizing s with
  | nil => cases hv
  | cons w l ih =>
    obtain ⟨hw, hl⟩ := List.nodup_cons.mp hl
    have hk := Kept.sealWave w s
    rw [List.foldl_cons]
    by_cases hvw : v = w
    · subst hvw
      exact (Kept.sealWaves l _).told (State.sealWave_told ho hi hq)
    · have hf := s.sealWave_frame w
      have := ih hl ((List.mem_cons.mp hv).resolve_left hvw) (by rw [State.wave_sealWave, if_neg hvw]; exact ho)
        (by rw [State.ticketCount, State.slipCount, hf]; exact hi) ((hk.watchers q).trans hq)
      rwa [hk.clock] at this

theorem State.sealWaves_frame (l : List WaveId) (s : State) : l.foldl (fun s w => s.sealWave w) s =
    { s with waves := (l.foldl (fun s w => s.sealWave w) s).waves, ports := (l.foldl (fun s w => s.sealWave w) s).ports } := by
  induction l generalizing s with
  | nil => rfl
  | cons w l ih =>
    rw [List.foldl_cons]
    have h := ih (s.sealWave w)
    have hf := s.sealWave_frame w
    generalize l.foldl (fun s w => s.sealWave w) (s.sealWave w) = a at h ⊢
    rw [hf] at h
    exact h

theorem State.WavesBut.sealWaves (h : s.WavesBut ex) (l : List WaveId) : (l.foldl (fun s w => s.sealWave w) s).WavesBut ex := by
  induction l generalizing s with
  | nil => exact h
  | cons w l ih => exact ih (h.sealWave w)

/-! ## The service DRAINING -/

/-- The waves sealed and the service DRAINING, with its notice: CLOSE SERVICE but for the end of draining (R7). -/
def State.drainedOff (s : State) : State :=
  ({ allWaves.foldl (fun s w => s.sealWave w) s with service := .draining } : State).post everyPort (.service .draining .draining)

theorem State.closeService_eq' (s : State) : s.closeService = s.drainedOff.endIfDrained := rfl

theorem nodup_allWaves : allWaves.Nodup := List.nodup_finRange 32

/-- What CLOSE SERVICE leaves before the end of draining. -/
structure State.Draining (s t : State) : Prop where
  frame : t = { s with service := .draining, waves := t.waves, ports := t.ports }
  wave : ∀ v, t.wave v = s.sealedWave v
  freed : ∀ v, (s.wave v).state = .opened → s.ticketCount v = 0 ∧ s.slipCount v = 0 → ∀ q, s.watchers q = true →
    (t.port q).Told ⟨s.clock, .waveFree v⟩
  bound : ∀ st q, t.isBound st q = s.isBound st q
  watchers : ∀ q, t.watchers q = s.watchers q
  last : ∀ q, (t.port q).ToldLast ⟨s.clock, .service .draining .draining⟩
  waves : s.WavesSound → t.WavesSound

theorem State.draining_drainedOff (s : State) : s.Draining s.drainedOff := by
  have hf := s.sealWaves_frame allWaves
  have hw (v : WaveId) := State.wave_sealWaves nodup_allWaves v s
  have ht (v : WaveId) (ho : (s.wave v).state = .opened) (hi : s.ticketCount v = 0 ∧ s.slipCount v = 0) (q : PortId) (hq : s.watchers q = true) :=
    State.sealWaves_told nodup_allWaves (List.mem_finRange v) ho hi hq
  have hk := Kept.sealWaves allWaves s
  have hno (v : WaveId) := State.sealWaves_not_opened allWaves v s (.inr (List.mem_finRange v))
  have hwb (h : s.WavesSound) := (State.wavesSound_iff.mp h).sealWaves allWaves
  unfold State.drainedOff
  generalize allWaves.foldl (fun s w => s.sealWave w) s = a at hf hw ht hk hno hwb
  refine ⟨?_, fun v => ?_, fun v ho hi q hq => ?_, fun st q => ?_, fun q => ?_, fun q => ?_, fun h => ?_⟩
  · rw [hf]
    rfl
  · rw [State.wave_post]
    exact (hw v).trans (if_pos (List.mem_finRange v))
  · exact (Kept.post everyPort (.service .draining .draining) ({ a with service := .draining } : State)).told (ht v ho hi q hq)
  · exact ((Kept.post everyPort (.service .draining .draining) ({ a with service := .draining } : State)).isBound st q).trans (hk.isBound st q)
  · exact ((Kept.post everyPort (.service .draining .draining) ({ a with service := .draining } : State)).watchers q).trans (hk.watchers q)
  · rw [State.port_post, ← hk.clock]
    exact PortUnit.toldLast_append _ _
  · have ha := hwb h
    have hd : ({ a with service := .draining } : State).WavesBut fun _ => False := ⟨ha.free, ha.sealed, fun _ => hno, ha.rising, ha.listed⟩
    exact State.wavesSound_iff.mpr (hd.post _ _)

/-! ## The waves once the slips that remain are discarded -/

/-- In the course of discarding the slips of list `l`: each wave is SEALED with a slip yet to go, or FREE and told, or was FREE before. -/
structure State.Emptying (s : State) (l : List Slip) (t : State) : Prop where
  still : Kept s t
  tickets : t.tickets = []
  slips : ∀ x ∈ t.slips, x ∈ l
  wave : ∀ v, (t.wave v).state = .sealed ∧ (∃ x ∈ l, x.wave = v) ∨
    t.wave v = freeWave ∧ (∀ q, s.watchers q = true → (t.port q).Told ⟨s.clock, .waveFree v⟩) ∨
    (s.wave v).state = .free ∧ t.wave v = s.wave v ∧ ∀ x ∈ l, x.wave ≠ v

theorem State.wave_dropSlip (x : Slip) (s : State) (v : WaveId) : (s.dropSlip x).wave v = (s.unslip x).wave v := by
  rw [State.dropSlip_eq]
  split
  · exact (AtStations.finishEvacuation _ _).wave v
  · rfl

theorem State.Emptying.discard {l : List Slip} {x : Slip} (h : s.Emptying (x :: l) t) : s.Emptying l (t.discard x) := by
  have hkd : Kept t (t.discard x) := .discard t x
  have hslips (y : Slip) (hy : y ∈ (t.discard x).slips) : y ∈ l := by
    rw [State.discard_slips] at hy
    obtain ⟨hy, hn⟩ := List.mem_filter.mp hy
    refine (List.mem_cons.mp (h.slips y hy)).resolve_left fun hyx => ?_
    rw [hyx] at hn
    simp at hn
  have htick : (t.discard x).tickets = [] := by
    rw [State.discard, State.tickets_dropSlip]
    exact h.tickets
  refine ⟨h.still.trans hkd, htick, hslips, fun v => ?_⟩
  set a := t.postWithdrawn x .discarded with ha
  have hka : Kept t a := .post _ _ t
  have hwave : (t.discard x).wave v = (a.unslip x).wave v := State.wave_dropSlip x _ v
  have hport (q : PortId) (n : Notice) (hq : ((a.unslip x).port q).Told n) : ((t.discard x).port q).Told n := by
    show ((a.dropSlip x).port q).Told n
    rw [State.dropSlip_eq]
    split
    · exact (Kept.finishEvacuation _ _).told hq
    · exact hq
  by_cases hv : v = x.wave
  · subst hv
    set b : State := { a.markLeft x.wave x.number with slips := a.slips.filter fun y => y.number != x.number } with hb
    have hkb : Kept t b := (hka.trans (.markLeft _ _ a)).trans (.filterSlips _ _)
    have hbw : b.wave x.wave = (t.wave x.wave).marked _ := State.wave_markLeft x.wave x.number a x.wave
    by_cases hd : b.Done x.wave
    · refine .inr (.inl ⟨hwave.trans (State.freeIfDone_wave_self hd), fun q hq => hport q _ ?_⟩)
      have := State.freeIfDone_told hd ((hkb.watchers q).trans ((h.still.watchers q).trans hq))
      rwa [hkb.clock, h.still.clock] at this
    · have hself : (t.discard x).wave x.wave = b.wave x.wave := by rw [hwave, State.unslip, State.freeIfDone_of_not_done hd]
      rw [hself, hbw]
      rcases h.wave x.wave with ⟨h1, -⟩ | ⟨h1, h2⟩ | ⟨-, -, h3⟩
      · have hcount : b.slipCount x.wave ≠ 0 := fun h0 => hd ⟨by rw [hbw]; exact h1, by rw [State.ticketCount, show b.tickets = [] from h.tickets]; rfl, h0⟩
        rw [State.slipCount, Ne, List.length_eq_zero_iff, List.filter_eq_nil_iff] at hcount
        push Not at hcount
        obtain ⟨y, hy, hyv⟩ := hcount
        refine .inl ⟨h1, y, hslips y ?_, beq_iff_eq.mp hyv⟩
        rw [State.discard_slips]
        exact hy
      · refine .inr (.inl ⟨by rw [h1]; rfl, fun q hq => hkd.told (h2 q hq)⟩)
      · exact absurd rfl (h3 x List.mem_cons_self)
  · have hsame : (t.discard x).wave v = t.wave v := by
      rw [hwave, State.unslip, State.freeIfDone_wave_ne _ hv]
      show (a.markLeft x.wave x.number).wave v = _
      rw [State.markLeft, State.wave_modWave_ne hv]
      rfl
    rw [hsame]
    rcases h.wave v with ⟨h1, y, hy, hyv⟩ | ⟨h1, h2⟩ | ⟨h1, h2, h3⟩
    · refine .inl ⟨h1, y, (List.mem_cons.mp hy).resolve_left fun hyx => hv (hyx ▸ hyv.symm), hyv⟩
    · exact .inr (.inl ⟨h1, fun q hq => hkd.told (h2 q hq)⟩)
    · exact .inr (.inr ⟨h1, h2, fun y hy => h3 y (List.mem_cons_of_mem x hy)⟩)

theorem State.Emptying.discards {l : List Slip} (h : s.Emptying l t) : s.Emptying [] (l.foldl State.discard t) := by
  induction l generalizing t with
  | nil => exact h
  | cons x l ih => exact ih h.discard

/-- The service drained of its tickets, its waves sound: the end of draining leaves every wave FREE. -/
theorem State.WavesSound.emptying (h : s.WavesSound) (ho : ∀ v, (s.wave v).state ≠ .opened) (ht : s.tickets = []) : s.Emptying s.slips s := by
  have hw := State.wavesSound_iff.mp h
  have hzero (v : WaveId) : s.ticketCount v = 0 := by rw [State.ticketCount, ht]; rfl
  refine ⟨.refl s, ht, fun _ hx => hx, fun v => ?_⟩
  cases hv : (s.wave v).state with
  | opened => exact absurd hv (ho v)
  | sealed =>
    have hcount : s.slipCount v ≠ 0 := fun h0 => hw.sealed v hv (hzero v) h0
    rw [State.slipCount, Ne, List.length_eq_zero_iff, List.filter_eq_nil_iff] at hcount
    push Not at hcount
    obtain ⟨x, hx, hxv⟩ := hcount
    exact .inl ⟨rfl, x, hx, beq_iff_eq.mp hxv⟩
  | free =>
    refine .inr (.inr ⟨rfl, rfl, fun x hx hxv => ?_⟩)
    have h0 := (hw.free v hv).2.1
    rw [State.slipCount, List.length_eq_zero_iff, List.filter_eq_nil_iff] at h0
    exact h0 x hx (beq_iff_eq.mpr hxv)

theorem State.wave_endDraining (s : State) (v : WaveId) : s.endDraining.wave v = s.emptied.wave v := by
  rw [State.endDraining_eq, State.wave_post]
  rfl

theorem State.Draining.not_opened (h : s.Draining t) (v : WaveId) : (t.wave v).state ≠ .opened := by
  rw [h.wave, State.sealedWave]
  split
  · split <;> exact nofun
  · assumption

/-- Settles O18: the waves sealed one by one; with no ticket left, the end of draining within the event. -/
theorem closeServiceDrains : Obligations.CloseServiceDrains := by
  intro w s ht hp
  have hex : exec (.closeService w) s = .next (ownCloseService w.port () (s.handed .closeService w.port)) :=
    congrArg Host.Outcome.next (State.frame_of_takes (owner := ownCloseService) ht (by rw [hp]; rfl))
  have hserv : (s.handed .closeService w.port).service = s.service := rfl
  rw [hex, ownCloseService, hserv]
  refine ⟨fun hs => ?_, fun hs => ?_, fun hs hne => ?_, fun hs hnil => ?_⟩
  all_goals rw [hs]
  · exact congrArg _ (State.answer_handed ht.still _ _)
  · exact congrArg _ (State.answer_handed ht.still _ _)
  all_goals
    dsimp only
    set h := s.handed .closeService w.port with hh
    have hwatch (q : PortId) : h.watchers q = s.watchers q := State.handed_watchers _ _ _ _
    have hbound (st : StationId) (q : PortId) : h.isBound st q = s.isBound st q := State.handed_isBound _ _ _ _ _
    have hsealed (v : WaveId) : h.sealedWave v = s.sealedWave v := rfl
    have hdr := h.draining_drainedOff
    rw [State.closeService_eq']
  · generalize h.drainedOff = a at hdr
    have htick : a.tickets = s.tickets := by rw [hdr.frame]; rfl
    have hsv : a.service = .draining := by rw [hdr.frame]
    rw [State.endIfDrained_of_not fun hd => hne (htick ▸ hd.2), hsv]
    refine ⟨_, rfl, ?_, fun v ho => ⟨fun hi => ?_, fun hi => ?_⟩, fun v ho => ?_, fun q => State.toldLast_answer (hdr.last q) _ _ _ _,
      State.answer_slot _ _ _ _ _⟩
    · rw [hdr.frame]
      rfl
    · rw [State.wave_answer, hdr.wave, hsealed, State.sealedWave, if_pos ho, if_pos hi]
      exact ⟨rfl, rfl, fun q hq => State.told_answer (hdr.freed v ho hi q ((hwatch q).trans hq)) _ _ _ _⟩
    · rw [State.wave_answer, hdr.wave, hsealed, State.sealedWave, if_pos ho, if_neg hi]
    · rw [State.wave_answer, hdr.wave, hsealed, State.sealedWave, if_neg ho]
  · have hwh (hw : s.WavesSound) : h.WavesSound := State.wavesSound_iff.mpr ((State.wavesSound_iff.mp hw).congr (fun _ => rfl) rfl rfl rfl)
    generalize h.drainedOff = a at hdr
    have htick : a.tickets = s.tickets := by rw [hdr.frame]; rfl
    have hslips : a.slips = s.slips := by rw [hdr.frame]; rfl
    have hstat (st : StationId) : a.station st = s.station st := by rw [hdr.frame]; rfl
    have hclock : a.clock = s.clock := by rw [hdr.frame]; rfl
    have hsv : a.service = .draining := by rw [hdr.frame]
    rw [State.endIfDrained_of ⟨hsv, htick.trans hnil⟩]
    have hz := a.drained_endDraining
    have hwz := a.wave_endDraining
    have hkz : Kept a a.endDraining := Kept.endDraining a
    have hem (hw : s.WavesSound) := ((hdr.waves (hwh hw)).emptying hdr.not_opened (htick.trans hnil)).discards
    have hemk : Kept a.emptied a.endDraining := (Kept.toClosed _).trans (.post _ _ _)
    change ∀ hw : s.WavesSound, a.Emptying [] a.emptied at hem
    generalize a.emptied = e at hwz hem hemk
    generalize a.endDraining = z at hz hkz hwz hemk
    rw [hz.service]
    refine ⟨_, rfl, ?_, fun st => ?_, fun x hx q hq => ?_, fun hw v => ?_, fun q => ⟨?_, ?_⟩, State.answer_slot _ _ _ _ _⟩
    · have hf := hz.frame
      rw [hdr.frame] at hf
      generalize z = y at hf hz ⊢
      rw [hf, hz.service, hz.timer, hz.slips, hz.tickets, htick]
      rfl
    · rw [State.station_answer, hz.station, hstat]
      exact ⟨rfl, rfl, rfl, rfl⟩
    · have := hz.discarded x (hslips ▸ hx) q ((show a.isBound x.station q = h.isBound x.station q from hdr.bound _ q).trans ((hbound _ q).trans hq))
      rw [hclock] at this
      exact State.told_answer this _ _ _ _
    · have hfree : (h.sealedWave v).state = .free → (s.wave v).state ≠ .free → h.sealedWave v = freeWave ∧ ∀ q, s.watchers q = true →
          (a.port q).Told ⟨s.clock, .waveFree v⟩ := fun h1 hf => by
        rw [hsealed, State.sealedWave] at h1 ⊢
        split at h1
        · next ho =>
          split at h1
          · next hi => exact ⟨by rw [if_pos ho, if_pos hi], fun q hq => hdr.freed v ho hi q ((hwatch q).trans hq)⟩
          · cases h1
        · exact absurd h1 hf
      rw [State.wave_answer, hwz]
      rcases (hem hw).wave v with ⟨-, x, hx, -⟩ | ⟨h1, h2⟩ | ⟨h1, h2, -⟩
      · cases hx
      · rw [h1]
        refine ⟨rfl, rfl, fun _ => ⟨rfl, fun q hq => ?_⟩⟩
        have := hemk.told (h2 q ((hdr.watchers q).trans ((hwatch q).trans hq)))
        rw [hclock] at this
        exact State.told_answer this _ _ _ _
      · rw [h2]
        refine ⟨h1, ((State.wavesSound_iff.mp (hdr.waves (hwh hw))).free v h1).2.2, fun hf => ?_⟩
        obtain ⟨h3, h4⟩ := hfree (hdr.wave v ▸ h1) hf
        rw [hdr.wave, h3]
        exact ⟨rfl, fun q hq => State.told_answer (hkz.told (h4 q hq)) _ _ _ _⟩
    · exact State.told_answer (hkz.told (hdr.last q).told) _ _ _ _
    · have := hz.last q
      rw [hclock] at this
      exact State.toldLast_answer this _ _ _ _

end Sys2Proof.Machine
end

section
/-! SUPPORT. What a consideration and a working out leave of lines and tell of tickets (R56, R57, R107, R108). -/

namespace Sys2Proof.Machine

variable {s t u : State}

/-! ## Passes, step by step -/

/-- What previews and calls keep, a consideration keeps (R107). -/
theorem State.consider_induct {P : State → Prop} {st : StationId} (hr : s.RecordsSound) (hpreview : ∀ a x, a.RecordsSound → P a → P (a.preview st x))
    (hcall : ∀ a x, a.RecordsSound → x ∈ a.queue st → P a → P (a.callSlip st x)) (h : P s) : P (s.consider st) := by
  have previews (l : List Slip) : ∀ {a : State}, a.RecordsSound → P a →
      (l.foldl (fun s x => if s.previewable st x then s.preview st x else s) a).RecordsSound ∧
        P (l.foldl (fun s x => if s.previewable st x then s.preview st x else s) a) := by
    induction l with
    | nil => exact fun hr h => ⟨hr, h⟩
    | cons x l ih =>
      intro a hr h
      rw [List.foldl_cons]
      split
      · exact ih (hr.kept (.preview st x a) (Quiet.preview st x a).stands) (hpreview a x hr h)
      · exact ih hr h
  have calls (n : Nat) : ∀ {a : State}, a.RecordsSound → P a → P (a.callPass st n) := by
    induction n with
    | zero => exact fun _ h => h
    | succ n ih =>
      intro a hr h
      unfold State.callPass
      split
      · next x hx => exact ih (hr.kept (.callSlip st x a) (Quiet.callSlip st x a).stands) (hcall a x hr (List.mem_of_find?_eq_some hx) h)
      · exact h
  obtain ⟨h1, h2⟩ := previews (s.queue st) hr h
  unfold State.consider
  split
  · exact calls _ h1 h2
  · exact h2
  · exact h
  · exact h

/-! ## Lines that no slip holds -/

/-- Line `i` of ticket `n` is no slip's member. -/
def State.Lone (s : State) (n i : Nat) : Prop := ∀ x ∈ s.slips, ∀ m ∈ x.members, ¬(m.ticket = n ∧ m.line = i)

theorem State.Lone.of_slips {n i : Nat} (h : s.Lone n i) (hx : List.Forall₂ Slip.Same s.slips t.slips) : t.Lone n i := fun y hy m hm => by
  obtain ⟨x, hxs, hxy⟩ := forall₂_mem_right hx hy
  rw [hxy.fields] at hm
  exact h x hxs m hm

/-- A consideration leaves the lines that no slip holds. -/
theorem State.Lone.consider {n i : Nat} (h : s.Lone n i) (hr : s.RecordsSound) (st : StationId) : (s.consider st).lineAt n i = s.lineAt n i := by
  refine (State.consider_induct (P := fun a => a.Lone n i ∧ a.lineAt n i = s.lineAt n i) hr (fun a x hr ha => ?_) (fun a x hr hx ha => ?_) ⟨h, rfl⟩).2
  · exact ⟨ha.1.of_slips (Quiet.preview st x a).slips, ha.2⟩
  · refine ⟨ha.1.of_slips (Quiet.callSlip st x a).slips, ?_⟩
    have hno : ¬x.members.any (fun m => decide (m.ticket = n ∧ m.line = i)) = true := by
      rw [List.any_eq_true]
      rintro ⟨m, hm, hd⟩
      exact ha.1 x (State.mem_queue.mp hx).1 m hm (of_decide_eq_true hd)
    rw [State.callSlip_eq]
    show ((a.markLeft x.wave x.number).restate x _).lineAt n i = _
    rw [State.lineAt_restate]
    simp only [hno, Bool.false_eq_true, if_false, Option.map_id']
    exact ha.2

/-! ## UP told (R57) -/

/-- From `s` to `t`, tickets change in state and lines alone, and each that becomes UP has its UP notice. -/
structure State.Ups (s t : State) : Prop where
  still : Kept s t
  sweeps : ∀ k ∈ s.tickets, (t.wave k.wave).sweep = (s.wave k.wave).sweep
  tickets : List.Forall₂ (fun k j : Ticket => j = { k with state := j.state, lines := j.lines } ∧ (k.state ≠ .up → j.state = .up →
    ∀ q, s.watchersAnd k.origin q = true → (t.port q).Told ⟨s.clock, .up k.number k.wave k.table (s.target k) k.late⟩)) s.tickets t.tickets

theorem State.Ups.of_tickets (hk : Kept s t) (hs : ∀ k ∈ s.tickets, (t.wave k.wave).sweep = (s.wave k.wave).sweep) {f : Ticket → Ticket}
    (ht : t.tickets = s.tickets.map f) (hf : ∀ k ∈ s.tickets, ∃ ls, f k = { k with lines := ls }) : s.Ups t := by
  refine ⟨hk, hs, ?_⟩
  rw [ht]
  refine forall₂_map_mem fun k hks => ?_
  obtain ⟨ls, hls⟩ := hf k hks
  rw [hls]
  exact ⟨rfl, fun h1 h2 => absurd h2 h1⟩

theorem State.Ups.refl (s : State) : s.Ups s := .of_tickets (f := id) (.refl s) (fun _ _ => rfl) (List.map_id _).symm fun k _ => ⟨k.lines, rfl⟩

theorem forall₂_imp_mem {α β : Type} {r r' : α → β → Prop} {l : List α} {m : List β} (h : List.Forall₂ r l m) (hr : ∀ a ∈ l, ∀ b ∈ m, r a b → r' a b) :
    List.Forall₂ r' l m := by
  induction h with
  | nil => exact .nil
  | @cons a b l m hab _ ih =>
    exact .cons (hr a List.mem_cons_self b List.mem_cons_self hab) (ih fun a ha b hb => hr a (List.mem_cons_of_mem _ ha) b (List.mem_cons_of_mem _ hb))

theorem State.target_congr {k j : Ticket} (hw : j.wave = k.wave) (hp : j.position = k.position) (hs : (t.wave k.wave).sweep = (s.wave k.wave).sweep) :
    t.target j = s.target k := by
  rw [State.target, State.target, Wave.target, Wave.target, hw, hp, hs]

theorem State.Ups.trans (h : s.Ups t) (k : t.Ups u) : s.Ups u := by
  have hsweeps (a : Ticket) (ha : a ∈ s.tickets) : (u.wave a.wave).sweep = (s.wave a.wave).sweep := by
    obtain ⟨b, hb, hab, -⟩ := forall₂_mem_left h.tickets ha
    have := k.sweeps b hb
    rw [hab] at this
    exact this.trans (h.sweeps a ha)
  refine ⟨h.still.trans k.still, hsweeps, ?_⟩
  refine forall₂_trans_of (fun a b c hab hbc => ?_) (forall₂_imp_mem h.tickets (r' := fun a b => a ∈ s.tickets ∧ b = { a with state := b.state, lines := b.lines } ∧
    (a.state ≠ .up → b.state = .up → ∀ q, s.watchersAnd a.origin q = true → (t.port q).Told ⟨s.clock, .up a.number a.wave a.table (s.target a) a.late⟩))
    fun a ha b _ hab => ⟨ha, hab⟩) k.tickets
  obtain ⟨ha, h1, h2⟩ := hab
  obtain ⟨k1, k2⟩ := hbc
  refine ⟨by rw [k1, h1], fun hna hc q hq => ?_⟩
  by_cases hb : b.state = .up
  · exact k.still.told (h2 hna hb q hq)
  · have hbo : b.origin = a.origin := by rw [h1]
    have := k2 hb hc q (by rw [hbo, h.still.watchersAnd]; exact hq)
    have htarget : t.target b = s.target a := State.target_congr (by rw [h1]) (by rw [h1]) (h.sweeps a ha)
    rw [htarget, h.still.clock, h1] at this
    exact this

theorem State.Ups.workOut (hr : s.RecordsSound) (n : Nat) : s.Ups (s.workOut n) := by
  refine ⟨.workOut n s, fun k _ => by rw [State.wave_workOut], ?_⟩
  rw [State.tickets_workOut]
  refine forall₂_map_mem fun k hk => ?_
  split
  · next hn =>
    refine ⟨rfl, fun h1 h2 q hq => ?_⟩
    rw [State.workOut_of_ticket? (hn ▸ hr.ticket? hk), if_pos ⟨h2, h1⟩, ← hn]
    have hkm : Kept s (s.modTicket k.number fun t => { t with state := t.workedState }) := .modTicket fun _ => rfl
    exact hkm.told_post hq _
  · exact ⟨rfl, fun h1 h2 => absurd h2 h1⟩

theorem State.Ups.workOutAll (hr : s.RecordsSound) (ms : List Member) : s.Ups (s.workOutAll ms) := by
  unfold State.workOutAll
  induction ms generalizing s with
  | nil => exact .refl s
  | cons m ms ih => exact (State.Ups.workOut hr m.ticket).trans (ih (hr.kept (.workOut _ s) (Quiet.workOut _ s).stands))

theorem State.Ups.setMembers (ms : List Member) (ls : LineState) (s : State) : s.Ups (s.setMembers ms ls) :=
  .of_tickets (.setMembers ms ls s) (fun k _ => by rw [State.wave_setMembers]) (State.tickets_setMembers ms ls s) fun _ _ => ⟨_, rfl⟩

theorem State.Ups.of_same (hk : Kept s t) (hs : ∀ k ∈ s.tickets, (t.wave k.wave).sweep = (s.wave k.wave).sweep) (ht : t.tickets = s.tickets) : s.Ups t :=
  .of_tickets (f := id) hk hs (ht.trans (List.map_id _).symm) fun k _ => ⟨k.lines, rfl⟩

theorem State.Ups.restate (hr : s.RecordsSound) (x : Slip) (k : SlipState) : s.Ups (s.restate x k) := by
  have hkm : Kept s (s.modSlip x.number fun y => { y with state := k }) := .modSlip (fun _ h => h) fun _ _ _ _ h => h
  have h1 : s.Ups (s.modSlip x.number fun y => { y with state := k }) := .of_same hkm (fun _ _ => rfl) rfl
  have hr1 := (hr.kept hkm rfl).kept (.setMembers x.members (.follows x.number k) _) (Quiet.setMembers x.members (.follows x.number k) _).stands
  exact (h1.trans (.setMembers x.members (.follows x.number k) _)).trans (.workOutAll hr1 x.members)

theorem State.Ups.consider (hr : s.RecordsSound) (st : StationId) : s.Ups (s.consider st) := by
  refine State.consider_induct (P := fun a => s.Ups a) hr (fun a x hr ha => ha.trans ?_) (fun a x hr hx ha => ha.trans ?_) (.refl s)
  · exact .of_same (.preview st x a) (fun _ _ => rfl) rfl
  · rw [State.callSlip_eq]
    have h1 : a.Ups (a.markLeft x.wave x.number) := .of_same (.markLeft _ _ a) (fun k _ => by rw [State.wave_markLeft]; rfl) rfl
    have h2 := h1.trans (.restate (hr.kept (.markLeft _ _ a) rfl) x (.called a.clock (a.station st).config.timeout))
    exact h2.trans (.of_same (.post _ _ _) (fun _ _ => rfl) rfl)

/-! ## A slip put in a state, taken off, its station considering: the frames -/

theorem State.workOut_frame (n : Nat) (s : State) : s.workOut n = { s with tickets := (s.workOut n).tickets, ports := (s.workOut n).ports } := by
  unfold State.workOut
  split
  · rfl
  · dsimp only
    split <;> rfl

theorem State.workOutAll_frame (ms : List Member) (s : State) : s.workOutAll ms =
    { s with tickets := (s.workOutAll ms).tickets, ports := (s.workOutAll ms).ports } := by
  unfold State.workOutAll
  induction ms generalizing s with
  | nil => rfl
  | cons m ms ih =>
    rw [List.foldl_cons]
    have h := ih (s.workOut m.ticket)
    have hf := s.workOut_frame m.ticket
    generalize List.foldl _ (s.workOut m.ticket) ms = a at h ⊢
    rw [hf] at h
    exact h

theorem State.setMembers_frame (ms : List Member) (ls : LineState) (s : State) : s.setMembers ms ls = { s with tickets := (s.setMembers ms ls).tickets } := by
  unfold State.setMembers
  induction ms generalizing s with
  | nil => rfl
  | cons m ms ih =>
    rw [List.foldl_cons]
    have h := ih (s.modLine m.ticket m.line fun l => { l with state := ls })
    generalize List.foldl _ (s.modLine m.ticket m.line fun l => { l with state := ls }) ms = a at h ⊢
    exact h

theorem State.restate_frame (x : Slip) (k : SlipState) (s : State) : s.restate x k =
    { s with slips := (s.restate x k).slips, tickets := (s.restate x k).tickets, ports := (s.restate x k).ports } := by
  have h1 := State.workOutAll_frame x.members ((s.modSlip x.number fun y => { y with state := k }).setMembers x.members (.follows x.number k))
  have h2 := State.setMembers_frame x.members (.follows x.number k) (s.modSlip x.number fun y => { y with state := k })
  rw [← State.restate] at h1
  generalize s.restate x k = a at h1 ⊢
  generalize State.setMembers x.members (.follows x.number k) _ = b at h1 h2
  rw [h1, h2]
  rfl

theorem State.readyMembers_frame (x : Slip) (s : State) : s.readyMembers x =
    { s with tickets := (s.readyMembers x).tickets, ports := (s.readyMembers x).ports } := by
  have h1 := State.workOutAll_frame x.members (s.setMembers x.members (.ready s.clock))
  have h2 := State.setMembers_frame x.members (.ready s.clock) s
  rw [← State.readyMembers] at h1
  generalize s.readyMembers x = a at h1 ⊢
  generalize s.setMembers x.members (.ready s.clock) = b at h1 h2
  rw [h1, h2]

end Sys2Proof.Machine
end

section
/-! Settling O48; SUPPORT for O49, O50: TAKE, and slips finished (R52, R54, R110). -/

namespace Sys2Proof.Machine

variable {s t u : State}

theorem Ticket.state_of_setLines {k : Ticket} {ms : List Member} {ls : LineState} {m : Member} (hm : m ∈ ms) (hn : k.number = m.ticket) {l : Line}
    (hl : (k.setLines ms ls).lines[m.line]? = some l) : l.state = ls := by
  have hany : ms.any (fun j => decide (j.ticket = k.number ∧ j.line = m.line)) = true := List.any_eq_true.mpr ⟨m, hm, decide_eq_true ⟨hn.symm, rfl⟩⟩
  rw [Ticket.setLines, List.getElem?_mapIdx] at hl
  obtain ⟨l0, -, rfl⟩ := Option.map_eq_some_iff.mp hl
  rw [if_pos hany]

/-- A slip put in another state that is not PENDING leaves the busy count. -/
theorem State.busyCount_restate {x : Slip} (ho : s.Only x) (hp : x.isPending = false) {k : SlipState} (hk : k ≠ .pending) (st : StationId) :
    (s.restate x k).busyCount st = s.busyCount st := by
  rw [State.busyCount_eq, State.busyCount_eq, State.slips_restate, List.countP_map]
  refine List.countP_congr fun y hy => ?_
  simp only [Function.comp]
  split
  · next hn =>
    have hyx := ho y hy hn
    subst hyx
    have : Slip.isPending { y with state := k } = false := Bool.eq_false_iff.mpr fun h => hk (Slip.isPending_iff.mp h)
    rw [hp, this]
  · exact Iff.rfl

/-- Settles O48: the slip and its lines put in their state together, the missed takes cleared. -/
theorem takeStartsCooking : Obligations.TakeStartsCooking := by
  intro w s n n1 n0 ht hn hp
  have hex : exec (.take w) s = .next (ownTake w.port n (s.handed .take w.port)) :=
    congrArg Host.Outcome.next (State.frame_of_takes (owner := ownTake) ht (by rw [hp]; exact parseNumber_of hn))
  have hslip : (s.handed .take w.port).slip? n = s.slip? n := rfl
  have hrole : (s.port w.port).role = .station := by simpa [permits] using ht.permitted
  have hbound (st : StationId) : (s.handed .take w.port).isBound st w.port = true ↔ (s.station st).config.port = some w.port := by
    rw [State.handed_isBound, State.isBound_iff]
    exact and_iff_left hrole
  rw [hex, ownTake, hslip]
  refine ⟨fun hno => ?_, fun hr x hx hxn => ⟨fun hport => ?_, fun hport => ⟨fun hc => ?_, fun time timer hxs => ?_⟩⟩⟩
  · rw [State.slip?_eq_none.mpr hno]
    exact congrArg _ (State.answer_handed ht.still _ _)
  all_goals
    subst hxn
    rw [hr.slip? hx]
    dsimp only
  · rw [if_pos (by simpa [← hbound] using hport)]
    exact congrArg _ (State.answer_handed ht.still _ _)
  all_goals rw [if_neg (by simpa [← hbound] using hport)]
  · cases hxs : x.state with
    | called => simp [Slip.isCalled, hxs] at hc
    | pending => exact congrArg _ (State.answer_handed ht.still _ _)
    | taken => exact congrArg _ (State.answer_handed ht.still _ _)
  · rw [hxs]
    dsimp only
    rw [State.takeSlip_eq]
    set h := s.handed .take w.port with hh
    have hf := State.restate_frame x (.taken time) h
    have hslips := State.slips_restate x (.taken time) h
    have htick := State.tickets_restate x (.taken time) h
    have hbusy (st : StationId) := State.busyCount_restate (s := h) (hr.only hx) (by simp [Slip.isPending, hxs]) (k := .taken time) nofun st
    generalize h.restate x (.taken time) = a at hf hslips htick hbusy
    refine ⟨_, rfl, ?_, fun st => ?_, fun m hm k hk l hkn hl => ?_, State.answer_slot _ _ _ _ _⟩
    · have hmap : a.slips = s.slips.map fun y => if y.number = x.number then { x with state := .taken time } else y := by
        rw [hslips]
        refine List.map_congr_left fun y hy => ?_
        split
        · next hyn => rw [hr.slip_unique hx hy hyn]
        · rfl
      rw [hf, ← hmap]
      rfl
    · exact hbusy st
    · change k ∈ a.tickets at hk
      rw [htick] at hk
      obtain ⟨k0, -, rfl⟩ := List.mem_map.mp hk
      have hn0 : k0.number = m.ticket := by
        split at hkn <;> exact hkn
      have hany : x.members.any (fun j => decide (j.ticket = k0.number)) = true := List.any_eq_true.mpr ⟨m, hm, decide_eq_true hn0.symm⟩
      rw [if_pos hany] at hl
      exact Ticket.state_of_setLines (ls := .follows x.number (.taken time)) hm hn0 hl

end Sys2Proof.Machine
end

section
/-! SUPPORT. A slip finished: off the board, its lines READY, its station perhaps considering (R22, R54, R118). -/

namespace Sys2Proof.Machine

variable {s t u : State} {x : Slip}

/-- What considerations may do depends on the clock, the stations' configurations and states, and the hold flags alone. -/
theorem State.Considers.congr_unit {y : Slip} (h : t.Considers x y) (hc : t.clock = s.clock)
    (hg : (t.station x.station).config = (s.station x.station).config) (hs : (t.station x.station).state = (s.station x.station).state)
    (hh : (t.wave x.wave).hold = (s.wave x.wave).hold) : s.Considers x y := by
  have hr : t.isRunning x.station = s.isRunning x.station := by rw [State.isRunning, hs, State.isRunning]
  refine ⟨h.kept, ?_, ?_⟩
  · have := h.previewed
    rwa [hr, hg, hc] at this
  · have := h.called
    rwa [hs, hg, hc, hh] at this

/-! ## Slips off the board -/

/-- Slip `x` off the board, its wave's list marked, the wave not yet freed. -/
def State.unlisted (x : Slip) (s : State) : State := { s.markLeft x.wave x.number with slips := s.slips.filter fun y => y.number != x.number }

theorem State.unslip_eq (x : Slip) (s : State) : s.unslip x = (s.unlisted x).freeIfDone x.wave := rfl

theorem State.wave_unlisted (x : Slip) (s : State) (v : WaveId) :
    (s.unlisted x).wave v = (s.wave v).marked fun n => decide (v = x.wave) && decide (n = x.number) := State.wave_markLeft x.wave x.number s v

/-- A wave that keeps a ticket or a slip keeps its sweep and its hold flag when a slip leaves. -/
theorem State.wave_dropSlip_of_work {v : WaveId} (h : s.ticketCount v ≠ 0 ∨ (s.dropSlip x).slipCount v ≠ 0) :
    ((s.dropSlip x).wave v).sweep = (s.wave v).sweep ∧ ((s.dropSlip x).wave v).hold = (s.wave v).hold := by
  have hnot : v = x.wave → ¬(s.unlisted x).Done x.wave := by
    rintro rfl ⟨-, h1, h2⟩
    refine h.elim (fun hn => hn h1) fun hn => hn ?_
    rw [State.slipCount, State.dropSlip_slips]
    exact h2
  have hw : (s.dropSlip x).wave v = (s.unlisted x).wave v := by
    rw [State.wave_dropSlip, State.unslip_eq]
    by_cases hv : v = x.wave
    · rw [State.freeIfDone_of_not_done (hnot hv)]
    · exact State.freeIfDone_wave_ne _ hv
  rw [hw, State.wave_unlisted]
  exact ⟨rfl, rfl⟩

theorem State.slipCount_ne_zero {y : Slip} (hy : y ∈ s.slips) : s.slipCount y.wave ≠ 0 := fun h0 => by
  rw [State.slipCount, List.length_eq_zero_iff, List.filter_eq_nil_iff] at h0
  exact h0 y hy (beq_self_eq_true _)

theorem State.dropSlip_frame (x : Slip) (s : State) : s.dropSlip x = { s with
    waves := (s.dropSlip x).waves, slips := (s.dropSlip x).slips, stations := (s.dropSlip x).stations, ports := (s.dropSlip x).ports } := by
  have hu := s.unslip_frame x
  rw [State.dropSlip_eq]
  split
  · have ha := AtStations.finishEvacuation x.station (s.unslip x)
    generalize (s.unslip x).finishEvacuation x.station = b at ha
    rw [hu] at ha
    rw [ha]
  · rw [hu]

theorem State.station_dropSlip_ne {d : StationId} (h : d ≠ x.station) (s : State) : (s.dropSlip x).station d = s.station d := by
  rw [State.dropSlip_eq]
  split
  · rw [State.station_finishEvacuation_ne h, State.station_unslip]
  · exact State.station_unslip x s d

/-- The evacuation of a PENDING slip's station ends where the slip was the last of the queue (R128). -/
theorem State.station_dropSlip_self (x : Slip) (s : State) : (s.dropSlip x).station x.station = { s.station x.station with
    evacuating := (s.station x.station).evacuating && !(x.isPending && ((s.dropSlip x).queue x.station).isEmpty) } := by
  have hq : ((s.unslip x).queue x.station) = (s.dropSlip x).queue x.station := by
    rw [State.queue, State.queue, State.dropSlip_slips, State.slips_unslip]
  rw [← hq, State.dropSlip_eq]
  cases hp : x.isPending with
  | true =>
    rw [if_pos rfl, State.station_finishEvacuation_self, State.station_unslip]
    rfl
  | false =>
    rw [if_neg Bool.false_ne_true, State.station_unslip]
    simp

/-- The queue is emptied by the leaving of a PENDING slip exactly where it held that slip alone. -/
theorem State.RecordsSound.queue_dropSlip (hr : s.RecordsSound) (hx : x ∈ s.slips) :
    (x.isPending && ((s.dropSlip x).queue x.station).isEmpty) = true ↔ s.queue x.station = [x] := by
  have hmem (y : Slip) : y ∈ (s.dropSlip x).queue x.station ↔ y ∈ s.queue x.station ∧ y ≠ x := by
    rw [State.mem_queue, State.mem_queue, State.dropSlip_slips, List.mem_filter]
    constructor
    · rintro ⟨⟨h1, h2⟩, h3⟩
      exact ⟨⟨h1, h3⟩, fun hyx => by simp [hyx] at h2⟩
    · rintro ⟨⟨h1, h3⟩, h2⟩
      exact ⟨⟨h1, by simpa using fun hn => h2 (hr.slip_unique hx h1 hn)⟩, h3⟩
  rw [Bool.and_eq_true, List.isEmpty_iff, List.eq_nil_iff_forall_not_mem]
  constructor
  · rintro ⟨hp, hno⟩
    have hxq : x ∈ s.queue x.station := State.mem_queue.mpr ⟨hx, rfl, hp⟩
    have hall (y : Slip) (hy : y ∈ s.queue x.station) : y = x := Decidable.byContradiction fun hyx => hno y ((hmem y).mpr ⟨hy, hyx⟩)
    have hnd : (s.queue x.station).Nodup := by
      rw [(s.queue_perm x.station).nodup_iff]
      exact (hr.slips_rise.imp fun h hab => absurd (congrArg Slip.number hab) (Nat.ne_of_lt h)).filter _
    rw [List.eq_replicate_of_mem hall] at hnd hxq ⊢
    have hlen := List.nodup_replicate.mp hnd
    rcases Nat.le_one_iff_eq_zero_or_eq_one.mp hlen with h0 | h1
    · rw [h0] at hxq
      cases hxq
    · rw [h1]
      rfl
  · intro hq
    refine ⟨(State.mem_queue.mp (hq ▸ List.mem_singleton_self x : x ∈ s.queue x.station)).2.2, fun y hy => ?_⟩
    obtain ⟨h1, h2⟩ := (hmem y).mp hy
    rw [hq] at h1
    exact h2 (List.mem_singleton.mp h1)

/-! ## Finished slips -/

theorem State.slips_finishSlip (x : Slip) (s : State) : (s.finishSlip x).slips = s.slips.filter fun y => y.number != x.number := by
  rw [State.finishSlip_eq, State.dropSlip_slips, State.slips_readyMembers]

theorem State.tickets_finishSlip (x : Slip) (s : State) : (s.finishSlip x).tickets = s.tickets.map fun k =>
    if x.members.any (fun m => decide (m.ticket = k.number)) then (k.setLines x.members (.ready s.clock)).worked else k := by
  rw [State.finishSlip_eq, State.tickets_dropSlip, State.tickets_readyMembers]

theorem State.lineAt_finishSlip (x : Slip) (s : State) (n i : Nat) : (s.finishSlip x).lineAt n i = (s.lineAt n i).map fun l =>
    if x.members.any (fun m => decide (m.ticket = n ∧ m.line = i)) then { l with state := .ready s.clock } else l :=
  (State.lineAt_congr (State.tickets_dropSlip x _) n i).trans (s.lineAt_readyMembers x n i)

theorem State.finishSlip_frame (x : Slip) (s : State) : s.finishSlip x = { s with
    waves := (s.finishSlip x).waves, tickets := (s.finishSlip x).tickets, slips := (s.finishSlip x).slips, stations := (s.finishSlip x).stations
    ports := (s.finishSlip x).ports } := by
  have h1 := s.readyMembers_frame x
  have h2 := (s.readyMembers x).dropSlip_frame x
  rw [← State.finishSlip_eq] at h2
  generalize s.finishSlip x = a at h2 ⊢
  generalize s.readyMembers x = b at h1 h2
  rw [h2, h1]

theorem State.station_readyMembers (x : Slip) (s : State) (d : StationId) : (s.readyMembers x).station d = s.station d := by
  rw [State.readyMembers_frame]; rfl

theorem State.wave_readyMembers (x : Slip) (s : State) (v : WaveId) : (s.readyMembers x).wave v = s.wave v := by
  rw [State.readyMembers_frame]; rfl

theorem Kept.readyMembers (x : Slip) (s : State) : Kept s (s.readyMembers x) := (Kept.setMembers _ _ s).trans (.workOutAll _ _)

theorem State.RecordsSound.readyMembers (hr : s.RecordsSound) (x : Slip) : (s.readyMembers x).RecordsSound :=
  hr.kept (.readyMembers x s) (by rw [Stands, State.readyMembers_frame])

theorem State.Clears.finishSlip (hr : s.RecordsSound) (hx : x ∈ s.slips) (hm : x.isPending = true ∨ s.WavesSound) : s.Clears (s.finishSlip x) := by
  have hslips := s.slips_readyMembers x
  have h1 : s.Clears (s.readyMembers x) := (State.Clears.setMembers _ _ s).trans (.workOutAll _ _)
  refine h1.trans (.dropSlip ((hr.readyMembers x).only (hslips ▸ hx)) (hslips ▸ hx) (hm.imp id fun hw => ⟨fun _ => False, ?_⟩))
  exact ((State.wavesSound_iff.mp hw).quiet ((Quiet.setMembers _ _ s).trans (.workOutAll _ _)) (s.wave_readyMembers x) hslips)

theorem State.Ups.readyMembers (hr : s.RecordsSound) (x : Slip) : s.Ups (s.readyMembers x) :=
  (State.Ups.setMembers x.members (.ready s.clock) s).trans
    (.workOutAll (hr.kept (.setMembers _ _ s) (Quiet.setMembers _ _ s).stands) x.members)

theorem State.Ups.finishSlip (hr : s.RecordsSound) (x : Slip) : s.Ups (s.finishSlip x) :=
  (State.Ups.readyMembers hr x).trans (.of_same (.dropSlip x _) (fun _ hk => (State.wave_dropSlip_of_work (.inl (State.not_idle_of_ticket hk))).1)
    (State.tickets_dropSlip x _))

/-- From `s` to `t`, slip `x` has been finished and its station may have considered, all but the stations and the waves told. -/
structure State.Finishes (x : Slip) (s t : State) : Prop where
  frame : t = { s with waves := t.waves, tickets := t.tickets, slips := t.slips, stations := t.stations, ports := t.ports }
  numbers : t.slips.map Slip.number = (s.slips.map Slip.number).filter fun m => decide (m ≠ x.number)
  slips : List.Forall₂ s.Considers (s.slips.filter fun y => decide (y.number ≠ x.number)) t.slips
  others : ∀ y ∈ s.slips, y.number ≠ x.number → y.station ≠ x.station → y ∈ t.slips
  tickets : s.Linked → List.Forall₂ (fun k j : Ticket => j.number = k.number ∧ ((∀ m ∈ x.members, m.ticket ≠ k.number) → k.Considers j)) s.tickets t.tickets
  ready : (∀ y ∈ s.slips, y.number ≠ x.number → ∀ m ∈ y.members, ∀ m' ∈ x.members, ¬(m.ticket = m'.ticket ∧ m.line = m'.line)) →
    ∀ m ∈ x.members, ∀ k ∈ t.tickets, ∀ l, k.number = m.ticket → k.lines[m.line]? = some l → l.state = .ready s.clock
  ups : ∀ k ∈ s.tickets, ∀ j ∈ t.tickets, j.number = k.number → k.state ≠ .up → j.state = .up → ∀ q, s.watchersAnd k.origin q = true →
    (t.port q).Told ⟨s.clock, .up k.number k.wave k.table (s.target k) k.late⟩

theorem State.Ups.told (h : s.Ups t) (hr : t.RecordsSound) {k j : Ticket} (hk : k ∈ s.tickets) (hj : j ∈ t.tickets) (hn : j.number = k.number)
    (h1 : k.state ≠ .up) (h2 : j.state = .up) {q : PortId} (hq : s.watchersAnd k.origin q = true) :
    (t.port q).Told ⟨s.clock, .up k.number k.wave k.table (s.target k) k.late⟩ := by
  obtain ⟨i, hi, hki, htold⟩ := forall₂_mem_left h.tickets hk
  have hij : j = i := hr.ticket_unique hi hj (hn.trans (by rw [hki]))
  exact htold h1 (hij ▸ h2) q hq

/-- A slip of `b` finished, its station having considered: in the terms of `s`, from which `b` differs in what its stations have learnt. -/
theorem State.Finishes.of_considered (hr : s.RecordsSound) (hx : x ∈ s.slips) {b : State} (hb : b = { s with stations := b.stations, ports := b.ports })
    (hk : Kept s b) (hg : ∀ d, (b.station d).config = (s.station d).config ∧ (b.station d).state = (s.station d).state)
    (hc : State.Considered (fun d => d = x.station) (b.finishSlip x) t) (hlone : ∀ n i, (b.finishSlip x).Lone n i → t.lineAt n i = (b.finishSlip x).lineAt n i)
    (hups : (b.finishSlip x).Ups t) : s.Finishes x t := by
  have hslips : b.slips = s.slips := by rw [hb]
  have htick : b.tickets = s.tickets := by rw [hb]
  have hwave (v : WaveId) : b.wave v = s.wave v := by rw [hb]; rfl
  have hrb : b.RecordsSound := hr.kept hk (by rw [Stands, hb])
  have hf := b.finishSlip_frame x
  have hfx := b.slips_finishSlip x
  have hft := b.tickets_finishSlip x
  have hfl := b.lineAt_finishSlip x
  have hrf := hrb.finishSlip x
  have hhold (y : Slip) (hy : y ∈ (b.finishSlip x).slips) : ((b.finishSlip x).wave y.wave).hold = (s.wave y.wave).hold := by
    have h1 := (State.wave_dropSlip_of_work (s := b.readyMembers x) (x := x) (.inr (State.slipCount_ne_zero hy))).2
    rw [b.wave_readyMembers] at h1
    exact h1.trans (congrArg Wave.hold (hwave y.wave))
  have hstation (d : StationId) : ((b.finishSlip x).station d).config = (s.station d).config ∧ ((b.finishSlip x).station d).state = (s.station d).state := by
    rw [State.finishSlip_eq, (State.Sheds.dropSlip x (b.readyMembers x)).station, State.station_readyMembers]
    exact hg d
  have hlinked (h : s.Linked) : (b.finishSlip x).Linked :=
    ((State.Agreed.mk (ex := fun _ => True) (h.congr hslips (State.lineAt_congr htick)) fun _ _ hn => absurd trivial hn).finishSlip (hrb.only (hslips ▸ hx))
      (hslips ▸ hx)).linked
  have hupsb : b.Ups (b.finishSlip x) := State.Ups.finishSlip hrb x
  generalize b.finishSlip x = f at hc hlone hups hf hfx hft hfl hrf hhold hstation hlinked hupsb
  have hfilter : f.slips = s.slips.filter fun y => decide (y.number ≠ x.number) := by
    rw [hfx, hslips]
    exact List.filter_congr fun y _ => by simp [bne, beq_eq_decide]
  have hclock : f.clock = s.clock := by rw [hf, hb]
  have hrt := hc.recordsSound hrf
  refine ⟨?_, ?_, ?_, fun y hy hn hst => ?_, fun hl => ?_, fun hno m hm k hkt l hkn hl => ?_, fun k hks j hj hn h1 h2 q hq => ?_⟩
  · have hq := hc.quiet.frame
    have hst : t.stations = f.stations := by rw [hq]
    rw [hf, hb] at hq
    rw [hst]
    exact hq
  · rw [hc.quiet.slip_numbers, hfilter, List.filter_map]
    rfl
  · rw [← hfilter]
    exact forall₂_imp_mem hc.slips fun y hy z _ hyz => hyz.considers.congr_unit hclock (hstation _).1 (hstation _).2 (hhold y hy)
  · exact hc.others_mem (hfilter ▸ List.mem_filter.mpr ⟨hy, decide_eq_true hn⟩) hst
  · have h2 := (hc.linked (hlinked hl)).2
    rw [hft, htick] at h2
    have h1 : List.Forall₂ (fun k j : Ticket => j.number = k.number ∧ ((∀ m ∈ x.members, m.ticket ≠ k.number) → j = k)) s.tickets
        (s.tickets.map fun k => if x.members.any (fun m => decide (m.ticket = k.number)) then (k.setLines x.members (.ready b.clock)).worked else k) := by
      refine forall₂_map_mem fun k _ => ?_
      split
      · next hany =>
        refine ⟨rfl, fun hno => ?_⟩
        obtain ⟨m, hm, hd⟩ := List.any_eq_true.mp hany
        exact absurd (of_decide_eq_true hd) (hno m hm)
      · exact ⟨rfl, fun _ => rfl⟩
    refine forall₂_trans_of (fun k i j hki hij => ⟨?_, fun hno => hki.2 hno ▸ hij⟩) h1 h2
    rw [hij.kept, hki.1]
  · have hlone' : f.Lone m.ticket m.line := fun y hy j hj => by
      rw [hfilter] at hy
      obtain ⟨hy, hyn⟩ := List.mem_filter.mp hy
      exact hno y hy (of_decide_eq_true hyn) j hj m hm
    have hline := hlone m.ticket m.line hlone'
    rw [← hkn, hrt.lineAt hkt, hl, hkn, hfl] at hline
    obtain ⟨l0, -, hl0⟩ := Option.map_eq_some_iff.mp hline.symm
    rw [if_pos (List.any_eq_true.mpr ⟨m, hm, decide_eq_true ⟨rfl, rfl⟩⟩)] at hl0
    rw [← hl0, ← hk.clock]
  · have hsb : s.Ups b := .of_same hk (fun _ _ => by rw [hwave]) htick
    exact ((hsb.trans hupsb).trans hups).told hrt hks hj hn h1 h2 hq

end Sys2Proof.Machine
end

section
/-! Settling O49 and O50: BUMP and FORCE BUMP (R114 to R118). -/

namespace Sys2Proof.Machine

variable {s t u : State} {x : Slip} {c : Cmd} {p : PortId}

/-- What a finished slip leaves stands once the command is answered. -/
theorem State.Finishes.answered (h : (s.handed c p).Finishes x u) (k : Status) (d : ReplyData) : s.Finishes x (u.answer p c k d) where
  frame := by
    have hf := h.frame
    generalize u = a at hf ⊢
    rw [hf]
    rfl
  numbers := h.numbers
  slips := h.slips.imp fun _ _ hc => hc.congr rfl (State.handed_station _ _ _ _) rfl
  others := h.others
  tickets hl := h.tickets (hl.handed c p)
  ready := h.ready
  ups i hi j hj hn h1 h2 q hq := State.told_answer (h.ups i hi j hj hn h1 h2 q (by rw [State.handed_watchersAnd]; exact hq)) _ _ _ _

/-- A station's missed takes or lag set anew is nothing to the waves. -/
theorem State.Clears.of_stations (hk : Kept s t) (h : t = { s with stations := t.stations }) : s.Clears t :=
  .of_view hk (by rw [h]) (by rw [h]) (fun v => by rw [h]; rfl) fun q => by rw [h]; rfl

theorem lagAfter_cast (lag : Nat) (z : Int) : (lagAfter lag z : Int) = max 0 (min 600 ((lag : Int) + (z - lag).tdiv 4)) := by
  rw [lagAfter, clampInt, Int.toNat_of_nonneg (le_max_left _ _)]

theorem State.cookTime_of_mem (hm : s.MenuSound) {e : MenuEntry} (he : e ∈ s.menu) {c : ItemCode} (hc : e.item = c) : s.cookTime c = e.cook := by
  rw [State.cookTime, State.entry?_of_mem hm he hc]

/-! ## BUMP -/

/-- The missed takes of the station of slip `x` cleared and its lag taught by a sample of the slip, called at `time` (R115 to R117). -/
def State.taught (x : Slip) (time : Nat) (s : State) : State := (s.clearMissed x.station).learn x.station (s.sampleOf x time)

theorem State.bumpSlip_eq (x : Slip) (time : Nat) (s : State) : s.bumpSlip x time = ((s.taught x time).finishSlip x).consider x.station := rfl

theorem Kept.taught (x : Slip) (time : Nat) (s : State) : Kept s (s.taught x time) :=
  have h1 : Kept s (s.clearMissed x.station) := .modStation rfl
  have h2 : Kept (s.clearMissed x.station) (s.taught x time) :=
    .modStation (f := fun u => { u with lag := lagAfter u.lag (s.sampleOf x time) }) rfl
  h1.trans h2

theorem State.station_taught_self (x : Slip) (time : Nat) (s : State) : (s.taught x time).station x.station =
    { s.station x.station with missed := 0, lag := lagAfter (s.station x.station).lag (s.sampleOf x time) } := by
  rw [State.taught, State.learn, State.station_modStation_self, State.clearMissed, State.station_modStation_self]

theorem State.station_taught_ne {d : StationId} (h : d ≠ x.station) (time : Nat) (s : State) : (s.taught x time).station d = s.station d := by
  rw [State.taught, State.learn, State.station_modStation_ne h, State.clearMissed, State.station_modStation_ne h]

/-- A slip that is not PENDING, bumped: the board, the tickets and the notices. -/
theorem State.bumpSlip_finishes (hr : s.RecordsSound) (hx : x ∈ s.slips) (time : Nat) : s.Finishes x (s.bumpSlip x time) := by
  have hg (d : StationId) : ((s.taught x time).station d).config = (s.station d).config ∧ ((s.taught x time).station d).state = (s.station d).state := by
    by_cases hd : d = x.station
    · subst hd; rw [State.station_taught_self]; exact ⟨rfl, rfl⟩
    · rw [State.station_taught_ne hd]; exact ⟨rfl, rfl⟩
  have hk := Kept.taught x time s
  have hrf : ((s.taught x time).finishSlip x).RecordsSound := (hr.kept hk rfl).finishSlip x
  rw [State.bumpSlip_eq]
  exact .of_considered hr hx rfl hk hg (State.consider_considered hrf x.station) (fun n i hl => hl.consider hrf x.station) (.consider hrf x.station)

theorem State.bumpSlip_clears (hr : s.RecordsSound) (hx : x ∈ s.slips) (hw : s.WavesSound) (time : Nat) : s.Clears (s.bumpSlip x time) := by
  have hk := Kept.taught x time s
  have hrb : (s.taught x time).RecordsSound := hr.kept hk rfl
  have h1 : s.Clears (s.taught x time) := .of_stations hk rfl
  have hwb : (s.taught x time).WavesSound := State.wavesSound_iff.mpr ((State.wavesSound_iff.mp hw).congr (fun _ => rfl) rfl rfl rfl)
  exact (h1.trans (.finishSlip hrb hx (.inr hwb))).trans (.consider (hrb.finishSlip x) x.station)

theorem State.station_bumpSlip_self (hp : x.isPending = false) (time : Nat) (s : State) : (s.bumpSlip x time).station x.station =
    { s.station x.station with missed := 0, lag := lagAfter (s.station x.station).lag (s.sampleOf x time) } := by
  rw [State.bumpSlip_eq, (Quiet.consider x.station _).station, State.finishSlip_eq, State.station_dropSlip_self, State.station_readyMembers,
    State.station_taught_self, hp]
  simp

theorem State.station_bumpSlip_ne {d : StationId} (h : d ≠ x.station) (time : Nat) (s : State) : (s.bumpSlip x time).station d = s.station d := by
  rw [State.bumpSlip_eq, (Quiet.consider x.station _).station, State.finishSlip_eq, State.station_dropSlip_ne h, State.station_readyMembers,
    State.station_taught_ne h]

/-- A bump that is accepted (R115). -/
theorem ownBump_of {n time : Nat} (hx : s.slip? n = some x) (hb : s.isBound x.station p = true)
    (hs : x.state = .taken time ∨ ∃ timer, x.state = .called time timer) : ownBump p n s = (s.bumpSlip x time).answer p .bump .ok
      (.bumped n x.station s.clock (lagAfter (s.station x.station).lag (s.sampleOf x time)) (s.sampleOf x time) x.members.length) := by
  have hb' : ¬(!s.isBound x.station p) = true := by simp [hb]
  simp only [ownBump, hx, if_neg hb']
  rcases hs with h | ⟨_, h⟩ <;> rw [h]

/-- Settles O49: the station taught, the slip finished, the station considering, one after the other. -/
theorem bumpFreesAndTeaches : Obligations.BumpFreesAndTeaches := by
  intro w s n n1 n0 ht hn hp
  have hex : exec (.bump w) s = .next (ownBump w.port n (s.handed .bump w.port)) :=
    congrArg Host.Outcome.next (State.frame_of_takes (owner := ownBump) ht (by rw [hp]; exact parseNumber_of hn))
  have hslip : (s.handed .bump w.port).slip? n = s.slip? n := rfl
  have hrole : (s.port w.port).role = .station := by simpa [permits] using ht.permitted
  have hbound (st : StationId) : (s.handed .bump w.port).isBound st w.port = true ↔ (s.station st).config.port = some w.port := by
    rw [State.handed_isBound, State.isBound_iff]
    exact and_iff_left hrole
  rw [hex]
  refine ⟨fun hno => ?_, fun hr x hx hxn => ⟨fun hport => ?_, fun hport => ⟨fun hpend => ?_, fun time hxs e he hms hei => ?_⟩⟩⟩
  · rw [ownBump, hslip, State.slip?_eq_none.mpr hno]
    exact congrArg _ (State.answer_handed ht.still _ _)
  all_goals
    subst hxn
    have hsl := hslip.trans (hr.slip? hx)
  · rw [ownBump, hsl]
    dsimp only
    rw [if_pos (by simpa [← hbound] using hport)]
    exact congrArg _ (State.answer_handed ht.still _ _)
  · rw [ownBump, hsl]
    dsimp only
    rw [if_neg (by simpa [← hbound] using hport), Slip.isPending_iff.mp hpend]
    exact congrArg _ (State.answer_handed ht.still _ _)
  · rw [ownBump_of hsl ((hbound _).mpr hport) hxs]
    set h := s.handed .bump w.port with hh
    have hrh : h.RecordsSound := hr.handed .bump w.port
    have hfin := State.bumpSlip_finishes (s := h) hrh hx time
    have hnp : x.isPending = false := by rcases hxs with h | ⟨_, h⟩ <;> simp [Slip.isPending, h]
    have hself := State.station_bumpSlip_self hnp time h
    have hne (d : StationId) (hd : d ≠ x.station) := State.station_bumpSlip_ne hd time h
    have hz : h.sampleOf x time = max (-120) (min 600 ((s.clock : Int) - (time + e.cook + (s.station x.station).config.plate))) := by
      rw [State.sampleOf, show h.cookTime x.item = s.cookTime x.item from rfl, State.cookTime_of_mem hms he hei]
      rfl
    have hset : (h.bumpSlip x time).Settled x.station := State.consider_settled _ _
    have hcl (hw : s.WavesSound) : h.Clears (h.bumpSlip x time) :=
      State.bumpSlip_clears hrh hx (State.wavesSound_iff.mpr ((State.wavesSound_iff.mp hw).congr (fun _ => rfl) rfl rfl rfl)) time
    generalize h.sampleOf x time = z at hself hz ⊢
    generalize h.bumpSlip x time = u at hfin hself hne hset hcl ⊢
    have hf := hfin.answered .ok (.bumped x.number x.station s.clock (lagAfter (s.station x.station).lag z) z x.members.length)
    exact ⟨_, z, lagAfter (s.station x.station).lag z, rfl, hf.frame, hz, lagAfter_cast _ _, hself, hne, hf.numbers, hf.slips, hf.others,
      fun _ => hset.answer _ _ _ _, fun hw => .answered ht.free (hcl hw) _ _, fun hm => hf.tickets (hm.linked hr), hf.ready, hf.ups,
      State.answer_slot _ _ _ _ _⟩

/-! ## FORCE BUMP -/

/-- The missed takes of a slip's station cleared, WITHDRAWN (FORCED) posted where the station had been told of the slip (R118). -/
def State.forcedOff (x : Slip) (s : State) : State :=
  if x.previewed || !x.isPending then (s.clearMissed x.station).postWithdrawn x .forced else s.clearMissed x.station

theorem State.forceSlip_eq (x : Slip) (s : State) : s.forceSlip x =
    if x.isPending then (s.forcedOff x).finishSlip x else ((s.forcedOff x).finishSlip x).consider x.station := rfl

theorem Kept.forcedOff (x : Slip) (s : State) : Kept s (s.forcedOff x) := by
  have hk : Kept s (s.clearMissed x.station) := .modStation rfl
  unfold State.forcedOff
  split
  · exact hk.trans (.post _ _ _)
  · exact hk

theorem State.forcedOff_frame (x : Slip) (s : State) : s.forcedOff x = { s with stations := (s.forcedOff x).stations, ports := (s.forcedOff x).ports } := by
  unfold State.forcedOff
  split <;> rfl

theorem State.station_forcedOff (x : Slip) (s : State) (d : StationId) : (s.forcedOff x).station d = (s.clearMissed x.station).station d := by
  unfold State.forcedOff
  split
  · exact State.station_post _ _ _ d
  · rfl

theorem State.forcedOff_told (h : x.previewed = true ∨ x.state ≠ .pending) {q : PortId} (hq : s.isBound x.station q = true) :
    ((s.forcedOff x).port q).Told ⟨s.clock, .withdrawn x.number x.station x.item .forced none⟩ := by
  have hc : (x.previewed || !x.isPending) = true := by
    rcases h with h | h
    · simp [h]
    · simp [Bool.eq_false_iff.mpr fun hp => h (Slip.isPending_iff.mp hp)]
  rw [State.forcedOff, if_pos hc]
  have hk : Kept s (s.clearMissed x.station) := .modStation rfl
  exact hk.told_post ((hk.isBound x.station q).trans hq) _

theorem State.Clears.forcedOff (x : Slip) (s : State) : s.Clears (s.forcedOff x) := by
  have h : s.Clears (s.clearMissed x.station) := .of_stations (.modStation rfl) rfl
  unfold State.forcedOff
  split
  · exact h.trans (.post _ _ _)
  · exact h

/-- A slip forced off: the board, the tickets and the notices. -/
theorem State.forceSlip_finishes (hr : s.RecordsSound) (hx : x ∈ s.slips) : s.Finishes x (s.forceSlip x) := by
  have hg (d : StationId) : ((s.forcedOff x).station d).config = (s.station d).config ∧ ((s.forcedOff x).station d).state = (s.station d).state := by
    rw [State.station_forcedOff, State.clearMissed, State.station_modStation]
    split
    · next hd => rw [hd]; exact ⟨rfl, rfl⟩
    · exact ⟨rfl, rfl⟩
  have hf := s.forcedOff_frame x
  have hk := Kept.forcedOff x s
  have hrf : ((s.forcedOff x).finishSlip x).RecordsSound := (hr.kept hk (by rw [Stands, hf])).finishSlip x
  rw [State.forceSlip_eq]
  split
  · exact .of_considered hr hx hf hk hg (.refl _ _) (fun _ _ _ => rfl) (.refl _)
  · exact .of_considered hr hx hf hk hg (State.consider_considered hrf x.station) (fun n i hl => hl.consider hrf x.station) (.consider hrf x.station)

theorem State.forceSlip_clears (hr : s.RecordsSound) (hx : x ∈ s.slips) (hw : s.WavesSound) : s.Clears (s.forceSlip x) := by
  have hk := Kept.forcedOff x s
  have hf := s.forcedOff_frame x
  have hrb : (s.forcedOff x).RecordsSound := hr.kept hk (by rw [Stands, hf])
  have hslips : (s.forcedOff x).slips = s.slips := by rw [hf]
  have hwb : (s.forcedOff x).WavesSound := State.wavesSound_iff.mpr
    ((State.wavesSound_iff.mp hw).congr (fun _ => by rw [hf]; rfl) (by rw [hf]) (by rw [hf]) hslips)
  have h1 := (State.Clears.forcedOff x s).trans (.finishSlip hrb (hslips ▸ hx) (.inr hwb))
  rw [State.forceSlip_eq]
  split
  · exact h1
  · exact h1.trans (.consider (hrb.finishSlip x) x.station)

theorem State.forceSlip_station (x : Slip) (s : State) (d : StationId) :
    (s.forceSlip x).station d = ((s.forcedOff x).finishSlip x).station d := by
  rw [State.forceSlip_eq]
  split
  · rfl
  · exact (Quiet.consider x.station _).station d

theorem State.station_forceSlip_ne {d : StationId} (h : d ≠ x.station) (s : State) : (s.forceSlip x).station d = s.station d := by
  rw [State.forceSlip_station, State.finishSlip_eq, State.station_dropSlip_ne h, State.station_readyMembers, State.station_forcedOff, State.clearMissed,
    State.station_modStation_ne h]

/-- The evacuation of the slip's station ends where the slip was the last of the queue (R128). -/
theorem State.station_forceSlip_self (hr : s.RecordsSound) (hx : x ∈ s.slips) : ∃ ends : Bool,
    (ends = true ↔ s.queue x.station = [x]) ∧
      (s.forceSlip x).station x.station = { s.station x.station with missed := 0, evacuating := (s.station x.station).evacuating && !ends } := by
  have hf := s.forcedOff_frame x
  have hslips : ((s.forcedOff x).readyMembers x).slips = s.slips := by rw [State.slips_readyMembers, hf]
  have hrb : ((s.forcedOff x).readyMembers x).RecordsSound := (hr.kept (Kept.forcedOff x s) (by rw [Stands, hf])).readyMembers x
  refine ⟨x.isPending && ((((s.forcedOff x).readyMembers x).dropSlip x).queue x.station).isEmpty, ?_, ?_⟩
  rotate_left
  · rw [State.forceSlip_station, State.finishSlip_eq, State.station_dropSlip_self, State.station_readyMembers, State.station_forcedOff, State.clearMissed,
      State.station_modStation_self]
  · rw [hrb.queue_dropSlip (hslips ▸ hx), State.queue, State.queue, hslips]

/-- An evacuation that the slip's leaving ends is told (R128). -/
theorem State.forceSlip_evacuated (x : Slip) {s : State} (h1 : (s.station x.station).evacuating = true)
    (h2 : ((s.forceSlip x).station x.station).evacuating = false) {q : PortId} (hq : s.watchersOf x.station q = true) :
    ((s.forceSlip x).port q).Told ⟨s.clock, .stationState x.station .down .evacuated (s.station x.station).config.backup 0⟩ := by
  have hk : Kept s ((s.forcedOff x).readyMembers x) := (Kept.forcedOff x s).trans (.readyMembers x _)
  have hst : ((s.forcedOff x).readyMembers x).station x.station = { s.station x.station with missed := 0 } := by
    rw [State.station_readyMembers, State.station_forcedOff, State.clearMissed, State.station_modStation_self]
  have h := (State.Sheds.dropSlip x ((s.forcedOff x).readyMembers x)).ended x.station (by rw [hst]; exact h1)
    (by rw [← State.finishSlip_eq, ← State.forceSlip_station]; exact h2)
  have := h.2 q ((hk.watchersOf x.station q).trans hq)
  rw [hk.clock, hst] at this
  rw [State.forceSlip_eq]
  split
  · exact this
  · exact (Kept.consider x.station _).told this

/-- Settles O50: the slip withdrawn and finished, whatever its state; the end of an evacuation, or the consideration, that this calls for. -/
theorem forceBumpFrees : Obligations.ForceBumpFrees := by
  intro w s n n1 n0 ht hn hp
  have hex : exec (.forceBump w) s = .next (ownForceBump w.port n (s.handed .forceBump w.port)) :=
    congrArg Host.Outcome.next (State.frame_of_takes (owner := ownForceBump) ht (by rw [hp]; exact parseNumber_of hn))
  have hslip : (s.handed .forceBump w.port).slip? n = s.slip? n := rfl
  rw [hex]
  refine ⟨fun hno => ?_, fun hr x hx hxn => ?_⟩
  · rw [ownForceBump, hslip, State.slip?_eq_none.mpr hno]
    exact congrArg _ (State.answer_handed ht.still _ _)
  · subst hxn
    rw [ownForceBump, hslip, hr.slip? hx]
    dsimp only
    set h := s.handed .forceBump w.port with hh
    have hrh : h.RecordsSound := hr.handed .forceBump w.port
    have hfin := State.forceSlip_finishes (s := h) hrh hx
    obtain ⟨ends, hends, hself⟩ := State.station_forceSlip_self (s := h) hrh hx
    have hne (d : StationId) (hd : d ≠ x.station) := State.station_forceSlip_ne hd h
    have hcl (hw : s.WavesSound) : h.Clears (h.forceSlip x) :=
      State.forceSlip_clears hrh hx (State.wavesSound_iff.mpr ((State.wavesSound_iff.mp hw).congr (fun _ => rfl) rfl rfl rfl))
    have hset (hnp : x.state ≠ .pending) : (h.forceSlip x).Settled x.station := by
      rw [State.forceSlip_eq, if_neg fun hp => hnp (Slip.isPending_iff.mp hp)]
      exact State.consider_settled _ _
    have hpend (hp : x.state = .pending) : (h.forceSlip x).slips = s.slips.filter fun y => y.number != x.number := by
      rw [State.forceSlip_eq, if_pos (Slip.isPending_iff.mpr hp), State.slips_finishSlip, State.forcedOff_frame]
      rfl
    have hwith (hf : x.previewed = true ∨ x.state ≠ .pending) (q : PortId) (hq : s.isBound x.station q = true) :
        ((h.forceSlip x).port q).Told ⟨s.clock, .withdrawn x.number x.station x.item .forced none⟩ := by
      have h1 := State.forcedOff_told (s := h) hf (by rw [hh, State.handed_isBound]; exact hq)
      have h2 := (Kept.finishSlip x _).told h1
      rw [State.forceSlip_eq]
      split
      · exact h2
      · exact (Kept.consider x.station _).told h2
    have hevac := State.forceSlip_evacuated x (s := h)
    generalize h.forceSlip x = u at hfin hself hne hcl hset hpend hwith hevac ⊢
    have hf := hfin.answered .ok (.forced x.number x.station x.state x.members.length)
    refine ⟨_, rfl, hf.frame, ⟨(s.station x.station).evacuating && ends, ?_, ?_, fun he q hq => ?_⟩, hne, fun hw => .answered ht.free (hcl hw) _ _,
      fun hm => hf.tickets (hm.linked hr), hf.slips, fun hnp _ => (hset hnp).answer _ _ _ _, fun y hy hyn hor => ?_, hf.numbers, hf.ready,
      fun hor q hq => State.told_answer (hwith hor q hq) _ _ _ _, hf.ups, State.answer_slot _ _ _ _ _⟩
    · rw [Bool.and_eq_true, hends]
      rfl
    · refine (State.station_answer _ _ _ _ _ _).trans (hself.trans ?_)
      show ({ s.station x.station with missed := 0, evacuating := (s.station x.station).evacuating && !ends } : StationUnit) = _
      cases (s.station x.station).evacuating <;> simp
    · obtain ⟨h1, h2⟩ := (Bool.and_eq_true _ _).mp he
      refine State.told_answer (hevac h1 ?_ (by rw [hh, State.handed_watchersOf]; exact hq)) _ _ _ _
      rw [hself, h2]
      exact Bool.and_false _
    · rcases hor with hst | hpe
      · exact hf.others y hy hyn hst
      · show y ∈ u.slips
        rw [hpend hpe]
        exact List.mem_filter.mpr ⟨hy, by simpa using hyn⟩

end Sys2Proof.Machine
end

section
/-! SUPPORT; settling O46: what the going DOWN of a station leaves and tells (R122 to R129). -/

namespace Sys2Proof.Machine

variable {s t a : State} {st : StationId}

/-! ## The notices -/

/-- Every evacuation into a station that went DOWN is lost, and told (R129). -/
theorem State.loseBackups_told {d : StationId} (he : (s.station d).evacuating = true) (hb : (s.station d).config.backup = some st) {q : PortId}
    (hq : s.watchersOf d q = true) {l : List StationId} (hd : d ∈ l) :
    ((l.foldl (State.loseBackup st) s).port q).Told ⟨s.clock, .stationState d .down .backupLost (some st) (s.queue d).length⟩ := by
  induction l generalizing s with
  | nil => cases hd
  | cons e l ih =>
    rw [List.foldl_cons]
    have hk : Kept s (s.loseBackup st e) := .loseBackup st s e
    by_cases hde : d = e
    · subst hde
      have h1 : ((s.loseBackup st d).port q).Told ⟨s.clock, .stationState d .down .backupLost (some st) (s.queue d).length⟩ := by
        rw [State.loseBackup, if_pos (by simp [he, hb]), ← hb]
        exact State.endEvacuation_told hq _ _
      exact (Kept.foldl (Kept.loseBackup st) l _).told h1
    · have hst : (s.loseBackup st e).station d = s.station d := by rw [State.station_loseBackup, if_neg hde]
      have hqueue : (s.loseBackup st e).queue d = s.queue d := State.queue_congr (State.loseBackups_spec st d [e] s).1 d
      have := ih (by rw [hst]; exact he) (by rw [hst]; exact hb) ((hk.watchersOf d q).trans hq) ((List.mem_cons.mp hd).resolve_left hde)
      rwa [hk.clock, hqueue] at this

theorem State.returnSlips_told {x : Slip} {q : PortId} (hq : s.isBound x.station q = true) (r : WithdrawReason) {l : List Slip} (hx : x ∈ l) :
    ((l.foldl (fun s x => s.returnSlip x r) s).port q).Told ⟨s.clock, .withdrawn x.number x.station x.item r none⟩ := by
  induction l generalizing s with
  | nil => cases hx
  | cons y l ih =>
    have hk : Kept s (s.returnSlip y r) := .returnSlip y r s
    rw [List.foldl_cons]
    rcases List.mem_cons.mp hx with rfl | hx
    · exact (Kept.returnSlips l r _).told (State.returnSlip_told hq r)
    · have := ih ((hk.isBound _ _).trans hq) hx
      rwa [hk.clock] at this

/-- Each CALLED slip of a station that goes DOWN is withdrawn (R123). -/
theorem State.goDown_withdrawn {x : Slip} (hx : x ∈ s.slips) (hst : x.station = st) (hc : x.isCalled = true) (cause : StationCause) {q : PortId}
    (hq : s.isBound st q = true) : ((s.goDown st cause).port q).Told ⟨s.clock, .withdrawn x.number st x.item .down none⟩ := by
  subst hst
  have hk : Kept s (s.modStation x.station fun u => { u with state := .down }) := .modStation rfl
  have h1 := State.returnSlips_told (s := s.modStation x.station fun u => { u with state := .down }) ((hk.isBound _ _).trans hq) .down
    (State.mem_calledAt.mpr ⟨hx, rfl, hc⟩)
  rw [← State.downed_eq] at h1
  rw [State.goDown_port, State.announceDown]
  exact (Kept.loseBackups _ _).told ((Kept.post _ _ _).told h1)

theorem State.goDown_lost {d : StationId} (hd : d ≠ st) (he : (s.station d).evacuating = true) (hb : (s.station d).config.backup = some st)
    (cause : StationCause) {q : PortId} (hq : s.watchersOf d q = true) :
    ((s.goDown st cause).port q).Told ⟨s.clock, .stationState d .down .backupLost (some st) ((s.downed st).queue d).length⟩ := by
  have hk := Kept.downed st s
  have hst : (s.downed st).station d = s.station d := by rw [State.station_downed, if_neg hd]
  rw [State.goDown_port, State.announceDown, ← hk.clock]
  have hkp : Kept (s.downed st) ((s.downed st).post ((s.downed st).watchersOf st) (.stationState st .down cause ((s.downed st).newBackup st)
    (if ((s.downed st).newBackup st).isSome then ((s.downed st).queue st).length else 0))) := .post _ _ _
  exact State.loseBackups_told (s := (s.downed st).post ((s.downed st).watchersOf st) _) (by rw [State.station_post, hst]; exact he)
    (by rw [State.station_post, hst]; exact hb) ((hkp.watchersOf d q).trans ((hk.watchersOf d q).trans hq)) (List.mem_finRange d)

/-! ## The board and the stations -/

/-- From `s` to `t` the waves, the service and the tables stand. -/
def AtBoard (s t : State) : Prop := t = { s with tickets := t.tickets, slips := t.slips, stations := t.stations, ports := t.ports }

theorem AtBoard.refl (s : State) : AtBoard s s := rfl

theorem AtBoard.trans {s t u : State} (h : AtBoard s t) (k : AtBoard t u) : AtBoard s u := by
  unfold AtBoard at *
  generalize u = v at k ⊢
  rw [h] at k
  exact k

theorem AtBoard.foldl {α : Type} {f : State → α → State} (hf : ∀ s a, AtBoard s (f s a)) (l : List α) (s : State) : AtBoard s (l.foldl f s) := by
  induction l generalizing s with
  | nil => exact .refl s
  | cons a l ih => exact (hf s a).trans (ih _)

theorem AtBoard.restate (x : Slip) (k : SlipState) (s : State) : AtBoard s (s.restate x k) := by
  have h := State.restate_frame x k s
  unfold AtBoard
  generalize s.restate x k = b at h ⊢
  rw [h]

theorem AtBoard.returnSlip (x : Slip) (r : WithdrawReason) (s : State) : AtBoard s (s.returnSlip x r) := by
  rw [State.returnSlip_eq]
  exact (AtBoard.restate x .pending s).trans rfl

theorem AtStations.board (h : AtStations s t) : AtBoard s t := by
  unfold AtBoard
  generalize t = b at h ⊢
  rw [h]

theorem AtBoard.goDown (st : StationId) (cause : StationCause) (s : State) : AtBoard s (s.goDown st cause) := by
  refine AtBoard.trans ?_ (s.goDown_atStations st cause).board
  rw [State.downed_eq]
  have h0 : AtBoard s (s.modStation st fun u => { u with state := .down }) := rfl
  exact h0.trans (.foldl (fun s x => .returnSlip x .down s) _ _)

/-- The busy set of a station that went DOWN: its TAKEN slips (R123). -/
theorem State.busySet_returned (h : t.slips = s.slips.map (Slip.returned st)) : t.busySet st = (s.busySet st).filter Slip.isTaken := by
  rw [State.busySet, State.busySet, h]
  generalize s.slips = l
  induction l with
  | nil => rfl
  | cons x l ih =>
    rw [List.map_cons, List.filter_cons, List.filter_cons, ih]
    by_cases hst : x.station = st
    · rcases x.state_cases with ⟨hp, hc, -⟩ | ⟨hp, hc, htk⟩ | ⟨hp, hc, htk⟩
      · rw [Slip.returned_of_not_called hc]
        simp [hp]
      · rw [Slip.returned_of_called hst hc]
        simp only [hst, hp, htk, beq_self_eq_true, Bool.not_false, Bool.and_self, if_true, List.filter_cons, Bool.false_eq_true, if_false]
        rfl
      · rw [Slip.returned_of_not_called hc]
        simp [hst, hp, htk]
    · rw [Slip.returned_of_ne hst]
      simp [hst]

/-- The queues of the other stations stand. -/
theorem State.queue_returned_ne (h : t.slips = s.slips.map (Slip.returned st)) {d : StationId} (hd : d ≠ st) : t.queue d = s.queue d := by
  have hf : (s.slips.map (Slip.returned st)).filter (fun x => x.station == d && x.isPending) = s.slips.filter fun x => x.station == d && x.isPending := by
    generalize s.slips = l
    induction l with
    | nil => rfl
    | cons x l ih =>
      rw [List.map_cons, List.filter_cons, List.filter_cons, ih]
      by_cases hst : x.station = st
      · have hne : ¬st = d := fun h => hd h.symm
        simp [hst, hne]
      · rw [Slip.returned_of_ne hst]
  rw [State.queue, State.queue, h, hf]

theorem Slip.returned_of_not_taken {x : Slip} (hst : x.station = st) (ht : x.isTaken = false) : x.returned st = { x with state := .pending } := by
  rcases x.state_cases with ⟨hp, hc, -⟩ | ⟨-, hc, -⟩ | ⟨-, -, htk⟩
  · rw [Slip.returned_of_not_called hc, ← Slip.isPending_iff.mp hp]
  · exact Slip.returned_of_called hst hc
  · rw [ht] at htk
    cases htk

/-- A station that goes DOWN at state `a`, to which missed takes alone have led from `s`. -/
theorem State.goneDown (hso : s.StationsSound) (hra : a.RecordsSound) (hk : Kept s a)
    (hslips : a.slips.map (Slip.returned st) = s.slips.map (Slip.returned st)) (hne : ∀ d, d ≠ st → a.station d = s.station d)
    (hlag : (a.station st).lag = (s.station st).lag) (hev : (a.station st).evacuating = false) (hl : s.MembersSound → a.Linked)
    (cause : StationCause) : s.GoneDown cause st (a.goDown st cause) := by
  have hts : (a.goDown st cause).slips = s.slips.map (Slip.returned st) := (hra.slips_goDown st cause).trans hslips
  have hds : (a.downed st).slips = s.slips.map (Slip.returned st) := (hra.slips_downed st).trans hslips
  have hself := State.goDown_station_self hev cause
  have hmem {x : Slip} (hx : x ∈ s.slips) : x.returned st ∈ (a.goDown st cause).slips := hts ▸ List.mem_map_of_mem hx
  have hrt : (a.goDown st cause).RecordsSound := hra.kept (.goDown st cause a) (Stands.goDown a st cause)
  refine ⟨?_, State.busySet_returned hts, fun x hx hst ht => ?_, fun x hx hst => ?_, fun hm x hx hst hc m hm' k hk' l hn hli => ?_, ?_, fun q hq => ?_,
    fun d hd => ?_, fun d hd he hb q hq => ?_⟩
  · rw [hself]
    exact ⟨rfl, hk.configs st, hlag⟩
  · exact Slip.returned_of_not_taken hst ht ▸ hmem hx
  · exact Slip.returned_of_ne hst ▸ hmem hx
  · have hlt : (a.goDown st cause).Linked :=
      ((State.Agreed.mk (ex := fun _ => True) (hl hm) fun _ _ hn => absurd trivial hn).goDown hra st cause).linked
    obtain ⟨l', hl', hs, -⟩ := hlt.entries _ (hmem hx) m (by rw [Slip.returned_members]; exact hm')
    rw [← hn, hrt.lineAt hk', hli] at hl'
    cases hl'
    rw [hs, Slip.returned_of_called hst hc]
    rfl
  · rw [State.goDown_evacuating hev, State.newBackup_downed, State.goDown_queue, hk.configs st]
    refine and_congr_right fun _ => exists_congr fun b => and_congr_right fun hb => ?_
    have hbs : b ≠ st := fun h => (hso.inRange st).backup (h ▸ hb)
    rw [State.isRunning, hne b hbs, ← State.isRunning]
    exact and_iff_left hbs
  · have := State.goDown_told ((hk.watchersOf st q).trans hq) hev cause
    rwa [hk.clock, hk.configs st] at this
  · rw [State.goDown_station_ne hd, hne d hd]
  · have := State.goDown_lost hd ((congrArg StationUnit.evacuating (hne d hd)).trans he) ((congrArg (fun u => u.config.backup) (hne d hd)).trans hb) cause
      ((hk.watchersOf d q).trans hq)
    rwa [State.queue_returned_ne hds hd, hk.clock] at this

/-! ## STATION DOWN: O46 -/

/-- Settles O46: the two cases without effect, and a running station taken DOWN. -/
theorem stationDownReturnsCalls : Obligations.StationDownReturnsCalls := by
  intro w s st ht hp
  have hex : exec (.stationDown w) s = .next (ownStationDown w.port st (s.handed .stationDown w.port)) :=
    congrArg Host.Outcome.next (State.frame_of_station (owner := ownStationDown) ht hp)
  have hrole : (s.port w.port).role ≠ .station := by
    have : (s.port w.port).role = .pass := by simpa [permits] using ht.permitted
    rw [this]
    decide
  have refused (k : Status) (hc : s.checkStation w.port st = some k) : exec (.stationDown w) s = .next (s.answered w.port ⟨0x44, k, .empty⟩) := by
    rw [hex, ownStationDown, State.handed_checkStation, hc]
    exact congrArg _ (State.answer_handed ht.still _ _)
  refine ⟨fun hs => refused _ (State.checkStation_of_closed hs _ _), fun hs hu => refused _ (State.checkStation_of_unused hs hu _), fun hs hd => ?_,
    fun hs hrun hr hso => ?_⟩
  · have hc := State.checkStation_of_own hs (by rw [hd]; decide) (.inl hrole)
    rw [hex, ownStationDown, State.handed_checkStation, hc]
    dsimp only
    rw [State.handed_station, if_pos hd]
    exact congrArg _ (State.answer_handed ht.still _ _)
  · have hnd : (s.station st).state ≠ .down := by rcases hrun with h | h <;> rw [h] <;> decide
    have hc := State.checkStation_of_own (p := w.port) hs (by rcases hrun with h | h <;> rw [h] <;> decide) (.inl hrole)
    rw [hex, ownStationDown, State.handed_checkStation, hc]
    dsimp only
    set h := s.handed .stationDown w.port with hh
    rw [if_neg (show ¬(h.station st).state = .down from hnd)]
    have hev : (h.station st).evacuating = false := Bool.eq_false_iff.mpr fun he => hnd (hso.evacuating st he).1
    have hrh : h.RecordsSound := hr.handed .stationDown w.port
    have hgd := State.goneDown (s := h) (a := h) (st := st) ⟨hso.inRange, hso.lag_le, hso.busy_le, hso.called_running, hso.missed_le, hso.missed_running,
      hso.evacuating⟩ hrh (.refl h) rfl (fun _ _ => rfl) rfl hev (fun hm => hm.linked hrh) .ordered
    have hself := State.goDown_station_self hev .ordered
    have hwith (x : Slip) (hx : x ∈ s.slips) (hst : x.station = st) (hc : x.isCalled = true) (q : PortId) (hq : s.isBound st q = true) :=
      State.goDown_withdrawn (s := h) hx hst hc .ordered (q := q) (by rw [hh, State.handed_isBound]; exact hq)
    have hboard := AtBoard.goDown st .ordered h
    generalize h.goDown st .ordered = u at hgd hself hwith hboard
    have hstation : (u.station st).config = (s.station st).config := hgd.down.2.1
    have hrecv : u.receiving st = if (u.station st).evacuating then (s.station st).config.backup else none := by
      rw [State.receiving, hstation]
    have hleft : u.leftToMove st = if (u.station st).evacuating then (u.queue st).length else 0 := rfl
    have hrunning (b : StationId) : h.isRunning b = true ↔ (s.station b).state = .opened ∨ (s.station b).state = .paused := by
      simp [State.isRunning, hh]
    rw [hrecv, hleft]
    have hwatch (d : StationId) (q : PortId) (hq : s.watchersOf d q = true) : h.watchersOf d q = true := by rw [hh, State.handed_watchersOf]; exact hq
    refine ⟨_, rfl, ?_, hgd.down.1, hgd.down.2.2, ?_, hgd.taken, hgd.queued, hgd.others, hgd.evacuating.trans ?_, fun d hd => ⟨?_, fun hb => ?_⟩,
      fun x hx hst hc q hq => State.told_answer (hwith x hx hst hc q hq) _ _ _ _, fun q hq => State.told_answer (hgd.told q (hwatch st q hq)) _ _ _ _,
      fun d hd he hb q hq => State.told_answer (hgd.lost d hd he hb q (hwatch d q hq)) _ _ _ _, State.answer_slot _ _ _ _ _⟩
    · have hf : AtBoard h (u.answer w.port .stationDown .ok (.stationDown .down
        (if (u.station st).evacuating then (s.station st).config.backup else none) (if (u.station st).evacuating then (u.queue st).length else 0))) :=
        hboard.trans rfl
      exact hf
    · rw [State.station_answer, hself]
      rfl
    · exact and_congr_right fun _ => exists_congr fun b => and_congr_right fun _ => hrunning b
    · rw [State.station_answer, hgd.stations d hd]
      rfl
    · rw [State.station_answer, hgd.stations d hd, show (h.station d).config.backup = some st from hb]
      simp

end Sys2Proof.Machine
end

section
/-! Settling O53: a take timeout (R111, R112, R123). -/

namespace Sys2Proof.Machine

variable {s t : State} {st : StationId} {x : Slip}

/-- A station that goes DOWN keeps its figures. -/
theorem State.goDown_station (st : StationId) (cause : StationCause) (s : State) :
    ∃ e, (s.goDown st cause).station st = { s.station st with state := .down, evacuating := e } := by
  have h1 : ((s.downed st).announceDown st cause).station st =
      { s.station st with state := .down, evacuating := (s.station st).evacuating && decide ((s.station st).config.backup ≠ some st) } := by
    rw [State.station_announceDown, State.station_downed, if_pos rfl]
  rw [State.goDown_eq]
  generalize (s.downed st).announceDown st cause = a at h1
  split
  · exact ⟨true, by rw [State.station_modStation_self, h1]⟩
  · exact ⟨_, h1⟩

/-- Working out tickets none of which is UP makes no notice. -/
theorem State.port_workOutAll (ms : List Member) {s : State} (h : ∀ m ∈ ms, ∀ k ∈ s.tickets, k.number = m.ticket → k.workedState ≠ .up) (q : PortId) :
    (s.workOutAll ms).port q = s.port q := by
  unfold State.workOutAll
  induction ms generalizing s with
  | nil => rfl
  | cons m ms ih =>
    have hport : (s.workOut m.ticket).port q = s.port q := by
      cases hk : s.ticket? m.ticket with
      | none => rw [State.workOut, hk]
      | some k =>
        obtain ⟨hn, hm⟩ := State.ticket?_eq_some hk
        rw [State.workOut_of_ticket? hk, if_neg fun hu => h m List.mem_cons_self k hm hn hu.1]
        rfl
    rw [List.foldl_cons, ih ?_, hport]
    intro j hj k hk hn
    rw [State.tickets_workOut] at hk
    obtain ⟨k0, hk0, rfl⟩ := List.mem_map.mp hk
    have hw : (if k0.number = m.ticket then k0.worked else k0).workedState = k0.workedState := by split <;> rfl
    rw [hw]
    exact h j (List.mem_cons_of_mem _ hj) k0 hk0 (by split at hn <;> exact hn)

/-- A ticket with a WAITING line is not UP. -/
theorem Ticket.workedState_of_waiting {k : Ticket} {l : Line} (hl : l ∈ k.lines) {n : Nat} (hs : l.state = .waiting n) : k.workedState ≠ .up := fun hu => by
  obtain ⟨h, -⟩ := (Ticket.workedState_up k).mp hu
  rcases h l hl with ⟨_, h⟩ | h <;> rw [hs] at h <;> cases h

/-- A CALLED slip returned, its members its own: the ports bound to its station have the one notice. -/
theorem State.port_returnSlip (hr : s.RecordsSound) (hl : s.Linked) (hx : x ∈ s.slips) (r : WithdrawReason) (q : PortId) :
    (s.returnSlip x r).port q =
      if s.isBound x.station q = true then (s.port q).append ⟨s.clock, .withdrawn x.number x.station x.item r none⟩ else s.port q := by
  have hk := Kept.restate x .pending s
  have hport : (s.restate x .pending).port q = s.port q := by
    rw [State.restate, State.port_workOutAll]
    · rw [State.setMembers_frame]
      rfl
    · intro m hm k hkt hn
      rw [State.tickets_setMembers] at hkt
      obtain ⟨k0, hk0, rfl⟩ := List.mem_map.mp hkt
      have hn0 : k0.number = m.ticket := hn
      obtain ⟨l, hli, -, -⟩ := hl.entries x hx m hm
      rw [← hn0, State.RecordsSound.lineAt hr hk0] at hli
      have hline : (k0.setLines x.members (.follows x.number .pending)).lines[m.line]? = some { l with state := .waiting x.number } := by
        rw [Ticket.setLines, List.getElem?_mapIdx, hli, Option.map_some,
          if_pos (List.any_eq_true.mpr ⟨m, hm, decide_eq_true ⟨hn0.symm, rfl⟩⟩)]
        rfl
      exact Ticket.workedState_of_waiting (List.mem_of_getElem? hline) rfl
  rw [State.returnSlip_eq, State.postWithdrawn, State.port_post, hk.isBound, hk.clock, hport]

/-- The tickets of a slip returned: the lines of its members WAITING, every ticket worked out. -/
theorem State.tickets_returnSlip (hw : s.WorkedBut fun _ => False) (x : Slip) (r : WithdrawReason) :
    List.Forall₂ (fun k j : Ticket => j = { k with lines := j.lines, state := j.workedState } ∧ j.lines = k.lines.mapIdx fun i l =>
      if x.members.any (fun m => decide (m.ticket = k.number ∧ m.line = i)) then { l with state := .waiting x.number } else l)
      s.tickets (s.returnSlip x r).tickets := by
  have ht : (s.returnSlip x r).tickets = (s.restate x .pending).tickets := by rw [State.returnSlip_eq]; rfl
  rw [ht, State.tickets_restate]
  refine forall₂_map_mem fun k hk => ?_
  split
  · exact ⟨rfl, rfl⟩
  · next hno =>
    have hset : k.setLines x.members (.waiting x.number) = k := Ticket.setLines_of_none (by simpa using hno) _
    have hlines := congrArg Ticket.lines hset
    refine ⟨?_, hlines.symm⟩
    rw [← (hw k hk id).1]

theorem State.timedOut_slips (hr : s.RecordsSound) (hx : x ∈ s.slips) :
    (s.timedOut x).slips = s.slips.map fun y => if y.number = x.number then { x with state := .pending } else y := by
  rw [State.slips_timedOut]
  refine List.map_congr_left fun y hy => ?_
  split
  · next hn => rw [hr.slip_unique hx hy hn]
  · rfl

/-- A slip that has timed out is one that the station's going DOWN would have returned. -/
theorem State.returned_timedOut (hr : s.RecordsSound) (hx : x ∈ s.slips) (hc : x.isCalled = true) :
    (s.timedOut x).slips.map (Slip.returned x.station) = s.slips.map (Slip.returned x.station) := by
  rw [State.timedOut_slips hr hx, List.map_map]
  refine List.map_congr_left fun y hy => ?_
  simp only [Function.comp]
  split
  · next hn =>
    rw [hr.slip_unique hx hy hn, Slip.returned_of_called rfl hc]
    exact Slip.returned_of_not_called rfl
  · rfl

/-- A running station has no evacuation in flight; a CALLED slip's station runs. -/
theorem State.StationsSound.not_evacuating (h : s.StationsSound) (hx : x ∈ s.slips) (hc : x.isCalled = true) : (s.station x.station).evacuating = false :=
  Bool.eq_false_iff.mpr fun he => by
    have := h.called_running x hx hc
    rw [State.isRunning, (h.evacuating _ he).1] at this
    cases this

theorem AtBoard.timedOut (x : Slip) (s : State) : AtBoard s (s.timedOut x) := (AtBoard.returnSlip x .timeout s).trans rfl

/-- The third missed take in a row: what the station's going DOWN leaves (R112, R123). -/
theorem State.timedOut_goneDown (hr : s.RecordsSound) (hso : s.StationsSound) (hx : x ∈ s.slips) (hc : x.isCalled = true) :
    s.GoneDown .missedTakes x.station ((s.timedOut x).goDown x.station .missedTakes) := by
  refine State.goneDown hso (hr.timedOut x) (.timedOut x s) (State.returned_timedOut hr hx hc) (fun d hd => State.station_timedOut_ne hd s) ?_ ?_
    (fun hm => ?_) .missedTakes
  · rw [State.station_timedOut_self]
  · rw [State.station_timedOut_self]
    exact hso.not_evacuating hx hc
  · exact ((hr.membersSound_iff_agreed.mp hm).timedOut hr hx hc).linked

/-- Settles O53: the slip returned and counted; at the third, the station DOWN. -/
theorem takeTimeoutReturns : Obligations.TakeTimeoutReturns := by
  intro s n
  refine ⟨fun hno => ?_, fun hr x hx hxn hc => ?_⟩
  · have : (match s.slip? n with | some x => if x.isCalled then s.timeoutSlip x else s | none => s) = s := by
      cases h : s.slip? n with
      | none => rfl
      | some x =>
        obtain ⟨h1, h2⟩ := State.slip?_eq_some h
        exact if_neg (by rw [hno x h2 h1]; exact Bool.false_ne_true)
    exact congrArg Host.Outcome.next this
  · subst hxn
    have hex : exec (.takeTimeout x.number) s = .next (s.timeoutSlip x) := by
      have : (match s.slip? x.number with | some x => if x.isCalled then s.timeoutSlip x else s | none => s) = s.timeoutSlip x := by
        rw [hr.slip? hx]
        exact if_pos hc
      exact congrArg Host.Outcome.next this
    have hslips := State.timedOut_slips hr hx
    have hpend : ({ x with state := .pending } : Slip) ∈ (s.timedOut x).slips := hslips ▸ List.mem_map.mpr ⟨x, hx, if_pos rfl⟩
    have hstation := s.station_timedOut_self x
    have htold (q : PortId) (hq : s.isBound x.station q = true) :
        ((s.timedOut x).port q).Told ⟨s.clock, .withdrawn x.number x.station x.item .timeout none⟩ := State.returnSlip_told hq .timeout
    have hboard := AtBoard.timedOut x s
    have hrt := hr.timedOut x
    have hag (hm : s.MembersSound) := (hr.membersSound_iff_agreed.mp hm).timeoutSlip hr hx hc
    have hru : (s.timeoutSlip x).RecordsSound := hr.kept (.timeoutSlip x s) (.timeoutSlip s x)
    have hlines (hp : ({ x with state := .pending } : Slip) ∈ (s.timeoutSlip x).slips) (hm : s.MembersSound) (m : Member) (hmx : m ∈ x.members) (k : Ticket)
        (hk : k ∈ (s.timeoutSlip x).tickets) (l : Line) (hkn : k.number = m.ticket) (hl : k.lines[m.line]? = some l) : l.state = .waiting x.number := by
      obtain ⟨l', hl', hs, -⟩ := (hag hm).linked.entries _ hp m hmx
      rw [← hkn, hru.lineAt hk, hl] at hl'
      cases hl'
      exact hs
    refine ⟨s.timeoutSlip x, hex, ?_⟩
    rw [State.timeoutSlip_eq] at hlines ⊢
    by_cases h2 : (s.station x.station).missed = 2
    · rw [if_pos h2] at hlines ⊢
      obtain ⟨e, hgd⟩ := (s.timedOut x).goDown_station x.station .missedTakes
      have hmem : ({ x with state := .pending } : Slip) ∈ ((s.timedOut x).goDown x.station .missedTakes).slips := by
        rw [hrt.slips_goDown]
        exact List.mem_map.mpr ⟨_, hpend, Slip.returned_of_not_called rfl⟩
      refine ⟨hboard.trans (.goDown _ _ _), hmem, by rw [hgd, hstation], fun q hq => (Kept.goDown _ _ _).told (htold q hq), hlines hmem,
        fun _ => ⟨by rw [hgd], fun y hy hst hyc hyn q hq => ?_, fun hso => State.timedOut_goneDown hr hso hx hc⟩, fun hlt => absurd h2 (Nat.ne_of_lt hlt)⟩
      have hy' : y ∈ (s.timedOut x).slips := hslips ▸ List.mem_map.mpr ⟨y, hy, if_neg hyn⟩
      have hk := Kept.timedOut x s
      have := State.goDown_withdrawn hy' hst hyc .missedTakes ((hk.isBound _ _).trans hq)
      rwa [hk.clock] at this
    · rw [if_neg h2] at hlines ⊢
      refine ⟨hboard, hpend, by rw [hstation], htold, hlines hpend, fun h => absurd h h2, fun _ => ⟨?_, hslips, fun hm => ⟨fun q => ?_, ?_⟩⟩⟩
      · have hst := (Quiet.returnSlip x .timeout s).frame
        have : (s.returnSlip x .timeout).stations = s.stations := by rw [hst]
        show (s.returnSlip x .timeout).stations.set x.station
          { (s.returnSlip x .timeout).station x.station with missed := ((s.returnSlip x .timeout).station x.station).missed + 1 } = _
        rw [(Quiet.returnSlip x .timeout s).station, this]
      · exact State.port_returnSlip hr (hm.linked hr) hx .timeout q
      · exact State.tickets_returnSlip (hr.membersSound_iff_agreed.mp hm).worked x .timeout

end Sys2Proof.Machine
end

section
/-! SUPPORT. A move of an evacuation, exact: the slip at its new station, its lines, its wave's delay, the queue it left (R127, R128). -/

namespace Sys2Proof.Machine

variable {s t u : State} {st b : StationId} {x : Slip}

/-- Among records of their own numbers a queue in order is the only one that holds its slips. -/
theorem State.RecordsSound.queue_eq (hr : s.RecordsSound) {l : List Slip} (hp : l.Perm (s.slips.filter fun x => x.station == st && x.isPending))
    (hl : l.Pairwise Slip.queueLe) : s.queue st = l := by
  refine List.Perm.eq_of_pairwise (fun x y hx hy h1 h2 => ?_) (s.queue_sorted st) hl ((s.queue_perm st).trans hp.symm)
  refine hr.slip_unique (List.mem_filter.mp (hp.subset hy)).1 (State.mem_queue.mp hx).1 ?_
  rw [Slip.queueLe_iff] at h1 h2
  rcases h1 with ⟨h1, h1'⟩ | ⟨h1, h1'⟩ <;> rcases h2 with ⟨h2, h2'⟩ | ⟨h2, h2'⟩
  · rw [h1] at h2'; cases h2'
  · rw [h1, h1'] at h2; cases h2
  · rw [h2, h2'] at h1; cases h1
  · omega

/-! ## The slip moved -/

theorem State.movedFire_of_earliest {early : Nat} (h : s.earliestTarget x = some early) : s.movedFire b x = max (early - s.leadTime x.item b) s.clock := by
  simp only [State.movedFire, h]
  split
  · next hlt => rw [Nat.sub_eq_zero_of_le (Nat.le_of_lt hlt), Nat.zero_max]
  · rfl

theorem State.clock_le_movedFire : s.clock ≤ s.movedFire b x := by
  cases h : s.earliestTarget x with
  | some early => rw [State.movedFire_of_earliest h]; exact Nat.le_max_right _ _
  | none => simp only [State.movedFire, h, Nat.le_refl]

/-- The earliest pickup target is that of one member and none's is before it (R127). -/
theorem State.earliestTarget_eq_some {early : Nat} (h1 : ∃ m ∈ x.members, ∃ k, s.ticket? m.ticket = some k ∧ s.target k = early)
    (h2 : ∀ m ∈ x.members, ∀ k, s.ticket? m.ticket = some k → early ≤ s.target k) : s.earliestTarget x = some early := by
  refine List.min?_eq_some_iff.mpr ⟨?_, fun n hn => ?_⟩
  · obtain ⟨m, hm, k, hk, rfl⟩ := h1
    exact List.mem_filterMap.mpr ⟨m, hm, by rw [hk]; rfl⟩
  · obtain ⟨m, hm, he⟩ := List.mem_filterMap.mp hn
    obtain ⟨k, hk, rfl⟩ := Option.map_eq_some_iff.mp he
    exact h2 m hm k hk

theorem State.RecordsSound.slips_moved (hr : s.RecordsSound) (hx : x ∈ s.slips) : (s.moved st b x).slips =
    s.slips.map fun z => if z.number = x.number then { x with station := b, previewed := false, fire := s.movedFire b x } else z := by
  rw [State.slips_moved]
  refine List.map_congr_left fun z hz => ?_
  split
  · next hn => rw [hr.slip_unique hx hz hn]
  · rfl

theorem State.lineAt_relocated (ms : List Member) (f : Line → Line) (hf : ∀ l, f (f l) = f l) (s : State) (n i : Nat) :
    (ms.foldl (fun s m => s.modLine m.ticket m.line f) s).lineAt n i =
      if ms.any (fun m => decide (m.ticket = n ∧ m.line = i)) then (s.lineAt n i).map f else s.lineAt n i := by
  induction ms generalizing s with
  | nil => rfl
  | cons m ms ih =>
    rw [List.foldl_cons, ih, State.lineAt_modLine, List.any_cons]
    by_cases hm : n = m.ticket ∧ i = m.line
    · have hff : f ∘ f = f := funext hf
      rw [if_pos hm, decide_eq_true ⟨hm.1.symm, hm.2.symm⟩, Bool.true_or, if_pos rfl, Option.map_map, hff, ite_self]
    · rw [if_neg hm, decide_eq_false fun h => hm ⟨h.1.symm, h.2.symm⟩, Bool.false_or]

theorem State.lineAt_moved_member {m : Member} (hm : m ∈ x.members) {l : Line} (hl : (s.moved st b x).lineAt m.ticket m.line = some l) :
    l.station = some b := by
  unfold State.moved at hl
  rw [State.lineAt_relocated _ (fun l => { l with station := some b }) fun _ => rfl, if_pos (List.any_eq_true.mpr ⟨m, hm, decide_eq_true ⟨rfl, rfl⟩⟩)] at hl
  obtain ⟨l0, -, rfl⟩ := Option.map_eq_some_iff.mp hl
  rfl

/-- Where the lines stand, no consideration moves them. -/
theorem Quiet.line_station (h : Quiet s t) (hr : s.RecordsSound) {k : Ticket} (hk : k ∈ t.tickets) {i : Nat} {l : Line} (hl : k.lines[i]? = some l) :
    ∃ l0, s.lineAt k.number i = some l0 ∧ l.station = l0.station := by
  obtain ⟨j, hj, hjk⟩ := forall₂_mem_right h.tickets hk
  have hn : k.number = j.number := by rw [hjk.fields]
  obtain ⟨hlen, hget⟩ := List.forall₂_iff_get.mp hjk.lines
  obtain ⟨hi, rfl⟩ := List.getElem?_eq_some_iff.mp hl
  have hij : i < j.lines.length := hlen ▸ hi
  refine ⟨j.lines[i], ?_, ?_⟩
  · rw [hn, hr.lineAt hj]
    exact List.getElem?_eq_getElem hij
  · have hs : Line.Same j.lines[i] k.lines[i] := hget i hij hi
    rw [hs]

theorem State.wave_moved (st b : StationId) (x : Slip) (s : State) (v : WaveId) : (s.moved st b x).wave v =
    if v = x.wave then { s.wave v with delay := (s.wave v).delay.map fun d => { d with slips := d.slips.filter fun e => e.1 != x.number } } else s.wave v := by
  unfold State.moved
  rw [State.foldl_modLine_frame]
  show (State.unlist x.wave x.number _).wave v = _
  unfold State.unlist
  rw [State.wave_modWave]
  by_cases hv : v = x.wave
  · subst hv
    rw [if_pos rfl, if_pos rfl]
    split <;> rfl
  · rw [if_neg hv, if_neg hv]
    split <;> rfl

theorem State.hold_moved (st b : StationId) (x : Slip) (s : State) (v : WaveId) : ((s.moved st b x).wave v).hold = (s.wave v).hold := by
  rw [State.wave_moved]
  split <;> rfl

theorem Wave.Same.delay {v w : Wave} (h : v.Same w) {d : Delay} (hd : v.delay = some d) : ∃ e, w.delay = some e ∧
    e.slips.map Prod.fst = d.slips.map Prod.fst ∧ e.shifted = d.shifted ∧ e.unchanged = d.unchanged ∧ e.passed = d.passed := by
  obtain ⟨m, rfl⟩ := h
  refine ⟨{ d with slips := Machine.marked m d.slips }, by simp only [hd, Option.map_some], ?_, rfl, rfl, rfl⟩
  rw [Machine.marked, List.map_map]
  rfl

theorem State.Settled.atStations {d : StationId} (h : s.Settled d) (hat : AtStations s t) (hd : t.station d = s.station d) : t.Settled d := by
  have hq := State.queue_congr hat.slips d
  have hb : t.busyCount d = s.busyCount d := by rw [State.busyCount_eq, State.busyCount_eq, hat.slips]
  refine ⟨fun ho x hx => ?_, fun x hx => ?_⟩
  · have := h.called (hd ▸ ho) x (hq ▸ hx)
    rwa [State.eligible, State.fits, hat.clock, hat.wave, hb, hd]
  · have := h.previewed x (hq ▸ hx)
    rwa [State.previewable, State.isRunning, hat.clock, hd]

/-- The queue left keeps the slips behind the one moved, whatever the backup calls. -/
theorem State.queue_moveSlip (hr : s.RecordsSound) (hb : b ≠ st) {rest : List Slip} (hq : s.queue st = x :: rest)
    (hc : State.Considered (fun d => d = b) (s.moved st b x) t) : t.queue st = rest := by
  obtain ⟨hx, hst, hp⟩ := State.mem_queue.mp (hq ▸ List.mem_cons_self : x ∈ s.queue st)
  have hrt := hc.recordsSound (hr.kept (.moved st b x s) (.moved st b x s))
  have hslips := hc.slips
  have hsorted := s.queue_sorted st
  rw [hq] at hsorted
  rw [hr.slips_moved hx, List.forall₂_map_left_iff] at hslips
  refine hrt.queue_eq ?_ (List.pairwise_cons.mp hsorted).2
  have hfilter : t.slips.filter (fun y => y.station == st && y.isPending) =
      (s.slips.filter fun y => y.station == st && y.isPending).filter fun y => decide (y.number ≠ x.number) := by
    generalize t.slips = m at hslips
    generalize s.slips = l at hslips
    clear hrt hsorted
    induction hslips with
    | nil => rfl
    | @cons y z l m hyz _ ih =>
      rw [List.filter_cons, List.filter_cons, ih]
      by_cases hn : y.number = x.number
      · rw [if_pos hn] at hyz
        have hz : z.station = b := by rw [hyz.considers.kept]
        simp only [hz, hb, beq_eq_decide, decide_false, Bool.false_and, Bool.false_eq_true, if_false]
        split
        · rw [List.filter_cons_of_neg (by simp [hn])]
        · rfl
      · rw [if_neg hn] at hyz
        by_cases hys : y.station = st
        · rw [hyz.others fun h => hb (h.symm.trans hys)]
          split
          · rw [List.filter_cons_of_pos (by simp [hn])]
          · rfl
        · have hz : z.station = y.station := by rw [hyz.considers.kept]
          simp [hz, hys]
  rw [hfilter]
  have hperm := s.queue_perm st
  rw [hq] at hperm
  have hrest : rest.filter (fun y => decide (y.number ≠ x.number)) = rest := by
    refine List.filter_eq_self.mpr fun y hy => decide_eq_true fun hn => ?_
    have hnd := hr.queue_numbers st
    rw [hq] at hnd
    exact (List.nodup_cons.mp hnd).1 (hn ▸ List.mem_map_of_mem hy)
  have h := hperm.filter fun y => decide (y.number ≠ x.number)
  rwa [List.filter_cons_of_neg (by simp), hrest] at h

theorem State.execEvacuationMove_of_idle (h : (s.station st).evacuating = false) : exec (.evacuationMove st) s = .next s := by
  show execEvacuationMove st s = _
  rw [execEvacuationMove, h]

theorem State.execEvacuationMove_of {rest : List Slip} (h : (s.station st).evacuating = true) (hb : (s.station st).config.backup = some b)
    (hq : s.queue st = x :: rest) : exec (.evacuationMove st) s = .next (s.moveSlip st b x) := by
  show execEvacuationMove st s = _
  rw [execEvacuationMove, h, hb, hq]

/-- Settles O54: the slip written at its backup, the considerations of that station alone, and the queue that stays behind. -/
theorem evacuationMoveRehomes : Obligations.EvacuationMoveRehomes := by
  intro s st
  refine ⟨State.execEvacuationMove_of_idle, fun hr hev b hbackup hb x rest hq => ?_⟩
  obtain ⟨hx, hst, hp⟩ := State.mem_queue.mp (hq ▸ List.mem_cons_self : x ∈ s.queue st)
  have hra : (s.moved st b x).RecordsSound := hr.kept (.moved st b x s) (.moved st b x s)
  have hc := State.consider_considered hra b
  have hset := (s.moved st b x).consider_settled b
  have hqueue := State.queue_moveSlip hr hb hq hc
  have hslipsA := hr.slips_moved (st := st) (b := b) hx
  have hframe := s.moved_frame st b x
  have hstation (d : StationId) : ((s.moved st b x).consider b).station d = s.station d := (hc.quiet.station d).trans (s.station_moved st b x d)
  have hdelay := s.wave_moved st b x x.wave
  have hhold := s.hold_moved st b x
  have hat := AtStations.finishEvacuation st ((s.moved st b x).consider b)
  have hself := State.station_finishEvacuation_self st ((s.moved st b x).consider b)
  have hne (d : StationId) (hd : d ≠ st) := State.station_finishEvacuation_ne hd ((s.moved st b x).consider b)
  have hdone : rest = [] → ∀ q, s.watchersOf st q = true → ((s.moveSlip st b x).port q).Told ⟨s.clock, .stationState st .down .evacuated (some b) 0⟩ := by
    rintro rfl q hw
    have hk : Kept s ((s.moved st b x).consider b) := (Kept.moved st b x s).trans hc.kept
    have h := State.finishEvacuation_told (s := (s.moved st b x).consider b) (st := st) (q := q) (by rw [hstation, hev])
      (fun h => State.queue_ne_nil.mpr h hqueue) (by rw [hk.watchersOf]; exact hw)
    rwa [hstation, hbackup, hk.clock] at h
  have hmove (hpv : x.previewed = true) (q : PortId) (hw : s.isBound st q = true) := State.moveSlip_told hpv hw b
  have hexec := State.execEvacuationMove_of hev hbackup hq
  have hline (m : Member) (hm : m ∈ x.members) (l : Line) := State.lineAt_moved_member (s := s) (st := st) (b := b) hm (l := l)
  rw [← State.moveSlip_eq] at hat hself hne
  generalize s.moveSlip st b x = t at hat hself hne hdone hmove hexec
  generalize hcs : (s.moved st b x).consider b = c at hc hset hqueue hstation hat hself hne
  clear hcs
  have hclock : (s.moved st b x).clock = s.clock := by rw [hframe]
  have hstationA := s.station_moved st b x
  generalize s.moved st b x = a at hra hc hslipsA hframe hdelay hhold hline hclock hstationA
  have hconsiders : List.Forall₂ s.Considers
      (s.slips.map fun z => if z.number = x.number then { x with station := b, previewed := false, fire := s.movedFire b x } else z) t.slips := by
    rw [hat.slips, ← hslipsA]
    exact hc.slips.imp fun y z hyz => hyz.considers.congr hclock (hstationA _) (hhold _)
  obtain ⟨y, hy, hxy⟩ := forall₂_mem_left hconsiders (List.mem_map.mpr ⟨x, hx, if_pos rfl⟩)
  refine ⟨t, y, s.movedFire b x, hexec, ?_, hy, by rw [hxy.kept], by rw [hxy.kept], by rw [hxy.kept], by rw [hxy.kept], by rw [hxy.kept],
    by rw [hxy.kept], by rw [hxy.kept], by rw [hxy.kept], State.clock_le_movedFire,
    fun early h1 h2 => State.movedFire_of_earliest (State.earliestTarget_eq_some h1 h2), hconsiders, ?_, fun z hz hn hzb => ?_, ?_, ?_, ?_, fun d hd => ?_,
    hmove, hdone, fun d hd => ?_, fun m hm k hk l hkn hl => ?_⟩
  · have hq := hc.quiet.frame
    rw [hframe] at hq
    rw [AtStations] at hat
    rw [hat, hq]
  · exact hset.atStations hat (by rw [hne b hb])
  · rw [hat.slips]
    exact hc.others_mem (hslipsA ▸ List.mem_map.mpr ⟨z, hz, if_neg hn⟩) hzb
  · rw [hat.slips, hc.quiet.slip_numbers, hslipsA, List.map_map]
    refine List.map_congr_left fun z _ => ?_
    simp only [Function.comp]
    split
    · next hn => exact hn.symm
    · rfl
  · rw [State.queue_congr hat.slips, hqueue]
  · rw [hself, hstation, hqueue, hev]
    cases rest <;> rfl
  · rw [hne d hd, hstation]
  · have hda : (a.wave x.wave).delay = some { d with slips := d.slips.filter fun e => e.1 != x.number } := by
      rw [hdelay, if_pos rfl]
      simp only [hd, Option.map_some]
    obtain ⟨e, he, h1, h2, h3, h4⟩ := (hc.quiet.waves x.wave).delay hda
    refine ⟨e, by rw [hat.wave, he], ?_, h2, h3, h4⟩
    rw [h1, List.filter_map]
    exact congrArg _ (List.filter_congr fun e _ => by simp [bne, beq_eq_decide])
  · rw [hat.tickets] at hk
    obtain ⟨l0, h0, hl0⟩ := hc.quiet.line_station hra hk hl
    rw [hl0]
    exact hline m hm l0 (hkn ▸ h0)

end Sys2Proof.Machine
end

section
/-! SUPPORT; settling O52: a second at a station, its timeouts one after another and the third missed take among them (R112, R114). -/

namespace Sys2Proof.Machine

variable {s t : State} {st : StationId} {l : List Slip}

/-! ## Timeouts one after another -/

/-- The slips of `l` returned and counted one after another. -/
def State.timedOuts (l : List Slip) (s : State) : State := l.foldl (fun s x => s.timedOut x) s

theorem Kept.timedOuts (l : List Slip) (s : State) : Kept s (s.timedOuts l) := .foldl (fun s x => .timedOut x s) l s

theorem Stands.timedOuts (l : List Slip) (s : State) : Stands s (s.timedOuts l) := by
  unfold State.timedOuts
  induction l generalizing s with
  | nil => exact .refl s
  | cons x l ih => exact (Stands.timedOut x s).trans (ih _)

theorem AtBoard.timedOuts (l : List Slip) (s : State) : AtBoard s (s.timedOuts l) := .foldl (fun s x => .timedOut x s) l s

theorem State.RecordsSound.timedOuts (hr : s.RecordsSound) (l : List Slip) : (s.timedOuts l).RecordsSound := hr.kept (.timedOuts l s) (.timedOuts l s)

theorem State.slips_timedOuts (l : List Slip) (s : State) :
    (s.timedOuts l).slips = s.slips.map fun y => if y.number ∈ l.map Slip.number then { y with state := .pending } else y := by
  unfold State.timedOuts
  induction l generalizing s with
  | nil => exact (List.map_id _).symm
  | cons x l ih =>
    rw [List.foldl_cons, ih, State.slips_timedOut, List.map_map]
    refine List.map_congr_left fun y _ => ?_
    simp only [Function.comp, List.map_cons, List.mem_cons]
    by_cases hx : y.number = x.number
    · simp only [hx, if_true, true_or, ite_self]
    · simp only [hx, if_false, false_or]

theorem State.station_timedOuts_self (hl : ∀ x ∈ l, x.station = st) (s : State) :
    (s.timedOuts l).station st = { s.station st with missed := (s.station st).missed + l.length } := by
  unfold State.timedOuts
  induction l generalizing s with
  | nil => rfl
  | cons x l ih =>
    obtain rfl := hl x List.mem_cons_self
    rw [List.foldl_cons, ih fun y hy => hl y (List.mem_cons_of_mem _ hy), State.station_timedOut_self]
    simp only [List.length_cons, Nat.add_assoc, Nat.add_comm 1]

theorem State.station_timedOuts_ne {d : StationId} (hl : ∀ x ∈ l, x.station = st) (hd : d ≠ st) (s : State) :
    (s.timedOuts l).station d = s.station d := by
  unfold State.timedOuts
  induction l generalizing s with
  | nil => rfl
  | cons x l ih =>
    rw [List.foldl_cons, ih fun y hy => hl y (List.mem_cons_of_mem _ hy), State.station_timedOut_ne]
    rw [hl x List.mem_cons_self]
    exact hd

theorem State.timedOuts_told {x : Slip} (hx : x ∈ l) {q : PortId} (hq : s.isBound x.station q = true) :
    ((s.timedOuts l).port q).Told ⟨s.clock, .withdrawn x.number x.station x.item .timeout none⟩ := by
  unfold State.timedOuts
  induction l generalizing s with
  | nil => cases hx
  | cons y l ih =>
    have hk := Kept.timedOut y s
    rw [List.foldl_cons]
    rcases List.mem_cons.mp hx with rfl | hx
    · have h1 : ((s.timedOut x).port q).Told ⟨s.clock, .withdrawn x.number x.station x.item .timeout none⟩ := State.returnSlip_told hq .timeout
      exact (Kept.timedOuts l _).told h1
    · have := ih hx ((hk.isBound _ _).trans hq)
      rwa [hk.clock] at this

theorem State.TimesOut.stations (h : s.TimesOut st l) : ∀ x ∈ l, x.station = st := fun x hx => (h.2 x hx).2.1

theorem State.Agreed.timedOuts {ex : Nat → Prop} (h : s.Agreed ex) (hr : s.RecordsSound) (hl : s.TimesOut st l) : (s.timedOuts l).Agreed ex := by
  unfold State.timedOuts
  induction l generalizing s with
  | nil => exact h
  | cons x l ih =>
    obtain ⟨hx, -, hc⟩ := hl.2 x List.mem_cons_self
    exact ih (h.timedOut hr hx hc) (hr.timedOut x) hl.tail

/-- The slips timed out are ones that the station's going DOWN would have returned. -/
theorem State.TimesOut.returned (h : s.TimesOut st l) (hr : s.RecordsSound) :
    (s.timedOuts l).slips.map (Slip.returned st) = s.slips.map (Slip.returned st) := by
  rw [State.slips_timedOuts, List.map_map]
  refine List.map_congr_left fun y hy => ?_
  simp only [Function.comp]
  split
  · next hn =>
    obtain ⟨x, hx, hxy⟩ := List.mem_map.mp hn
    obtain ⟨hxs, hst, hc⟩ := h.2 x hx
    obtain rfl := hr.slip_unique hxs hy hxy.symm
    rw [Slip.returned_of_called hst hc]
    exact Slip.returned_of_not_called rfl
  · rfl

theorem State.timeoutAll_cons (x : Slip) (l : List Slip) (s : State) : s.timeoutAll st (x :: l) =
    if ((s.timeoutSlip x).station st).state = .down then s.timeoutSlip x else (s.timeoutSlip x).timeoutAll st l := rfl

theorem State.timeoutAll_of_not_down {x : Slip} (hx : x.station = st) (hd : (s.station st).state ≠ .down) (h2 : (s.station st).missed ≠ 2) :
    s.timeoutAll st (x :: l) = (s.timedOut x).timeoutAll st l := by
  subst hx
  rw [State.timeoutAll_cons, State.timeoutSlip_eq, if_neg h2, State.station_timedOut_self, if_neg hd]

/-- Fewer than three missed takes in a row: every slip is returned and counted (R114). -/
theorem State.timeoutAll_of_few (hl : ∀ x ∈ l, x.station = st) (hd : (s.station st).state ≠ .down)
    (h : 3 ≤ (s.station st).missed ∨ (s.station st).missed + l.length < 3) : s.timeoutAll st l = s.timedOuts l := by
  induction l generalizing s with
  | nil => rfl
  | cons x l ih =>
    obtain rfl := hl x List.mem_cons_self
    rw [List.length_cons] at h
    rw [State.timeoutAll_of_not_down rfl hd (by omega), ih fun y hy => hl y (List.mem_cons_of_mem _ hy)]
    · rfl
    · rw [State.station_timedOut_self]; exact hd
    · rw [State.station_timedOut_self]
      show 3 ≤ (s.station x.station).missed + 1 ∨ (s.station x.station).missed + 1 + l.length < 3
      omega

/-- The third missed take in a row: the station goes DOWN and no more slip times out (R112, R114). -/
theorem State.timeoutAll_of_third (hl : ∀ x ∈ l, x.station = st) (hd : (s.station st).state ≠ .down) (h1 : (s.station st).missed < 3)
    (h2 : 3 ≤ (s.station st).missed + l.length) :
    s.timeoutAll st l = (s.timedOuts (l.take (3 - (s.station st).missed))).goDown st .missedTakes := by
  induction l generalizing s with
  | nil => exact absurd h2 (Nat.not_le.mpr h1)
  | cons x l ih =>
    obtain rfl := hl x List.mem_cons_self
    rw [List.length_cons] at h2
    have hself := s.station_timedOut_self x
    by_cases hm : (s.station x.station).missed = 2
    · obtain ⟨e, he⟩ := (s.timedOut x).goDown_station x.station .missedTakes
      rw [State.timeoutAll_cons, State.timeoutSlip_eq, if_pos hm, he, if_pos rfl, hm]
      rfl
    · have hsub : 3 - (s.station x.station).missed = (3 - ((s.station x.station).missed + 1)) + 1 := by omega
      rw [State.timeoutAll_of_not_down rfl hd hm, ih fun y hy => hl y (List.mem_cons_of_mem _ hy), hself, hsub]
      · rfl
      · rw [hself]; exact hd
      · rw [hself]
        show (s.station x.station).missed + 1 < 3
        omega
      · rw [hself]
        show 3 ≤ (s.station x.station).missed + 1 + l.length
        omega

/-! ## The take timers lowered -/

/-- The slips of station `st` that a second times out: the CALLED ones with a take timer of at most one second (R114). -/
def Slip.runsOut (st : StationId) (x : Slip) : Bool :=
  decide (x.station = st) && match x.state with | .called _ timer => decide (timer ≤ 1) | .pending | .taken _ => false

theorem Slip.runsOut_iff {x : Slip} : x.runsOut st = true ↔ x.station = st ∧ ∃ time timer, x.state = .called time timer ∧ timer ≤ 1 := by
  unfold Slip.runsOut
  cases x.state <;> simp

@[simp] theorem Slip.lowered_number (st : StationId) (x : Slip) : (x.lowered st).number = x.number := by
  obtain ⟨r, h, -⟩ := x.lowered_spec st
  rw [h]

@[simp] theorem Slip.lowered_station (st : StationId) (x : Slip) : (x.lowered st).station = x.station := by
  obtain ⟨r, h, -⟩ := x.lowered_spec st
  rw [h]

@[simp] theorem Slip.lowered_item (st : StationId) (x : Slip) : (x.lowered st).item = x.item := by
  obtain ⟨r, h, -⟩ := x.lowered_spec st
  rw [h]

theorem Slip.lowered_of_called {x : Slip} (hst : x.station = st) {time timer : Nat} (h : x.state = .called time timer) :
    x.lowered st = { x with state := .called time (timer - 1) } := by
  unfold Slip.lowered
  rw [h]
  exact if_pos hst

theorem Slip.lowered_of_not_called {x : Slip} (h : x.isCalled = false) : x.lowered st = x := by
  unfold Slip.lowered
  cases hs : x.state with
  | called a b => simp [Slip.isCalled, hs] at h
  | pending => rfl
  | taken a => rfl

theorem Slip.lowered_of_ne {x : Slip} (h : x.station ≠ st) : x.lowered st = x := by
  unfold Slip.lowered
  cases hs : x.state with
  | called a b => exact if_neg h
  | pending => rfl
  | taken a => rfl

theorem Slip.isCalled_lowered (st : StationId) (x : Slip) : (x.lowered st).isCalled = x.isCalled := congrArg (fun v => v.2.2) (x.lowered_view st)

theorem Slip.returned_lowered (st : StationId) (x : Slip) : (x.lowered st).returned st = x.returned st := by
  by_cases hst : x.station = st
  · cases hc : x.isCalled with
    | true =>
      obtain ⟨r, h, -⟩ := x.lowered_spec st
      rw [Slip.returned_of_called (by simpa using hst) (by rw [Slip.isCalled_lowered, hc]), Slip.returned_of_called hst hc, h]
    | false => rw [Slip.lowered_of_not_called hc]
  · rw [Slip.lowered_of_ne hst]

/-- The slips that time out at a second are those whose take timer ran out. -/
theorem State.timesOut_lowered (st : StationId) (s : State) :
    ((s.lowerTimers st).busySet st).filter Slip.timedOut = (s.slips.filter (Slip.runsOut st)).map (Slip.lowered st) := by
  rw [State.busySet, State.lowerTimers_slips, List.filter_map, List.filter_map, List.filter_filter]
  refine congrArg _ (List.filter_congr fun x _ => ?_)
  rw [Bool.eq_iff_iff, Slip.runsOut_iff]
  simp only [Function.comp, Bool.and_eq_true, Slip.lowered_station, beq_iff_eq, Bool.not_eq_true']
  constructor
  · rintro ⟨hto, hst, -⟩
    rw [Slip.timedOut_eq, Bool.and_eq_true, Slip.isCalled_lowered] at hto
    obtain ⟨time, timer, hs⟩ := Slip.isCalled_iff.mp hto.1
    rw [Slip.lowered_of_called hst hs] at hto
    simp only [Slip.timedOut, beq_iff_eq] at hto
    exact ⟨hst, time, timer, hs, by omega⟩
  · rintro ⟨hst, time, timer, hs, hle⟩
    rw [Slip.lowered_of_called hst hs]
    simp only [Slip.timedOut, Slip.isPending, beq_iff_eq]
    exact ⟨by omega, hst, rfl⟩

end Sys2Proof.Machine
end

section
/-! Settling O52: the second timer, and a second at a station (R1, R2, R110 to R114). -/

namespace Sys2Proof.Machine

variable {s t a : State} {st : StationId}

/-- A slip that is not PENDING stays as it is through considerations. -/
theorem State.Considers.eq_of_not_pending {x y : Slip} (h : s.Considers x y) (hp : x.state ≠ .pending) : y = x := by
  have h1 : y.state = x.state := h.called.resolve_right fun hc => hp hc.1
  have h2 : y.previewed = x.previewed := h.previewed.resolve_right fun hc => hp hc.2.1
  rw [h.kept, h1, h2]

/-- One second event taken, the take timers lowered: the state in which the slips time out (R114). -/
def State.ticked (st : StationId) (s : State) : State := (s.modStation st fun u => { u with due := u.due - 1 }).lowerTimers st

theorem State.slips_ticked (st : StationId) (s : State) : (s.ticked st).slips = s.slips.map (Slip.lowered st) := rfl

theorem State.station_ticked_self (st : StationId) (s : State) : (s.ticked st).station st = { s.station st with due := (s.station st).due - 1 } :=
  State.station_modStation_self st (fun u => { u with due := u.due - 1 }) s

theorem State.station_ticked_ne {d : StationId} (h : d ≠ st) (s : State) : (s.ticked st).station d = s.station d := State.station_modStation_ne h (fun u => { u with due := u.due - 1 }) s

theorem Kept.ticked (st : StationId) (s : State) : Kept s (s.ticked st) := by
  have hk : Kept s (s.modStation st fun u => { u with due := u.due - 1 }) := .modStation rfl
  exact hk.trans (.lowerTimers st _)

theorem AtBoard.ticked (st : StationId) (s : State) : AtBoard s (s.ticked st) := rfl

theorem State.RecordsSound.ticked (hr : s.RecordsSound) (st : StationId) : (s.ticked st).RecordsSound := hr.kept (.ticked st s) rfl

theorem State.timesOut_ticked (hr : s.RecordsSound) (st : StationId) :
    (s.ticked st).TimesOut st ((s.slips.filter (Slip.runsOut st)).map (Slip.lowered st)) := by
  have h := (hr.ticked st).timesOut st Slip.timedOut
  rw [funext fun x : Slip => x.timedOut_eq.symm] at h
  exact State.timesOut_lowered st (s.modStation st fun u => { u with due := u.due - 1 }) ▸ h

/-- The slips of `st` timed out at a second event of `s`, before the station considers. -/
def State.seconded (st : StationId) (s : State) : State := (s.ticked st).timeoutAll st ((s.slips.filter (Slip.runsOut st)).map (Slip.lowered st))

theorem State.execStationSecondEvent_of (hd : (s.station st).due ≠ 0) (hrun : s.isRunning st = true) :
    exec (.stationSecondEvent st) s = .next ((s.seconded st).consider st) := by
  have hrun' : (s.modStation st fun u => { u with due := u.due - 1 }).isRunning st = true := by
    rw [State.isRunning, State.station_modStation_self]
    exact hrun
  show Host.Outcome.next _ = _
  rw [if_neg hd, State.secondAt, if_pos hrun']
  show Host.Outcome.next (State.consider st (State.timeoutAll st (List.filter Slip.timedOut (State.busySet _ st)) _)) = _
  rw [State.timesOut_lowered]
  rfl

/-- The stations' running figure that a second cannot end: fewer than three missed takes in a row, or a count already past them. -/
def State.Lasts (st : StationId) (s : State) : Prop :=
  3 ≤ (s.station st).missed ∨ (s.station st).missed + (s.slips.filter (Slip.runsOut st)).length < 3

theorem State.stations_ranOut (s : State) (st : StationId) : ∀ x ∈ (s.slips.filter (Slip.runsOut st)).map (Slip.lowered st), x.station = st := by
  intro x hx
  obtain ⟨y, hy, rfl⟩ := List.mem_map.mp hx
  rw [Slip.lowered_station]
  exact (Slip.runsOut_iff.mp (List.mem_filter.mp hy).2).1

theorem State.ticked_not_down (hrun : s.isRunning st = true) : ((s.ticked st).station st).state ≠ .down := fun h => by
  rw [State.station_ticked_self] at h
  have h : (s.station st).state = .down := h
  rw [State.isRunning, h] at hrun
  cases hrun

theorem State.seconded_of_lasts (hrun : s.isRunning st = true) (h : s.Lasts st) :
    s.seconded st = (s.ticked st).timedOuts ((s.slips.filter (Slip.runsOut st)).map (Slip.lowered st)) := by
  refine State.timeoutAll_of_few (s.stations_ranOut st) (State.ticked_not_down hrun) ?_
  rw [State.station_ticked_self, List.length_map]
  exact h

theorem State.seconded_of_third (hrun : s.isRunning st = true) (h : ¬s.Lasts st) : s.seconded st =
    ((s.ticked st).timedOuts (((s.slips.filter (Slip.runsOut st)).take (3 - (s.station st).missed)).map (Slip.lowered st))).goDown st .missedTakes := by
  have h1 : (s.station st).missed < 3 := Nat.not_le.mp fun hle => h (.inl hle)
  have h2 : 3 ≤ (s.station st).missed + (s.slips.filter (Slip.runsOut st)).length := Nat.not_lt.mp fun hlt => h (.inr hlt)
  have := State.timeoutAll_of_third (s := s.ticked st) (s.stations_ranOut st) (State.ticked_not_down hrun) (by rw [State.station_ticked_self]; exact h1)
    (by rw [State.station_ticked_self, List.length_map]; exact h2)
  rw [State.station_ticked_self, ← List.map_take] at this
  exact this

theorem Kept.seconded (st : StationId) (s : State) : Kept s (s.seconded st) := (Kept.ticked st s).trans (.timeoutAll st _ _)

theorem State.RecordsSound.seconded (hr : s.RecordsSound) (st : StationId) : (s.seconded st).RecordsSound :=
  (hr.ticked st).kept (.timeoutAll st _ _) (.timeoutAll _ _ _)

theorem AtBoard.seconded (hrun : s.isRunning st = true) : AtBoard s (s.seconded st) := by
  by_cases h : s.Lasts st
  · rw [State.seconded_of_lasts hrun h]
    exact (AtBoard.ticked st s).trans (.timedOuts _ _)
  · rw [State.seconded_of_third hrun h]
    exact (AtBoard.ticked st s).trans (.trans (.timedOuts _ _) (.goDown _ _ _))

theorem State.seconded_numbers (hrun : s.isRunning st = true) : (s.seconded st).slips.map Slip.number = s.slips.map Slip.number := by
  have h0 (l : List Slip) : ((s.ticked st).timedOuts l).slips.map Slip.number = s.slips.map Slip.number := by
    rw [State.slips_timedOuts, State.slips_ticked, List.map_map, List.map_map]
    refine List.map_congr_left fun y _ => ?_
    simp only [Function.comp]
    split <;> exact y.lowered_number st
  by_cases h : s.Lasts st
  · rw [State.seconded_of_lasts hrun h, h0]
  · rw [State.seconded_of_third hrun h, (State.goDown_atStations st _ _).slips, State.downed_eq,
      (Quiet.foldl (fun s x => .returnSlip x .down s) _ _).slip_numbers]
    exact h0 _

/-- What the timeouts of a second leave of a slip (R110, R111, R114). -/
theorem State.RecordsSound.slips_seconded (hr : s.RecordsSound) (hrun : s.isRunning st = true) (h : s.Lasts st) :
    (s.seconded st).slips = s.slips.map fun y => if y.runsOut st then { y with state := .pending } else y.lowered st := by
  rw [State.seconded_of_lasts hrun h, State.slips_timedOuts, State.slips_ticked, List.map_map]
  refine List.map_congr_left fun y hy => ?_
  have hmem : (y.lowered st).number ∈ ((s.slips.filter (Slip.runsOut st)).map (Slip.lowered st)).map Slip.number ↔ y.runsOut st = true := by
    rw [List.map_map, List.mem_map]
    constructor
    · rintro ⟨z, hz, hn⟩
      obtain ⟨hzs, hzo⟩ := List.mem_filter.mp hz
      have hzy : z.number = y.number := by simpa using hn
      rwa [hr.slip_unique hy hzs hzy] at hzo
    · exact fun ho => ⟨y, List.mem_filter.mpr ⟨hy, ho⟩, rfl⟩
  simp only [Function.comp, hmem]
  split
  · next ho =>
    obtain ⟨hst, _, _, hs, -⟩ := Slip.runsOut_iff.mp ho
    rw [Slip.lowered_of_called hst hs]
  · rfl

/-- The slips that time out up to the third missed take in a row. -/
theorem State.timesOut_take (hr : s.RecordsSound) (st : StationId) (n : Nat) :
    (s.ticked st).TimesOut st (((s.slips.filter (Slip.runsOut st)).take n).map (Slip.lowered st)) := by
  obtain ⟨h1, h2⟩ := State.timesOut_ticked hr st
  rw [List.map_take]
  exact ⟨h1.sublist ((List.take_sublist _ _).map _), fun x hx => h2 x (List.mem_of_mem_take hx)⟩

theorem State.returned_ticked (st : StationId) (s : State) : (s.ticked st).slips.map (Slip.returned st) = s.slips.map (Slip.returned st) := by
  rw [State.slips_ticked, List.map_map]
  exact List.map_congr_left fun y _ => y.returned_lowered st

/-- A station taken DOWN within its second returns all its CALLED slips (R112, R123). -/
theorem State.RecordsSound.slips_seconded_of_third (hr : s.RecordsSound) (hrun : s.isRunning st = true) (h : ¬s.Lasts st) :
    (s.seconded st).slips = s.slips.map (Slip.returned st) := by
  rw [State.seconded_of_third hrun h, ((hr.ticked st).timedOuts _).slips_goDown, (State.timesOut_take hr st _).returned (hr.ticked st),
    State.returned_ticked]

theorem State.station_seconded_of_lasts (hrun : s.isRunning st = true) (h : s.Lasts st) : (s.seconded st).station st =
    { s.station st with missed := (s.station st).missed + (s.slips.filter (Slip.runsOut st)).length, due := (s.station st).due - 1 } := by
  rw [State.seconded_of_lasts hrun h, State.station_timedOuts_self (s.stations_ranOut st), State.station_ticked_self, List.length_map]

theorem State.station_seconded_of_third (hrun : s.isRunning st = true) (h : ¬s.Lasts st) : ∃ e, (s.seconded st).station st =
    { s.station st with state := .down, missed := 3, due := (s.station st).due - 1, evacuating := e } := by
  obtain ⟨e, he⟩ := State.goDown_station st .missedTakes
    ((s.ticked st).timedOuts (((s.slips.filter (Slip.runsOut st)).take (3 - (s.station st).missed)).map (Slip.lowered st)))
  have hst : ∀ x ∈ ((s.slips.filter (Slip.runsOut st)).take (3 - (s.station st).missed)).map (Slip.lowered st), x.station = st := fun x hx => by
    rw [List.map_take] at hx
    exact s.stations_ranOut st x (List.mem_of_mem_take hx)
  have hlen : (s.station st).missed + min (3 - (s.station st).missed) (s.slips.filter (Slip.runsOut st)).length = 3 := by
    have h1 : ¬3 ≤ (s.station st).missed := fun hle => h (.inl hle)
    have h2 : ¬(s.station st).missed + (s.slips.filter (Slip.runsOut st)).length < 3 := fun hlt => h (.inr hlt)
    omega
  refine ⟨e, ?_⟩
  rw [State.seconded_of_third hrun h, he, State.station_timedOuts_self hst, State.station_ticked_self, List.length_map, List.length_take]
  simp only [hlen]

theorem State.station_seconded_ne (hrun : s.isRunning st = true) (h : s.Lasts st) {d : StationId} (hd : d ≠ st) :
    (s.seconded st).station d = s.station d := by
  rw [State.seconded_of_lasts hrun h, State.station_timedOuts_ne (s.stations_ranOut st) hd, State.station_ticked_ne hd]

/-- The slips timed out are withdrawn (R111). -/
theorem State.seconded_told (hrun : s.isRunning st = true) {x : Slip}
    (hx : x ∈ (s.slips.filter (Slip.runsOut st)).take (3 - (s.station st).missed)) {q : PortId} (hq : s.isBound st q = true) :
    ((s.seconded st).port q).Told ⟨s.clock, .withdrawn x.number st x.item .timeout none⟩ := by
  have hst : x.station = st := (Slip.runsOut_iff.mp (List.mem_filter.mp (List.mem_of_mem_take hx)).2).1
  have hk := Kept.ticked st s
  have told (l : List Slip) (hl : x.lowered st ∈ l) :
      (((s.ticked st).timedOuts l).port q).Told ⟨s.clock, .withdrawn x.number st x.item .timeout none⟩ := by
    have := State.timedOuts_told (s := s.ticked st) hl (q := q) (by rw [Slip.lowered_station, hst, hk.isBound]; exact hq)
    rwa [hk.clock, Slip.lowered_number, Slip.lowered_station, Slip.lowered_item, hst] at this
  by_cases h : s.Lasts st
  · rw [State.seconded_of_lasts hrun h]
    exact told _ (List.mem_map_of_mem (List.mem_of_mem_take hx))
  · rw [State.seconded_of_third hrun h]
    exact (Kept.goDown _ _ _).told (told _ (List.mem_map_of_mem hx))

/-- The other CALLED slips of a station taken DOWN are withdrawn with it (R123). -/
theorem State.seconded_withdrawn (hr : s.RecordsSound) (hrun : s.isRunning st = true) (h : ¬s.Lasts st) {x : Slip} (hx : x ∈ s.slips) (hst : x.station = st)
    (hc : x.isCalled = true) (hno : x ∉ (s.slips.filter (Slip.runsOut st)).take (3 - (s.station st).missed)) {q : PortId}
    (hq : s.isBound st q = true) : ((s.seconded st).port q).Told ⟨s.clock, .withdrawn x.number st x.item .down none⟩ := by
  rw [State.seconded_of_third hrun h]
  have hk := (Kept.ticked st s).trans (.timedOuts (((s.slips.filter (Slip.runsOut st)).take (3 - (s.station st).missed)).map (Slip.lowered st)) _)
  have hmem : x.lowered st ∈ ((s.ticked st).timedOuts
      (((s.slips.filter (Slip.runsOut st)).take (3 - (s.station st).missed)).map (Slip.lowered st))).slips := by
    rw [State.slips_timedOuts, State.slips_ticked]
    refine List.mem_map.mpr ⟨_, List.mem_map_of_mem hx, if_neg fun hn => hno ?_⟩
    rw [List.map_map] at hn
    obtain ⟨z, hz, hzn⟩ := List.mem_map.mp hn
    have hzx : z.number = x.number := by simpa using hzn
    rwa [← hr.slip_unique hx (List.mem_filter.mp (List.mem_of_mem_take hz)).1 hzx]
  have := State.goDown_withdrawn hmem (by rw [Slip.lowered_station, hst]) (by rw [Slip.isCalled_lowered, hc]) .missedTakes ((hk.isBound _ _).trans hq)
  rwa [hk.clock, Slip.lowered_number, Slip.lowered_item] at this

theorem State.seconded_goneDown (hr : s.RecordsSound) (hso : s.StationsSound) (hrun : s.isRunning st = true) (h : ¬s.Lasts st) :
    s.GoneDown .missedTakes st (s.seconded st) := by
  have hout := State.timesOut_take hr st (3 - (s.station st).missed)
  rw [State.seconded_of_third hrun h]
  generalize ((s.slips.filter (Slip.runsOut st)).take (3 - (s.station st).missed)).map (Slip.lowered st) = l at hout
  have hself := State.station_timedOuts_self hout.stations (s.ticked st)
  have hrt := hr.ticked st
  refine State.goneDown hso (hrt.timedOuts l) ((Kept.ticked st s).trans (.timedOuts l _)) ((hout.returned hrt).trans (s.returned_ticked st))
    (fun d hd => ?_) (by rw [hself, State.station_ticked_self]) ?_ (fun hm => ?_) .missedTakes
  · rw [State.station_timedOuts_ne hout.stations hd, State.station_ticked_ne hd]
  · rw [hself, State.station_ticked_self]
    refine Bool.eq_false_iff.mpr fun he => ?_
    rw [State.isRunning, (hso.evacuating st he).1] at hrun
    cases hrun
  · have h0 : (s.modStation st fun u => { u with due := u.due - 1 }).Agreed fun _ => False := (hr.membersSound_iff_agreed.mp hm).congr rfl rfl
    exact ((h0.lowerTimers st).timedOuts hrt hout).linked

/-- A PENDING slip stays one through the timeouts of a second, in its place. -/
theorem State.pending_seconded (hr : s.RecordsSound) (hrun : s.isRunning st = true) {x : Slip} (hx : x ∈ s.slips) (hp : x.isPending = true) :
    x ∈ (s.seconded st).slips := by
  have hc : x.isCalled = false := Bool.eq_false_iff.mpr fun hc => by rw [Slip.isPending_of_called hc] at hp; cases hp
  by_cases h : s.Lasts st
  · rw [hr.slips_seconded hrun h]
    refine List.mem_map.mpr ⟨x, hx, ?_⟩
    rw [if_neg, Slip.lowered_of_not_called hc]
    intro ho
    obtain ⟨-, _, _, hs, -⟩ := Slip.runsOut_iff.mp ho
    rw [Slip.isPending_iff.mp hp] at hs
    cases hs
  · rw [hr.slips_seconded_of_third hrun h]
    exact List.mem_map.mpr ⟨x, hx, Slip.returned_of_not_called hc⟩

theorem State.others_seconded (hr : s.RecordsSound) (hrun : s.isRunning st = true) {x : Slip} (hx : x ∈ s.slips) (hst : x.station ≠ st) :
    x ∈ (s.seconded st).slips := by
  by_cases h : s.Lasts st
  · rw [hr.slips_seconded hrun h]
    refine List.mem_map.mpr ⟨x, hx, ?_⟩
    rw [if_neg fun ho => hst (Slip.runsOut_iff.mp ho).1, Slip.lowered_of_ne hst]
  · rw [hr.slips_seconded_of_third hrun h]
    exact List.mem_map.mpr ⟨x, hx, Slip.returned_of_ne hst⟩

theorem State.ranOut_seconded (hr : s.RecordsSound) (hrun : s.isRunning st = true) {x : Slip} (hx : x ∈ s.slips) (ho : x.runsOut st = true) :
    ({ x with state := .pending } : Slip) ∈ (s.seconded st).slips := by
  obtain ⟨hst, time, timer, hs, -⟩ := Slip.runsOut_iff.mp ho
  by_cases h : s.Lasts st
  · rw [hr.slips_seconded hrun h]
    exact List.mem_map.mpr ⟨x, hx, if_pos ho⟩
  · rw [hr.slips_seconded_of_third hrun h]
    exact List.mem_map.mpr ⟨x, hx, Slip.returned_of_called hst (Slip.isCalled_iff.mpr ⟨time, timer, hs⟩)⟩

/-- The waves after a consideration at `a` are those of `s` with its marks, where `a` left the waves and the PENDING slips. -/
theorem State.WavesSound.waveMarked (hw : s.WavesSound) {v : WaveId} (hv : a.wave v = s.wave v) (hp : ∀ x ∈ s.slips, x.isPending = true → x ∈ a.slips) :
    a.waveMarked t v = s.waveMarked t v := by
  rw [State.waveMarked_eq, State.waveMarked_eq, hv]
  refine Wave.marked_congr fun d hd e he hun => ?_
  obtain ⟨x, hx, hn, hxv, hxp⟩ := (hw.listed v d hd).2 e.1 (by rw [← hun]; exact he)
  have h1 : s.Awaits v e.1 := ⟨x, hx, hn, hxv, hxp⟩
  have h2 : a.Awaits v e.1 := ⟨x, hp x hx hxp, hn, hxv, hxp⟩
  rw [Bool.eq_iff_iff, State.leaves_iff, State.leaves_iff]
  simp only [h1, h2, true_and]

/-- Settles O52: the clock raised, and at each station the slips timed out one after another and the consideration that follows. -/
theorem secondEventsReachStations : Obligations.SecondEventsReachStations := by
  refine ⟨fun s => ⟨fun hn => ?_, fun hs => ?_⟩, fun s st => ⟨fun hd => ?_, fun hd hstop => ?_, fun hd hrun => ?_⟩⟩
  · show Host.Outcome.next s.secondExpires = _
    rw [State.secondExpires, hn]
    rfl
  · refine ⟨s.secondExpires, rfl, ?_, fun st => ?_⟩
    · rw [State.secondExpires, if_pos (Option.isSome_iff_ne_none.mpr hs)]
      rfl
    · rw [State.secondExpires, if_pos (Option.isSome_iff_ne_none.mpr hs), State.station_mapStations]
      rfl
  · show Host.Outcome.next _ = _
    rw [if_pos hd]
  · have hno : ¬(s.modStation st fun u => { u with due := u.due - 1 }).isRunning st = true := by
      rw [State.isRunning, State.station_modStation_self]
      rcases hstop with h | h <;> simp [h]
    show Host.Outcome.next _ = _
    rw [if_neg hd, State.secondAt, if_neg hno]
    rfl
  · have hrun : s.isRunning st = true := by simpa [State.isRunning] using hrun
    have hex := State.execStationSecondEvent_of hd hrun
    have hset := (s.seconded st).consider_settled st
    have hquiet := Quiet.consider st (s.seconded st)
    have hkept := Kept.consider st (s.seconded st)
    have hcons (hr : s.RecordsSound) := State.consider_considered (hr.seconded st) st
    have hdown (h : ¬s.Lasts st) : (s.seconded st).consider st = s.seconded st := by
      obtain ⟨e, he⟩ := State.station_seconded_of_third hrun h
      exact State.consider_of_stopped (.inl (by rw [he]))
    have hk := Kept.seconded st s
    have hboard := AtBoard.seconded hrun
    have hnumbers := State.seconded_numbers hrun
    have hst (d : StationId) := hquiet.station d
    generalize (s.seconded st).consider st = t at hex hset hquiet hkept hcons hdown hst
    refine ⟨t, hex, ?_, ?_, hquiet.slip_numbers.trans hnumbers, fun hr => ⟨fun x hx hxs => ?_, fun x hx time timer hxs hs h2 hnd => ?_,
      fun x hx time timer hxs hs h1 => ?_⟩, fun hr h3 out hout => ?_, fun hr hw v => ?_, hset⟩
    · have hq := hquiet.frame
      rw [hboard] at hq
      have hstations : t.stations = (s.seconded st).stations := by rw [hquiet.frame]
      rw [hstations]
      exact hq
    · rw [hst]
      by_cases h : s.Lasts st
      · rw [State.station_seconded_of_lasts hrun h]
      · obtain ⟨e, he⟩ := State.station_seconded_of_third hrun h
        rw [he]
    · exact (hcons hr).others_mem (State.others_seconded hr hrun hx hxs) hxs
    · have h : s.Lasts st := by
        by_contra h
        obtain ⟨e, he⟩ := State.station_seconded_of_third hrun h
        exact hnd (by rw [hst, he])
      have hmem : ({ x with state := .called time (timer - 1) } : Slip) ∈ (s.seconded st).slips := by
        rw [hr.slips_seconded hrun h]
        refine List.mem_map.mpr ⟨x, hx, ?_⟩
        rw [if_neg, Slip.lowered_of_called hxs hs]
        intro ho
        obtain ⟨-, _, _, hs', hle⟩ := Slip.runsOut_iff.mp ho
        rw [hs] at hs'
        cases hs'
        omega
      obtain ⟨y, hy, hc⟩ := forall₂_mem_left (hcons hr).slips hmem
      rwa [hc.considers.eq_of_not_pending nofun] at hy
    · obtain ⟨y, hy, hc⟩ := forall₂_mem_left (hcons hr).slips
        (State.ranOut_seconded hr hrun hx (Slip.runsOut_iff.mpr ⟨hxs, time, timer, hs, h1⟩))
      refine ⟨y, hy, by rw [hc.considers.kept], hc.considers.called.imp id fun hcall => ?_⟩
      obtain ⟨-, hy, -⟩ := hcall
      rw [hy, hk.clock, hk.configs, hxs]
    · have hout : out = s.slips.filter (Slip.runsOut st) := by
        rw [hout]
        refine List.filter_congr fun x _ => ?_
        rcases x with ⟨_, _, _, _, _, k, _, _, _, _⟩
        cases k <;> rfl
      subst hout
      by_cases h : s.Lasts st
      · have hlt : (s.station st).missed + (s.slips.filter (Slip.runsOut st)).length < 3 := h.resolve_left (Nat.not_le.mpr h3)
        have hself := State.station_seconded_of_lasts hrun h
        have hnd : (s.station st).state ≠ .down := fun hsd => by
          rw [State.isRunning, hsd] at hrun
          cases hrun
        refine ⟨?_, ?_, fun _ => ⟨?_, fun d hd => ?_⟩, fun x hx q hq => hkept.told (State.seconded_told hrun hx hq),
          fun hge => absurd hge (Nat.not_le.mpr hlt), fun hge => absurd hge (Nat.not_le.mpr hlt)⟩
        · rw [hst, hself, Nat.min_eq_left (Nat.le_of_lt hlt)]
        · rw [hst, hself]
          exact iff_of_false hnd (Nat.not_le.mpr hlt)
        · rw [hst, hself]
        · rw [hst, State.station_seconded_ne hrun h hd]
      · have hge : 3 ≤ (s.station st).missed + (s.slips.filter (Slip.runsOut st)).length := Nat.not_lt.mp fun hlt => h (.inr hlt)
        obtain ⟨e, hself⟩ := State.station_seconded_of_third hrun h
        refine ⟨?_, ?_, fun hlt => absurd hge (Nat.not_le.mpr hlt), fun x hx q hq => hkept.told (State.seconded_told hrun hx hq),
          fun _ x hx hxs hc hno q hq => hkept.told (State.seconded_withdrawn hr hrun h hx hxs hc hno hq), fun _ hso => ?_⟩
        · rw [hst, hself, Nat.min_eq_right hge]
        · rw [hst, hself]
          exact iff_of_true rfl hge
        · rw [hdown h]
          exact State.seconded_goneDown hr hso hrun h
    · have hv : (s.seconded st).wave v = s.wave v := by
        rw [hboard]
        rfl
      rw [(hcons hr).waves, hw.waveMarked hv fun x hx hp => State.pending_seconded hr hrun hx hp]

end Sys2Proof.Machine
end

section
/-! SUPPORT. Lines taken out of slips in any sound part, whether or not lines and slips agree (R22, R67, R89 to R91, R128). -/

namespace Sys2Proof.Machine

variable {s t u : State} {x : Slip}

/-- From `s` to `t` slips may have lost members and left the board: what the stations, the waves and the hold flags of waves at work keep. -/
structure State.Loses (s t : State) : Prop where
  sheds : s.Sheds t
  stand : Stands s t
  clears : ∀ ex, s.WavesBut ex → s.Clears t
  waves : ∀ ex, s.WavesBut ex → t.WavesBut ex
  holds : ∀ v, t.slipCount v ≠ 0 → s.slipCount v ≠ 0 ∧ (t.wave v).hold = (s.wave v).hold

theorem State.Loses.refl (s : State) : s.Loses s := ⟨.refl s, .refl s, fun _ _ => .refl s, fun _ h => h, fun _ h => ⟨h, rfl⟩⟩

theorem State.Loses.trans (h : s.Loses t) (k : t.Loses u) : s.Loses u where
  sheds := h.sheds.trans k.sheds
  stand := h.stand.trans k.stand
  clears ex hw := (h.clears ex hw).trans (k.clears ex (h.waves ex hw))
  waves ex hw := k.waves ex (h.waves ex hw)
  holds v hv := by
    obtain ⟨h1, h2⟩ := k.holds v hv
    obtain ⟨h3, h4⟩ := h.holds v h1
    exact ⟨h3, h2.trans h4⟩

theorem State.Loses.recordsSound (h : s.Loses t) (hr : s.RecordsSound) : t.RecordsSound := hr.kept h.sheds.still h.stand

theorem State.Loses.post (r : PortId → Bool) (b : NoticeBody) (s : State) : s.Loses (s.post r b) :=
  ⟨.of_slips (.post r b s) (fun _ => rfl) rfl, .post s r b, fun _ _ => .post r b s, fun _ h => h.post r b, fun _ h => ⟨h, rfl⟩⟩

theorem State.Loses.modLine (n i : Nat) (f : Line → Line) (s : State) : s.Loses (s.modLine n i f) :=
  ⟨.of_slips (.modLine s n i f) (fun _ => rfl) rfl, .modLine s n i f, fun _ _ => .modLine n i f s, fun _ h => h.modLine n i f, fun _ h => ⟨h, rfl⟩⟩

theorem State.Loses.dropSlip (ho : s.Only x) (hx : x ∈ s.slips) : s.Loses (s.dropSlip x) where
  sheds := .dropSlip x s
  stand := .dropSlip s x
  clears ex hw := .dropSlip ho hx (.inr ⟨ex, hw⟩)
  waves ex hw := hw.dropSlip ho
  holds v hv := by
    refine ⟨fun h0 => hv ?_, (State.wave_dropSlip_of_work (.inr hv)).2⟩
    rw [State.slipCount, List.length_eq_zero_iff, List.filter_eq_nil_iff] at h0 ⊢
    rw [State.dropSlip_slips]
    exact fun y hy => h0 y (List.mem_of_mem_filter hy)

theorem State.Loses.emptySlip (ho : s.Only x) (hx : x ∈ s.slips) : s.Loses (s.emptySlip x) := by
  rw [State.emptySlip]
  split
  · exact (State.Loses.post _ _ s).trans (.dropSlip (s := s.postWithdrawn x .emptied) ho hx)
  · exact .dropSlip ho hx

/-- A slip written anew with fewer members. -/
theorem State.Loses.modSlip (ho : s.Only x) {y : Slip} (hv : y.waveView = x.waveView) (hst : y.station = x.station) (hm : y.members ⊆ x.members) :
    s.Loses (s.modSlip x.number fun _ => y) := by
  have hn : y.number = x.number := congrArg Prod.fst hv
  have hpend : y.isPending = x.isPending := congrArg (fun v : Nat × WaveId × Bool => v.2.2) hv
  have hk : Kept s (s.modSlip x.number fun _ => y) := .modSlip (fun _ _ => hn) fun z hz h => by rw [ho z hz h]; exact hm
  have hview (z : Slip) (hz : z ∈ s.slips) (h : z.number = x.number) : y.waveView = z.waveView := by rw [ho z hz h, hv]
  refine ⟨.modSlip hk fun z hz h => by rw [ho z hz h]; exact ⟨hst, hpend⟩, rfl, fun _ _ => .modSlip hk hview, fun _ hw => hw.modSlip hview, fun v h => ⟨?_, rfl⟩⟩
  rwa [State.slipCount_eq, Slip.map_wave_of_view (Slip.map_waveView_modSlip hview), ← State.slipCount_eq] at h

theorem State.Loses.removeMember (ho : s.Only x) (hx : x ∈ s.slips) (n i : Nat) : s.Loses (s.removeMember x n i) := by
  rw [State.removeMember]
  split
  · exact .emptySlip ho hx
  · dsimp only
    have h1 := State.Loses.modSlip (y := { x with members := x.without n i, portions := x.portions - x.portionsOf n i }) ho rfl rfl
      (List.filter_subset_self _)
    split
    · exact h1.trans (.post _ _ _)
    · exact h1

theorem State.Loses.detachMember (ho : s.Only x) (n i : Nat) : s.Loses (s.detachMember x n i) := by
  rw [State.detachMember, ho.modSlip_eq]
  exact .modSlip ho rfl rfl (List.filter_subset_self _)

/-! ## The lines of a voided ticket (R67) -/

/-- A line of a voided ticket changes nothing, or leaves a slip, or is detached from one. -/
theorem Voiding.line_cases (n : Nat) (v : Voiding) (i : Nat) : v.line n i = v ∨ ∃ x ∈ v.state.slips,
    (∃ freed stations, v.line n i = ⟨(v.state.voidLine n i).removeMember x n i, v.removed + 1, v.detached, freed, stations⟩ ∧ freed ≤ v.freed + 1) ∨
      v.line n i = { v with state := (v.state.voidLine n i).detachMember x n i, detached := v.detached + 1 } := by
  have hfreed (p : Bool) : (if p then v.freed + 1 else v.freed) ≤ v.freed + 1 := by split <;> omega
  unfold Voiding.line
  split
  · dsimp only
    split
    · split
      · next hx => exact .inr ⟨_, (State.slip?_eq_some hx).2, .inl ⟨_, _, rfl, hfreed _⟩⟩
      · exact .inl rfl
    · split
      · next hx => exact .inr ⟨_, (State.slip?_eq_some hx).2, .inl ⟨_, _, rfl, hfreed _⟩⟩
      · exact .inl rfl
    · split
      · next hx => exact .inr ⟨_, (State.slip?_eq_some hx).2, .inr rfl⟩
      · exact .inl rfl
    all_goals exact .inl rfl
  · exact .inl rfl

theorem Voiding.line_loses {v : Voiding} (hr : v.state.RecordsSound) (n i : Nat) : v.state.Loses (v.line n i).state := by
  have hv : v.state.Loses (v.state.voidLine n i) := .modLine n i _ _
  rcases v.line_cases n i with h | ⟨x, hx, ⟨_, _, h, -⟩ | h⟩ <;> rw [h]
  · exact .refl _
  · exact hv.trans (.removeMember (s := v.state.voidLine n i) (hr.only hx) hx n i)
  · exact hv.trans (.detachMember (s := v.state.voidLine n i) (hr.only hx) n i)

theorem Voiding.line_counts (v : Voiding) (n i : Nat) : (v.line n i).removed + (v.line n i).detached ≤ v.removed + v.detached + 1 ∧
    (v.freed ≤ v.removed → (v.line n i).freed ≤ (v.line n i).removed) := by
  rcases v.line_cases n i with h | ⟨x, hx, ⟨_, _, h, hf⟩ | h⟩ <;> rw [h]
  · exact ⟨Nat.le_succ _, id⟩
  · exact ⟨by dsimp only; omega, fun hle => hf.trans (Nat.succ_le_succ hle)⟩
  · exact ⟨Nat.le_refl _, id⟩

theorem State.Loses.voidLines (hr : s.RecordsSound) (k : Ticket) : s.Loses (s.voidLines k).state := by
  have lines (l : List Nat) : ∀ v : Voiding, v.state.RecordsSound → v.state.Loses (l.foldl (Voiding.line k.number) v).state := by
    induction l with
    | nil => exact fun v _ => .refl v.state
    | cons i l ih =>
      intro v hv
      have h1 := v.line_loses hv k.number i
      exact h1.trans (ih _ (h1.recordsSound hv))
  exact lines _ ⟨s, 0, 0, 0, []⟩ hr

/-- A ticket's lines leave slips once each, and a slip is freed only where a line leaves it (R67). -/
theorem State.voidLines_counts (k : Ticket) (s : State) :
    (s.voidLines k).removed + (s.voidLines k).detached ≤ k.lines.length ∧ (s.voidLines k).freed ≤ (s.voidLines k).removed := by
  have lines (l : List Nat) : ∀ v : Voiding,
      (l.foldl (Voiding.line k.number) v).removed + (l.foldl (Voiding.line k.number) v).detached ≤ v.removed + v.detached + l.length ∧
        (v.freed ≤ v.removed → (l.foldl (Voiding.line k.number) v).freed ≤ (l.foldl (Voiding.line k.number) v).removed) := by
    induction l with
    | nil => exact fun v => ⟨Nat.le_refl _, id⟩
    | cons i l ih =>
      intro v
      obtain ⟨h1, h2⟩ := v.line_counts k.number i
      obtain ⟨h3, h4⟩ := ih (v.line k.number i)
      exact ⟨by rw [List.foldl_cons, List.length_cons]; omega, fun h => h4 (h2 h)⟩
  obtain ⟨h1, h2⟩ := lines (List.range k.lines.length) ⟨s, 0, 0, 0, []⟩
  rw [List.length_range] at h1
  exact ⟨h1.trans_eq (Nat.zero_add _), h2 (Nat.le_refl 0)⟩

/-! ## Considerations and a ticket off the table -/

theorem State.Considered.loses {sel : StationId → Prop} (h : State.Considered sel s t) (hr : s.RecordsSound) (hs : SlotsKept s t)
    (hw : ∀ ex, s.WavesBut ex → t.WavesBut ex) : s.Loses t := by
  refine ⟨h.sheds, h.quiet.stands, fun _ _ => h.clears hr hs, hw, fun v hv => ⟨?_, (h.quiet.waves v).hold⟩⟩
  rwa [State.slipCount_eq, forall₂_map_eq (h.slips.imp fun _ _ k => k.considers) fun _ _ k => k.wave, ← State.slipCount_eq] at hv

theorem State.Loses.considerAll (hr : s.RecordsSound) (sel : StationId → Bool) : s.Loses (s.considerAll sel) :=
  (State.considerAll_considered hr sel).loses hr (.considerAll sel s) fun _ hw => hw.considerAll hr sel

theorem State.Loses.untabled (hr : s.RecordsSound) {k j : Ticket} (hk : j ∈ s.tickets) (hn : j.number = k.number) (hw : j.wave = k.wave) :
    s.Loses (s.untabled k) := by
  have honly (i : Ticket) (hi : i ∈ s.tickets) (hin : i.number = k.number) : i = j := hr.ticket_unique hk hi (hin.trans hn.symm)
  refine ⟨.untabled k s, .untabled k s, fun _ _ => .untabled ⟨j, hk, hw, honly⟩, fun _ h => h.untable fun i hi hin => ?_, fun v hv => ?_⟩
  · rw [honly i hi hin, hw]
  · rw [State.slipCount, State.slips_untabled] at hv
    refine ⟨hv, ?_⟩
    have hne : ¬(v = k.wave ∧ State.Done { s with tickets := s.tickets.filter fun u => u.number != k.number } k.wave) := by
      rintro ⟨rfl, -, -, h2⟩
      exact hv h2
    by_cases hvk : v = k.wave
    · subst hvk
      rw [State.untabled, State.freeIfDone_of_not_done fun hd => hne ⟨rfl, hd⟩]
      rfl
    · rw [State.wave_untabled_ne hvk]

end Sys2Proof.Machine
end

section
/-! SUPPORT. The counts of a void (R67): what has left the slips and what is left in them stay together the same, line by line. -/

namespace Sys2Proof.Machine

variable {s t u : State} {x : Slip}

/-! ## Sums over the slips -/

theorem sum_map_modSlip {l : List Slip} (h : l.Pairwise fun x y => x.number < y.number) (hx : x ∈ l) (y : Slip) (w : Slip → Nat) :
    ((l.map fun z => if z.number = x.number then y else z).map w).sum + w x = (l.map w).sum + w y := by
  induction l with
  | nil => cases hx
  | cons z l ih =>
    obtain ⟨hz, hl⟩ := List.pairwise_cons.mp h
    rcases List.mem_cons.mp hx with rfl | hx
    · have hrest : (l.map fun z => if z.number = x.number then y else z) = l :=
        (List.map_congr_left fun a ha => if_neg (Nat.ne_of_gt (hz a ha))).trans (List.map_id _)
      rw [List.map_cons, if_pos rfl, hrest, List.map_cons, List.map_cons, List.sum_cons, List.sum_cons]
      omega
    · have := ih hl hx
      rw [List.map_cons, if_neg (Nat.ne_of_lt (hz x hx)), List.map_cons, List.map_cons, List.sum_cons, List.sum_cons]
      omega

theorem sum_filter_number {l : List Slip} (h : l.Pairwise fun x y => x.number < y.number) (hx : x ∈ l) (w : Slip → Nat) :
    ((l.filter fun y => y.number != x.number).map w).sum + w x = (l.map w).sum := by
  induction l with
  | nil => cases hx
  | cons z l ih =>
    obtain ⟨hz, hl⟩ := List.pairwise_cons.mp h
    rcases List.mem_cons.mp hx with rfl | hx
    · have hrest : (l.filter fun y => y.number != x.number) = l :=
        List.filter_eq_self.mpr fun a ha => by simpa using Nat.ne_of_gt (hz a ha)
      rw [List.filter_cons_of_neg (by simp), hrest, List.map_cons, List.sum_cons]
      omega
    · have := ih hl hx
      rw [List.filter_cons_of_pos (by simpa using Nat.ne_of_lt (hz x hx)), List.map_cons, List.map_cons, List.sum_cons, List.sum_cons]
      omega

/-- A line taken out of its slip changes a sum over the slips by that slip alone. -/
theorem State.sum_pullLine (hr : s.RecordsSound) (hl : s.Linked) (hx : x ∈ s.slips) {m : Member} (hm : m ∈ x.members) (w : Slip → Nat) :
    ((s.pullLine x m.ticket m.line).slips.map w).sum + w x =
      (s.slips.map w).sum + if (x.pulled (oneLine m.ticket m.line)).stands then w (x.pulled (oneLine m.ticket m.line)) else 0 := by
  rw [(State.Pulls.pullLine hr hl hx hm).slips, hl.slips_pulled hr hx hm]
  by_cases hs : (x.pulled (oneLine m.ticket m.line)).stands = true
  · rw [if_pos hs, if_pos hs, sum_map_modSlip hr.slips_rise hx]
  · rw [if_neg hs, if_neg hs, sum_filter_number hr.slips_rise hx, Nat.add_zero]

/-! ## A ticket's lines in a slip -/

/-- Whether a member is of ticket `n`. -/
def Member.isOf (n : Nat) (m : Member) : Bool := m.ticket == n

/-- A slip holds each line once: without the line it holds one member less of the line's ticket. -/
theorem Slip.countP_pulled (ho : (x.members.map fun m => (m.ticket, m.line)).Nodup) {m : Member} (hm : m ∈ x.members) :
    (x.pulled (oneLine m.ticket m.line)).members.countP (Member.isOf m.ticket) + 1 = x.members.countP (Member.isOf m.ticket) := by
  have hone : x.members.countP (fun j => oneLine m.ticket m.line j.ticket j.line) = 1 := by
    have := List.count_eq_one_of_mem ho (List.mem_map_of_mem hm)
    rw [List.count, List.countP_map] at this
    exact this
  have hsplit := List.countP_eq_countP_filter_add x.members (Member.isOf m.ticket) fun j => oneLine m.ticket m.line j.ticket j.line
  have hall : (x.members.filter fun j => oneLine m.ticket m.line j.ticket j.line).countP (Member.isOf m.ticket) = 1 := by
    rw [List.countP_filter, ← hone]
    refine List.countP_congr fun j _ => ?_
    rw [Bool.and_eq_true, oneLine_iff]
    exact and_iff_right_of_imp fun h => beq_iff_eq.mpr h.1
  rw [Slip.pulled_members, hsplit, hall, Nat.add_comm 1]

/-- A slip's members are all of a ticket where they are so without a line of that ticket. -/
theorem Slip.all_pulled (m : Member) (x : Slip) : (x.pulled (oneLine m.ticket m.line)).members.all (Member.isOf m.ticket) = x.members.all (Member.isOf m.ticket) := by
  rw [Slip.pulled_members, Bool.eq_iff_iff, List.all_eq_true, List.all_eq_true]
  refine ⟨fun h j hj => ?_, fun h j hj => h j (List.mem_of_mem_filter hj)⟩
  by_cases ho : oneLine m.ticket m.line j.ticket j.line = true
  · exact beq_iff_eq.mpr (oneLine_iff.mp ho).1
  · exact h j (List.mem_filter.mpr ⟨hj, by simpa using ho⟩)

theorem Slip.all_of_pulled_nil {m : Member} (hnil : (x.pulled (oneLine m.ticket m.line)).members = []) :
    x.members.all (Member.isOf m.ticket) = true := by
  rw [Slip.pulled_members, List.filter_eq_nil_iff] at hnil
  exact List.all_eq_true.mpr fun j hj => beq_iff_eq.mpr (oneLine_iff.mp (by simpa using hnil j hj)).1

/-- The lines of ticket `n` that a void removes from slip `x`, detaches from it, and whether it leaves the slip empty (R67). -/
def Slip.removable (n : Nat) (x : Slip) : Nat := if x.isTaken then 0 else x.members.countP (Member.isOf n)
def Slip.detachable (n : Nat) (x : Slip) : Nat := if x.isTaken then x.members.countP (Member.isOf n) else 0
def Slip.empties (n : Nat) (x : Slip) : Bool := !x.isTaken && x.members.all (Member.isOf n)

theorem Slip.stands_iff_of_not_taken {g : Nat → Nat → Bool} (ht : x.isTaken = false) : (x.pulled g).stands = true ↔ (x.pulled g).members ≠ [] := by
  rw [Slip.stands, Slip.pulled_isTaken, ht, Bool.false_or, Bool.not_eq_true', List.isEmpty_eq_false_iff]

theorem Slip.stands_of_taken {g : Nat → Nat → Bool} (ht : x.isTaken = true) : (x.pulled g).stands = true := by
  rw [Slip.stands, Slip.pulled_isTaken, ht, Bool.true_or]

theorem Slip.removable_pulled (ho : (x.members.map fun m => (m.ticket, m.line)).Nodup) {m : Member} (hm : m ∈ x.members) :
    (if (x.pulled (oneLine m.ticket m.line)).stands then (x.pulled (oneLine m.ticket m.line)).removable m.ticket else 0) +
      (if x.isTaken then 0 else 1) = x.removable m.ticket := by
  unfold Slip.removable
  rw [Slip.pulled_isTaken]
  cases ht : x.isTaken with
  | true => rw [if_pos (Slip.stands_of_taken ht)]; rfl
  | false =>
    have hc := Slip.countP_pulled ho hm
    have hz : ¬(x.pulled (oneLine m.ticket m.line)).stands = true →
        (x.pulled (oneLine m.ticket m.line)).members.countP (Member.isOf m.ticket) = 0 := fun hs => by
      rw [Slip.stands_iff_of_not_taken ht, not_not] at hs
      rw [hs]
      rfl
    simp only [Bool.false_eq_true, if_false]
    split
    · exact hc
    · next hs =>
      rw [hz hs] at hc
      exact hc

theorem Slip.detachable_pulled (ho : (x.members.map fun m => (m.ticket, m.line)).Nodup) {m : Member} (hm : m ∈ x.members) :
    (if (x.pulled (oneLine m.ticket m.line)).stands then (x.pulled (oneLine m.ticket m.line)).detachable m.ticket else 0) +
      (if x.isTaken then 1 else 0) = x.detachable m.ticket := by
  unfold Slip.detachable
  rw [Slip.pulled_isTaken]
  cases ht : x.isTaken with
  | true => rw [if_pos (Slip.stands_of_taken ht)]; exact Slip.countP_pulled ho hm
  | false => simp

theorem Slip.empties_pulled (m : Member) (x : Slip) :
    (if (x.pulled (oneLine m.ticket m.line)).stands then (if (x.pulled (oneLine m.ticket m.line)).empties m.ticket then 1 else 0) else 0) +
      (if (x.pulled (oneLine m.ticket m.line)).stands then 0 else 1) = if x.empties m.ticket then 1 else 0 := by
  unfold Slip.empties
  rw [Slip.pulled_isTaken]
  cases ht : x.isTaken with
  | true => rw [if_pos (Slip.stands_of_taken ht), if_pos (Slip.stands_of_taken ht)]; rfl
  | false =>
    have hst := Slip.stands_iff_of_not_taken (x := x) (g := oneLine m.ticket m.line) ht
    by_cases hs : (x.pulled (oneLine m.ticket m.line)).stands = true
    · rw [if_pos hs, if_pos hs, Slip.all_pulled, Nat.add_zero]
    · rw [if_neg hs, if_neg hs, Slip.all_of_pulled_nil (not_not.mp fun hne => hs (hst.mpr hne))]
      rfl

/-! ## The counts of a void -/

/-- A void of ticket `n` is to empty a CALLED slip of station `st`. -/
def State.Vacates (s : State) (n : Nat) (st : StationId) : Prop := ∃ x ∈ s.slips, x.isCalled = true ∧ x.members.all (Member.isOf n) = true ∧ x.station = st

/-- What a void has counted and what its slips still hold of the ticket stay together the same from `v` to `v'`. -/
structure Voiding.Balanced (n : Nat) (v v' : Voiding) : Prop where
  removed : v'.removed + (v'.state.slips.map (Slip.removable n)).sum = v.removed + (v.state.slips.map (Slip.removable n)).sum
  detached : v'.detached + (v'.state.slips.map (Slip.detachable n)).sum = v.detached + (v.state.slips.map (Slip.detachable n)).sum
  freed : v'.freed + (v'.state.slips.map fun x => if x.empties n then 1 else 0).sum =
    v.freed + (v.state.slips.map fun x => if x.empties n then 1 else 0).sum
  stations : ∀ st, st ∈ v'.stations ∨ v'.state.Vacates n st ↔ st ∈ v.stations ∨ v.state.Vacates n st

theorem Voiding.Balanced.refl (n : Nat) (v : Voiding) : v.Balanced n v := ⟨rfl, rfl, rfl, fun _ => Iff.rfl⟩

theorem Voiding.Balanced.trans {n : Nat} {v v' v'' : Voiding} (h : v.Balanced n v') (k : v'.Balanced n v'') : v.Balanced n v'' :=
  ⟨k.removed.trans h.removed, k.detached.trans h.detached, k.freed.trans h.freed, fun st => (k.stations st).trans (h.stations st)⟩

/-- The CALLED slips that a void is to empty, before and after one of its lines has left its slip. -/
theorem State.vacates_pullLine (hr : s.RecordsSound) (hl : s.Linked) (hx : x ∈ s.slips) {m : Member} (hm : m ∈ x.members) (st : StationId) :
    ((!(x.pulled (oneLine m.ticket m.line)).stands && x.isCalled) = true ∧ st = x.station) ∨ (s.pullLine x m.ticket m.line).Vacates m.ticket st ↔
      s.Vacates m.ticket st := by
  have hslips := (State.Pulls.pullLine hr hl hx hm).slips
  rw [hl.slips_pulled hr hx hm] at hslips
  have hnt (hc : x.isCalled = true) := Slip.isTaken_of_called hc
  unfold State.Vacates
  rw [hslips]
  by_cases hs : (x.pulled (oneLine m.ticket m.line)).stands = true
  · rw [if_pos hs, hs]
    simp only [Bool.not_true, Bool.false_and, Bool.false_eq_true, false_and, false_or]
    have hall := x.all_pulled m
    constructor
    · rintro ⟨y, hy, hc, ha, rfl⟩
      obtain ⟨z, hz, rfl⟩ := List.mem_map.mp hy
      split at hc
      · next hn =>
        rw [if_pos hn] at ha ⊢
        rw [Slip.pulled_isCalled] at hc
        exact ⟨x, hx, hc, by rw [← hall, ha], (Slip.pulled_station _ x).symm⟩
      · next hn =>
        rw [if_neg hn] at ha ⊢
        exact ⟨z, hz, hc, ha, rfl⟩
    · rintro ⟨y, hy, hc, ha, rfl⟩
      by_cases hn : y.number = x.number
      · obtain rfl := hr.slip_unique hx hy hn
        exact ⟨_, List.mem_map.mpr ⟨y, hx, if_pos rfl⟩, (Slip.pulled_isCalled _ y).trans hc, hall.trans ha, Slip.pulled_station _ y⟩
      · exact ⟨y, List.mem_map.mpr ⟨y, hy, if_neg hn⟩, hc, ha, rfl⟩
  · rw [if_neg hs, Bool.not_eq_true] at *
    rw [hs]
    simp only [Bool.not_false, Bool.true_and]
    constructor
    · rintro (⟨hc, rfl⟩ | ⟨y, hy, hc, ha, rfl⟩)
      · refine ⟨x, hx, hc, Slip.all_of_pulled_nil ?_, rfl⟩
        have := (Slip.stands_iff_of_not_taken (g := oneLine m.ticket m.line) (hnt hc)).not.mp (by rw [hs]; exact Bool.false_ne_true)
        exact not_not.mp this
      · exact ⟨y, List.mem_of_mem_filter hy, hc, ha, rfl⟩
    · rintro ⟨y, hy, hc, ha, rfl⟩
      by_cases hn : y.number = x.number
      · obtain rfl := hr.slip_unique hx hy hn
        exact .inl ⟨hc, rfl⟩
      · exact .inr ⟨y, List.mem_filter.mpr ⟨hy, by simpa using hn⟩, hc, ha, rfl⟩

theorem Voiding.balanced_pull {v : Voiding} (hr : v.state.RecordsSound) (hl : v.state.Linked) (hx : x ∈ v.state.slips) {m : Member} (hm : m ∈ x.members) :
    v.Balanced m.ticket (v.pull x m.ticket m.line) := by
  have hsum := State.sum_pullLine hr hl hx hm
  have ho := hl.once x hx
  refine ⟨?_, ?_, ?_, fun st => ?_⟩
  · have h1 := hsum (Slip.removable m.ticket)
    have h2 := Slip.removable_pulled ho hm
    show (if x.isTaken then v.removed else v.removed + 1) + ((v.state.pullLine x m.ticket m.line).slips.map (Slip.removable m.ticket)).sum = _
    split <;> rename_i ht <;> simp only [ht, if_true, if_false, Bool.false_eq_true] at h2 <;> omega
  · have h1 := hsum (Slip.detachable m.ticket)
    have h2 := Slip.detachable_pulled ho hm
    show (if x.isTaken then v.detached + 1 else v.detached) + ((v.state.pullLine x m.ticket m.line).slips.map (Slip.detachable m.ticket)).sum = _
    split <;> rename_i ht <;> simp only [ht, if_true, if_false, Bool.false_eq_true] at h2 <;> omega
  · have h1 := hsum fun x => if x.empties m.ticket then 1 else 0
    have h2 := Slip.empties_pulled m x
    show (if (x.pulled (oneLine m.ticket m.line)).stands then v.freed else v.freed + 1) +
      ((v.state.pullLine x m.ticket m.line).slips.map fun x => if x.empties m.ticket then 1 else 0).sum = _
    split <;> rename_i hs <;> simp only [hs, if_true, if_false, Bool.false_eq_true] at h1 h2 <;> omega
  · rw [← State.vacates_pullLine hr hl hx hm st, ← or_assoc]
    refine or_congr_left ?_
    show st ∈ (if !(x.pulled (oneLine m.ticket m.line)).stands && x.isCalled then x.station :: v.stations else v.stations) ↔ _
    split
    · next hc => rw [List.mem_cons, or_comm, hc]; simp
    · next hc => simp [hc]

theorem Voiding.line_balanced {v : Voiding} (hr : v.state.RecordsSound) (hl : v.state.Linked) (n i : Nat) : v.Balanced n (v.line n i) := by
  by_cases h : ∃ l, v.state.lineAt n i = some l ∧ l.state.slipNumber ≠ none
  · obtain ⟨l, hline, hs⟩ := h
    obtain ⟨k, hk⟩ := Option.ne_none_iff_exists'.mp hs
    obtain ⟨x, hx, m, hm, rfl, rfl, heq⟩ := Voiding.line_of_held hr hl hline hk
    rw [heq]
    exact Voiding.balanced_pull hr hl hx hm
  · rw [Voiding.line_of_free fun l hl => not_not.mp fun hs => h ⟨l, hl, hs⟩]
    exact .refl n v

theorem Voiding.lines_balanced (n : Nat) (L : List Nat) {v : Voiding} (hr : v.state.RecordsSound) (hl : v.state.Linked) :
    v.Balanced n (L.foldl (Voiding.line n) v) := by
  induction L generalizing v with
  | nil => exact .refl n v
  | cons i L ih =>
    have hp := v.line_pulls hr hl n i
    exact (Voiding.line_balanced hr hl n i).trans (ih (hp.recordsSound hr) (hp.linked hl))

/-- Once a ticket is voided no slip holds a line of it. -/
theorem State.not_isOf_voidLines (hr : s.RecordsSound) (hl : s.Linked) {k : Ticket} (hk : k ∈ s.tickets) :
    ∀ x ∈ (s.voidLines k).state.slips, ∀ m ∈ x.members, m.isOf k.number = false := by
  intro x hx m hm
  have hp := State.voidLines_pulls hr hl hk
  obtain ⟨l, hline, hs, -⟩ := (hp.linked hl).entries x hx m hm
  have hin : (s.voidLines k).state.inSlip m.ticket m.line = true := by
    rw [State.inSlip_of_some hline, hs]
    cases x.state <;> rfl
  refine Bool.eq_false_iff.mpr fun hof => ?_
  rw [hp.inSlip, beq_iff_eq.mp hof, beq_self_eq_true, Bool.true_and, Bool.and_not_self] at hin
  cases hin

theorem sum_map_eq_zero {l : List Slip} {w : Slip → Nat} (h : ∀ x ∈ l, w x = 0) : (l.map w).sum = 0 := by
  rw [List.map_congr_left h]
  simp

theorem countP_isOf_eq_zero {n : Nat} {l : List Member} (h : ∀ m ∈ l, m.isOf n = false) : l.countP (Member.isOf n) = 0 :=
  List.countP_eq_zero.mpr fun m hm => Bool.eq_false_iff.mp (h m hm)

/-- A slip that is not TAKEN and holds no line of the ticket is not one that a void empties. -/
theorem State.Linked.all_isOf {n : Nat} (hl : s.Linked) (hx : x ∈ s.slips) (ht : x.isTaken = false) (h : ∀ m ∈ x.members, m.isOf n = false) :
    x.members.all (Member.isOf n) = false := by
  obtain ⟨m, hm⟩ := List.exists_mem_of_ne_nil _ (hl.portions x hx ht).1
  refine Bool.eq_false_iff.mpr fun ha => ?_
  exact Bool.false_ne_true ((h m hm).symm.trans (List.all_eq_true.mp ha m hm))

/-- The counts of a void and the stations whose slots it frees, in the terms of the slips before it (R67). -/
theorem State.voidLines_exact (hr : s.RecordsSound) (hl : s.Linked) {k : Ticket} (hk : k ∈ s.tickets) :
    (s.voidLines k).removed = (s.slips.map (Slip.removable k.number)).sum ∧ (s.voidLines k).detached = (s.slips.map (Slip.detachable k.number)).sum ∧
      (s.voidLines k).freed = (s.slips.map fun x => if x.empties k.number then 1 else 0).sum ∧
      ∀ st, st ∈ (s.voidLines k).stations ↔ s.Vacates k.number st := by
  have hb := Voiding.lines_balanced k.number (List.range k.lines.length) (v := ⟨s, 0, 0, 0, []⟩) hr hl
  rw [← State.voidLines] at hb
  have hno := State.not_isOf_voidLines hr hl hk
  have hlt := (State.voidLines_pulls hr hl hk).linked hl
  generalize s.voidLines k = v at hb hno hlt ⊢
  have hall (x : Slip) (hx : x ∈ v.state.slips) (ht : x.isTaken = false) := hlt.all_isOf hx ht (hno x hx)
  have h1 : (v.state.slips.map (Slip.removable k.number)).sum = 0 := sum_map_eq_zero fun x hx => by
    rw [Slip.removable, countP_isOf_eq_zero (hno x hx), ite_self]
  have h2 : (v.state.slips.map (Slip.detachable k.number)).sum = 0 := sum_map_eq_zero fun x hx => by
    rw [Slip.detachable, countP_isOf_eq_zero (hno x hx), ite_self]
  have h3 : (v.state.slips.map fun x => if x.empties k.number then 1 else 0).sum = 0 := sum_map_eq_zero fun x hx => by
    cases ht : x.isTaken with
    | true => simp [Slip.empties, ht]
    | false => simp only [Slip.empties, ht, hall x hx ht, Bool.and_false, Bool.false_eq_true, if_false]
  obtain ⟨b1, b2, b3, b4⟩ := hb
  rw [h1] at b1
  rw [h2] at b2
  rw [h3] at b3
  refine ⟨by simpa using b1, by simpa using b2, by simpa using b3, fun st => ?_⟩
  have h4 : ¬v.state.Vacates k.number st := by
    rintro ⟨x, hx, hc, ha, -⟩
    rw [hall x hx (Slip.isTaken_of_called hc)] at ha
    cases ha
  have := b4 st
  simpa [h4] using this

/-! ## The counts as the reply gives them -/

theorem sum_filter_eq (l : List Slip) (p : Slip → Bool) (w : Slip → Nat) : ((l.filter p).map w).sum = (l.map fun x => if p x then w x else 0).sum := by
  induction l with
  | nil => rfl
  | cons x l ih =>
    rw [List.filter_cons, List.map_cons, List.sum_cons, ← ih]
    split <;> simp

theorem length_filter_eq (l : List Slip) (p : Slip → Bool) : (l.filter p).length = (l.map fun x => if p x then 1 else 0).sum := by
  rw [← sum_filter_eq l p fun _ => 1, List.map_const', List.sum_replicate, smul_eq_mul, Nat.mul_one]

theorem State.removed_eq (n : Nat) (s : State) : (s.slips.map (Slip.removable n)).sum =
    ((s.slips.filter fun x => !x.isTaken).map fun x => (x.members.filter (Member.isOf n)).length).sum := by
  rw [sum_filter_eq]
  refine congrArg _ (List.map_congr_left fun x _ => ?_)
  rw [Slip.removable, List.countP_eq_length_filter]
  cases x.isTaken <;> rfl

theorem State.detached_eq (n : Nat) (s : State) : (s.slips.map (Slip.detachable n)).sum =
    ((s.slips.filter fun x => x.isTaken).map fun x => (x.members.filter (Member.isOf n)).length).sum := by
  rw [sum_filter_eq]
  refine congrArg _ (List.map_congr_left fun x _ => ?_)
  rw [Slip.detachable, List.countP_eq_length_filter]

end Sys2Proof.Machine
end

section
/-! SUPPORT; settling O40: a ticket voided, and the end of draining that its leaving may be (R8, R9, R22, R66 to R68, R89 to R91). -/

namespace Sys2Proof.Machine

variable {s t u a : State} {x : Slip} {k : Ticket}

/-! ## The end of draining, where it comes -/

/-- From `s` to `t` the service may have been drained: what stands either way (R8, R9, R128). -/
structure State.Ends (s t : State) : Prop where
  still : Kept s t
  frame : t = { s with
    service := t.service, secondTimer := t.secondTimer, waves := t.waves, tickets := t.tickets, slips := t.slips, stations := t.stations
    ports := t.ports }
  tickets : t.tickets = s.tickets
  station : ∀ st, t.station st = { s.station st with evacuating := (t.station st).evacuating, due := (t.station st).due }
  queues : ∀ st, t.Queues st → s.Queues st
  started : ∀ st, (t.station st).evacuating = true → (s.station st).evacuating = true
  ended : ∀ st, (s.station st).evacuating = true → (t.station st).evacuating = false → ¬t.Queues st ∧ ∀ q, s.watchersOf st q = true →
    (t.port q).Told ⟨s.clock, .stationState st .down .evacuated (s.station st).config.backup 0⟩
  clears : s.RecordsSound → ∀ ex, s.WavesBut ex → s.Clears t

theorem State.Ends.refl (s : State) : s.Ends s :=
  ⟨.refl s, rfl, rfl, fun _ => rfl, fun _ h => h, fun _ h => h, fun _ h k => absurd (k.symm.trans h) Bool.false_ne_true, fun _ _ _ => .refl s⟩

theorem State.ends_endIfDrained (s : State) : s.Ends s.endIfDrained := by
  by_cases hd : s.service = .draining ∧ s.tickets = []
  · have hk := Kept.endIfDrained s
    rw [State.endIfDrained_of hd] at hk ⊢
    have h := s.drained_endDraining
    refine ⟨hk, h.frame, h.tickets, fun st => ?_, fun st hq => absurd hq (h.queues st), h.started, fun st he hn => ⟨h.queues st, h.ended st he hn⟩,
      fun hr _ hw => .endDraining hr hw⟩
    rw [h.station]
  · rw [State.endIfDrained_of_not hd]
    exact .refl s

/-! ## Members of a ticket -/

/-- Without the lines of ticket `n` (R89, R91). -/
def Slip.voided (n : Nat) (x : Slip) : Slip :=
  if x.isTaken then { x with members := x.members.filter fun m => !m.isOf n } else x.removed (Member.isOf n)

theorem Slip.removed_congr {g g' : Member → Bool} (h : ∀ m ∈ x.members, g m = g' m) : x.removed g = x.removed g' := by
  have h1 : x.members.filter g = x.members.filter g' := List.filter_congr h
  have h2 : (x.members.filter fun m => !g m) = x.members.filter fun m => !g' m := List.filter_congr fun m hm => by rw [h m hm]
  rw [Slip.removed, Slip.removed, h1, h2]

theorem State.Linked.inSlip (hl : s.Linked) (hx : x ∈ s.slips) {m : Member} (hm : m ∈ x.members) : s.inSlip m.ticket m.line = true := by
  obtain ⟨l, hline, hs, -⟩ := hl.entries x hx m hm
  rw [State.inSlip_of_some hline, hs]
  cases x.state <;> rfl

/-- A slip that a void leaves is without the ticket's lines. -/
theorem State.Linked.pulled_voided (hl : s.Linked) (hx : x ∈ s.slips) (n : Nat) : (x.pulled fun a b => a == n && s.inSlip a b) = x.voided n := by
  have hg (m : Member) (hm : m ∈ x.members) : (m.ticket == n && s.inSlip m.ticket m.line) = m.isOf n := by
    rw [hl.inSlip hx hm, Bool.and_true]
    rfl
  unfold Slip.pulled Slip.voided
  split
  · exact congrArg (fun l => { x with members := l }) (List.filter_congr fun m hm => congrArg not (hg m hm))
  · exact Slip.removed_congr hg

/-- A slip that is not TAKEN stands after a void where a member is of another ticket. -/
theorem Slip.stands_voided {n : Nat} (h : x.isTaken = true ∨ x.members.all (Member.isOf n) = false) : (x.voided n).stands = true := by
  unfold Slip.voided
  split
  · next ht => exact (Bool.or_eq_true _ _).mpr (.inl ht)
  · next ht =>
    obtain ⟨m, hm, hno⟩ := List.all_eq_false.mp (h.resolve_left ht)
    have hm' : m ∈ (x.removed (Member.isOf n)).members := List.mem_filter.mpr ⟨hm, by simpa using hno⟩
    rw [Slip.stands, List.isEmpty_eq_false_iff.mpr (List.ne_nil_of_mem hm'), Bool.not_false, Bool.or_true]

theorem Slip.not_stands_voided {n : Nat} (ht : x.isTaken = false) (h : x.members.all (Member.isOf n) = true) : (x.voided n).stands = false := by
  have hnil : (x.removed (Member.isOf n)).members = [] :=
    List.filter_eq_nil_iff.mpr fun m hm => by rw [List.all_eq_true.mp h m hm]; exact Bool.false_ne_true
  rw [Slip.voided, if_neg (Bool.eq_false_iff.mp ht), Slip.stands, hnil]
  show (x.isTaken || _) = false
  rw [ht]
  rfl

/-! ## A ticket voided, before the end of draining -/

/-- The lines of ticket `k` out of their slips, the stations whose slots that freed having considered, and the ticket off the table. -/
def State.voidedOff (k : Ticket) (s : State) : State :=
  let b := (s.voidLines k).state.considerAll fun st => (s.voidLines k).stations.contains st
  (b.post (b.watchersAnd k.origin) (.voided k.number .command)).untabled k

theorem State.voidTicket_eq (k : Ticket) (s : State) : s.voidTicket k = (s.voidedOff k).endIfDrained := rfl

theorem State.seat_mem (hk : k ∈ s.tickets) (h : t.tickets.map Ticket.seat = s.tickets.map Ticket.seat) :
    ∃ j ∈ t.tickets, j.number = k.number ∧ j.wave = k.wave := by
  have hm : k.seat ∈ t.tickets.map Ticket.seat := h ▸ List.mem_map_of_mem hk
  obtain ⟨j, hj, hjk⟩ := List.mem_map.mp hm
  exact ⟨j, hj, congrArg Prod.fst hjk, congrArg Prod.snd hjk⟩

theorem State.Loses.voidedOff (hr : s.RecordsSound) (hk : k ∈ s.tickets) : s.Loses (s.voidedOff k) := by
  have h1 := State.Loses.voidLines hr k
  have hr1 := h1.recordsSound hr
  have h2 := State.Loses.considerAll hr1 fun st => (s.voidLines k).stations.contains st
  obtain ⟨j, hj, hn, hw⟩ := State.seat_mem hk ((Quiet.considerAll (fun st => (s.voidLines k).stations.contains st) (s.voidLines k).state).map_seat.trans
    (s.voidLines_seats k))
  unfold State.voidedOff
  extract_lets b
  have hp : b.Loses (b.post (b.watchersAnd k.origin) (.voided k.number .command)) := .post _ _ b
  exact ((h1.trans h2).trans hp).trans (.untabled (s := b.post _ _) (hp.recordsSound (h2.recordsSound hr1)) hj hn hw)

theorem State.numbers_voidedOff (k : Ticket) (s : State) :
    (s.voidedOff k).tickets.map Ticket.number = (s.tickets.map Ticket.number).filter fun m => decide (m ≠ k.number) := by
  have hseat := (Quiet.considerAll (fun st => (s.voidLines k).stations.contains st) (s.voidLines k).state).map_seat.trans (s.voidLines_seats k)
  have hnum : ((s.voidLines k).state.considerAll fun st => (s.voidLines k).stations.contains st).tickets.map Ticket.number = s.tickets.map Ticket.number := by
    have := congrArg (List.map Prod.fst) hseat
    rwa [List.map_map, List.map_map] at this
  unfold State.voidedOff
  extract_lets b
  change b.tickets.map Ticket.number = _ at hnum
  rw [State.tickets_untabled, ← hnum, List.filter_map]
  exact congrArg _ (List.filter_congr fun j _ => by simp [bne, beq_eq_decide])

/-- VOIDED at the pass and monitor ports and the origin port (R67). -/
theorem State.voidedOff_told {q : PortId} (hq : s.watchersAnd k.origin q = true) (hr : s.RecordsSound) :
    ((s.voidedOff k).port q).Told ⟨s.clock, .voided k.number .command⟩ := by
  have h1 := State.Loses.voidLines hr k
  have hk := h1.sheds.still.trans (.considerAll (fun st => (s.voidLines k).stations.contains st) (s.voidLines k).state)
  unfold State.voidedOff
  extract_lets b
  exact (Kept.untabled k _).told (hk.told_post ((hk.watchersAnd _ _).trans hq) _)

theorem State.Settled.untabled {st : StationId} (h : s.Settled st) (k : Ticket) : (s.untabled k).Settled st := by
  have hf := State.untabled_frame k s
  have hq : (s.untabled k).queue st = s.queue st := State.queue_congr (State.slips_untabled k s) st
  have hb : (s.untabled k).busyCount st = s.busyCount st := by rw [State.busyCount_eq, State.busyCount_eq, State.slips_untabled]
  have hst (d : StationId) := State.station_untabled k s d
  have hclock : (s.untabled k).clock = s.clock := by rw [hf]
  refine ⟨fun ho y hy => ?_, fun y hy => ?_⟩
  · rw [hq] at hy
    have hwave : ((s.untabled k).wave y.wave).hold = (s.wave y.wave).hold := by
      have hys := (State.mem_queue.mp hy).1
      by_cases hv : y.wave = k.wave
      · rw [State.untabled, State.freeIfDone_of_not_done]
        · rfl
        · rintro ⟨-, -, h2⟩
          exact State.slipCount_ne_zero (s := { s with tickets := s.tickets.filter fun u => u.number != k.number }) hys (hv ▸ h2)
      · rw [State.wave_untabled_ne hv]
    have := h.called (hst st ▸ ho) y hy
    rwa [State.eligible, State.fits, hclock, hwave, hb, hst]
  · rw [hq] at hy
    have := h.previewed y hy
    rwa [State.previewable, State.isRunning, hclock, hst]

theorem State.Settled.post {st : StationId} (h : s.Settled st) (r : PortId → Bool) (b : NoticeBody) : (s.post r b).Settled st := ⟨h.called, h.previewed⟩

theorem State.slips_voidedOff (k : Ticket) (s : State) : (s.voidedOff k).slips =
    ((s.voidLines k).state.considerAll fun st => (s.voidLines k).stations.contains st).slips := by
  unfold State.voidedOff
  extract_lets b
  rw [State.slips_untabled]
  rfl

/-! ## A ticket voided where lines and slips agree -/

section Linked

variable (hr : s.RecordsSound) (hl : s.Linked) (hk : k ∈ s.tickets)
include hr hl hk

theorem State.slips_voidLines : (s.voidLines k).state.slips = (s.slips.map (Slip.voided k.number)).filter Slip.stands := by
  rw [(State.voidLines_pulls hr hl hk).slips, List.map_congr_left fun x hx => hl.pulled_voided hx k.number]

theorem State.mem_voidLines (hx : x ∈ s.slips) (h : x.isTaken = true ∨ x.members.all (Member.isOf k.number) = false) :
    x.voided k.number ∈ (s.voidLines k).state.slips := by
  rw [State.slips_voidLines hr hl hk]
  exact List.mem_filter.mpr ⟨List.mem_map_of_mem hx, Slip.stands_voided h⟩

theorem State.considered_voidLines : State.Considered (fun st => s.Vacates k.number st) (s.voidLines k).state
    ((s.voidLines k).state.considerAll fun st => (s.voidLines k).stations.contains st) := by
  refine (State.considerAll_considered ((State.Loses.voidLines hr k).recordsSound hr) _).mono fun st hst => ?_
  exact ((State.voidLines_exact hr hl hk).2.2.2 st).mp (List.contains_iff_mem.mp hst)

/-- A slip that a void leaves, after the considerations that follow. -/
theorem State.considers_voidedOff (hx : x ∈ s.slips) (h : x.isTaken = true ∨ x.members.all (Member.isOf k.number) = false) :
    ∃ y ∈ (s.voidedOff k).slips, s.Considers (x.voided k.number) y := by
  have hc := State.considered_voidLines hr hl hk
  have hlo := State.Loses.voidLines hr k
  have hmem := State.mem_voidLines hr hl hk hx h
  obtain ⟨y, hy, hxy⟩ := forall₂_mem_left hc.slips hmem
  refine ⟨y, by rwa [State.slips_voidedOff], hxy.considers.congr_unit hlo.sheds.still.clock ?_ ?_ (hlo.holds _ (State.slipCount_ne_zero hmem)).2⟩
  · rw [hlo.sheds.station]
  · rw [hlo.sheds.station]

/-- A station of which no CALLED slip is emptied does not consider. -/
theorem State.mem_voidedOff (hx : x ∈ s.slips) (h : x.isTaken = true ∨ x.members.all (Member.isOf k.number) = false)
    (hst : ¬s.Vacates k.number x.station) : x.voided k.number ∈ (s.voidedOff k).slips := by
  rw [State.slips_voidedOff]
  have hxs : (x.voided k.number).station = x.station := by unfold Slip.voided; split <;> rfl
  exact (State.considered_voidLines hr hl hk).others_mem (State.mem_voidLines hr hl hk hx h) (hxs ▸ hst)

/-- A slip whose every member a void takes leaves the board. -/
theorem State.gone_voidedOff (hx : x ∈ s.slips) (ht : x.isTaken = false) (h : x.members.all (Member.isOf k.number) = true) :
    ∀ y ∈ (s.voidedOff k).slips, y.number ≠ x.number := by
  intro y hy hn
  rw [State.slips_voidedOff] at hy
  obtain ⟨z, hz, hzy⟩ := forall₂_mem_right (State.considered_voidLines hr hl hk).slips hy
  rw [State.slips_voidLines hr hl hk] at hz
  obtain ⟨hz, hs⟩ := List.mem_filter.mp hz
  obtain ⟨x', hx', rfl⟩ := List.mem_map.mp hz
  have hxn : (x'.voided k.number).number = x'.number := by unfold Slip.voided; split <;> rfl
  rw [hr.slip_unique hx hx' (by rw [← hxn, ← hzy.considers.number, hn]), Slip.not_stands_voided ht h] at hs
  cases hs

theorem State.settled_voidedOff {st : StationId} (hst : s.Vacates k.number st) : (s.voidedOff k).Settled st := by
  have hset := State.considerAll_settled (s.voidLines k).state (sel := fun st => (s.voidLines k).stations.contains st) (st := st)
    (List.contains_iff_mem.mpr (((State.voidLines_exact hr hl hk).2.2.2 st).mpr hst))
  unfold State.voidedOff
  extract_lets b
  exact State.Settled.untabled (State.Settled.post hset _ _) k

/-- The station of a slip that loses lines to a void, and had been told of it, is told (R90, R93). -/
theorem State.voidedOff_pulled (hx : x ∈ s.slips) (ht : x.isTaken = false) (htold : x.told = true) (hany : x.members.any (Member.isOf k.number) = true)
    {q : PortId} (hq : s.isBound x.station q = true) : ((s.voidedOff k).port q).Told ⟨s.clock,
      if x.members.all (Member.isOf k.number) then .withdrawn x.number x.station x.item .emptied none
      else .changed x.number x.station x.item x.state x.fire (x.removed (Member.isOf k.number)).portions
        (x.removed (Member.isOf k.number)).members.length⟩ := by
  have hp := State.voidLines_pulls hr hl hk
  have hpx := hl.pulled_voided hx k.number
  have hnotice : x.pullNotice (fun a b => a == k.number && s.inSlip a b) =
      if x.members.all (Member.isOf k.number) then .withdrawn x.number x.station x.item .emptied none
      else .changed x.number x.station x.item x.state x.fire (x.removed (Member.isOf k.number)).portions
        (x.removed (Member.isOf k.number)).members.length := by
    have hnil : (x.removed (Member.isOf k.number)).members = [] ↔ x.members.all (Member.isOf k.number) = true := by
      rw [List.all_eq_true]
      exact List.filter_eq_nil_iff.trans (forall₂_congr fun m _ => by simp)
    rw [Slip.pullNotice, hpx, Slip.voided, if_neg (Bool.eq_false_iff.mp ht)]
    simp only [hnil]
  obtain ⟨m, hm, hof⟩ := List.any_eq_true.mp hany
  have h1 := hp.told x hx ht htold (List.any_eq_true.mpr ⟨m, hm, by rw [hl.inSlip hx hm, Bool.and_true]; exact hof⟩) q hq
  rw [hnotice] at h1
  have hkept := Kept.considerAll (fun st => (s.voidLines k).stations.contains st) (s.voidLines k).state
  unfold State.voidedOff
  extract_lets b
  exact (Kept.untabled k _).told ((Kept.post _ _ b).told (hkept.told h1))

/-- The other tickets keep all but the lines that considerations call (R52). -/
theorem State.tickets_voidedOff {j : Ticket} (hj : j ∈ s.tickets) (hn : j.number ≠ k.number) : ∃ i ∈ (s.voidedOff k).tickets, j.Considers i := by
  have hp := State.voidLines_pulls hr hl hk
  have hja : j ∈ (s.voidLines k).state.tickets := by
    rw [hp.tickets]
    refine List.mem_map.mpr ⟨j, hj, Ticket.voided_of_none fun i => ?_⟩
    rw [beq_eq_false_iff_ne.mpr hn, Bool.false_and]
  obtain ⟨i, hi, hji⟩ := forall₂_mem_left ((State.considered_voidLines hr hl hk).linked (hp.linked hl)).2 hja
  refine ⟨i, ?_, hji⟩
  unfold State.voidedOff
  extract_lets b
  rw [State.tickets_untabled]
  refine List.mem_filter.mpr ⟨hi, ?_⟩
  rw [hji.kept]
  simpa using hn

end Linked

end Sys2Proof.Machine
end

section
/-! Settling O40: VOID TICKET (R8, R9, R22, R66 to R68, R89 to R91). -/

namespace Sys2Proof.Machine

variable {t : State}

theorem State.removed_count (s : State) (n : Nat) : (s.slips.filter fun x => !x.isTaken && x.members.all (Member.isOf n)).length =
    (s.slips.map fun x => if x.empties n then 1 else 0).sum := length_filter_eq _ _

/-- With no slip left no station has anything to call or preview. -/
theorem State.Settled.of_no_slips (h : t.slips = []) (st : StationId) : t.Settled st := by
  have hno (x : Slip) : x ∉ t.queue st := fun hx => by
    have := (State.mem_queue.mp hx).1
    rw [h] at this
    cases this
  exact ⟨fun _ x hx => absurd hx (hno x), fun x hx => absurd hx (hno x)⟩

/-- Settles O40: the three refusals, and an accepted void with the end of draining that it may be. -/
theorem voidTicketFrees : Obligations.VoidTicketFrees := by
  intro w s n n1 n0 ht hn hp
  have hex : exec (.voidTicket w) s = .next (ownVoidTicket w.port n (s.handed .voidTicket w.port)) :=
    congrArg Host.Outcome.next (State.frame_of_takes (owner := ownVoidTicket) ht (by rw [hp]; exact parseNumber_of hn))
  have htick : (s.handed .voidTicket w.port).ticket? n = s.ticket? n := rfl
  rw [hex, ownVoidTicket, htick]
  refine ⟨fun hno => ?_, fun hr k hk hkn => ?_⟩
  · rw [State.ticket?_eq_none.mpr hno]
    exact congrArg _ (State.answer_handed ht.still _ _)
  subst hkn
  rw [hr.ticket? hk]
  dsimp only
  rw [State.handed_role]
  refine ⟨fun h1 h2 => ?_, fun h1 h2 h3 => ?_, fun hmay => ?_⟩
  · rw [if_pos ⟨h1, h2⟩]
    exact congrArg _ (State.answer_handed ht.still _ _)
  · rw [if_neg fun hh => hh.2 h2, if_pos ⟨h1, h3⟩]
    exact congrArg _ (State.answer_handed ht.still _ _)
  have hn1 : ¬((s.port w.port).role = .order ∧ k.origin ≠ w.port) := fun ⟨h1, h2⟩ => by
    rcases hmay with h | ⟨h, -⟩
    · rw [h1] at h; cases h
    · exact h2 h
  have hn2 : ¬((s.port w.port).role = .order ∧ k.state ≠ .planned) := fun ⟨h1, h2⟩ => by
    rcases hmay with h | ⟨-, h⟩
    · rw [h1] at h; cases h
    · exact h2 h
  rw [if_neg hn1, if_neg hn2]
  set h := s.handed .voidTicket w.port with hh
  have hrh : h.RecordsSound := hr.handed .voidTicket w.port
  have hkh : k ∈ h.tickets := hk
  have hlh (hm : s.MembersSound) : h.Linked := (hm.linked hr).handed .voidTicket w.port
  have hloses := State.Loses.voidedOff hrh hkh
  have hends := (h.voidedOff k).ends_endIfDrained
  have hfloor (hso : s.StationsSound) : (h.voidTicket k).Floor fun _ => False :=
    ((State.stationsSound_iff.mp hso).congr (t := h) (fun _ => rfl) rfl).voidTicket hrh k
  have hnumbers := h.numbers_voidedOff k
  obtain ⟨hcount, hfreed⟩ := h.voidLines_counts k
  have hexact (hm : s.MembersSound) := State.voidLines_exact hrh (hlh hm) hkh
  have hvoided {q : PortId} (hq : s.watchersAnd k.origin q = true) : ((h.voidedOff k).port q).Told ⟨s.clock, .voided k.number .command⟩ :=
    State.voidedOff_told (s := h) (by rw [hh, State.handed_watchersAnd]; exact hq) hrh
  have hpulled (hm : s.MembersSound) {x : Slip} (hx : x ∈ s.slips) (hxt : x.isTaken = false) (hto : x.told = true)
      (hany : x.members.any (Member.isOf k.number) = true) {q : PortId} (hq : s.isBound x.station q = true) :=
    State.voidedOff_pulled hrh (hlh hm) hkh hx hxt hto hany (q := q) (by rw [hh, State.handed_isBound]; exact hq)
  have hsettled (hm : s.MembersSound) {x : Slip} (hx : x ∈ s.slips) (hc : x.isCalled = true) (ha : x.members.all (Member.isOf k.number) = true) :
      (h.voidedOff k).Settled x.station := State.settled_voidedOff hrh (hlh hm) hkh ⟨x, hx, hc, ha, rfl⟩
  have hstays (hm : s.MembersSound) {x : Slip} (hx : x ∈ s.slips) (hst : x.isTaken = true ∨ x.members.all (Member.isOf k.number) = false) :
      ∃ y ∈ (h.voidedOff k).slips, s.Considers (x.voided k.number) y := by
    obtain ⟨y, hy, hxy⟩ := State.considers_voidedOff hrh (hlh hm) hkh hx hst
    exact ⟨y, hy, hxy.congr rfl (State.handed_station _ _ _ _) rfl⟩
  have hcalm (hm : s.MembersSound) {x : Slip} (hx : x ∈ s.slips) (hst : x.isTaken = true ∨ x.members.all (Member.isOf k.number) = false)
      (hno : ∀ y ∈ s.slips, y.station = x.station → y.isCalled = true → y.members.all (Member.isOf k.number) = false) :
      x.voided k.number ∈ (h.voidedOff k).slips :=
    State.mem_voidedOff hrh (hlh hm) hkh hx hst fun ⟨y, hy, hc, ha, hys⟩ => by
      rw [hno y hy hys hc] at ha
      cases ha
  have hgone (hm : s.MembersSound) {x : Slip} (hx : x ∈ s.slips) (hxt : x.isTaken = false) (ha : x.members.all (Member.isOf k.number) = true) :=
    State.gone_voidedOff hrh (hlh hm) hkh hx hxt ha
  have hothers (hm : s.MembersSound) {j : Ticket} (hj : j ∈ s.tickets) (hjn : j.number ≠ k.number) :=
    State.tickets_voidedOff hrh (hlh hm) hkh hj hjn
  have hclears (hw : s.WavesSound) : h.Clears (h.voidedOff k) ∧ (h.voidedOff k).WavesBut fun _ => False := by
    have hwh := (State.wavesSound_iff.mp hw).congr (t := h) (fun _ => rfl) rfl rfl rfl
    exact ⟨hloses.clears _ hwh, hloses.waves _ hwh⟩
  have hrb := hloses.recordsSound hrh
  have hdrained := (h.voidedOff k).drained_endDraining
  have hof := State.endIfDrained_of (s := h.voidedOff k)
  have hofnot := State.endIfDrained_of_not (s := h.voidedOff k)
  rw [State.voidTicket_eq] at hfloor ⊢
  generalize (h.voidLines k).removed = removed at hcount hfreed hexact ⊢
  generalize (h.voidLines k).detached = detached at hcount hexact ⊢
  generalize (h.voidLines k).freed = freed at hfreed hexact ⊢
  generalize h.voidedOff k = b at *
  have hstand : b = { h with waves := b.waves, tickets := b.tickets, slips := b.slips, stations := b.stations, ports := b.ports } := hloses.stand
  have hservice : b.service = s.service := by rw [hstand]; rfl
  have htimer : b.secondTimer = s.secondTimer := by rw [hstand]; rfl
  generalize b.endIfDrained = u at *
  have hall : Kept h u := hloses.sheds.still.trans hends.still
  have hclock : b.clock = s.clock := hloses.sheds.still.clock
  have hdone : s.service = .draining ∧ u.tickets = [] ↔ b.service = .draining ∧ b.tickets = [] := by rw [hservice, hends.tickets]
  have hstation (st : StationId) : u.station st =
      { s.station st with evacuating := (u.station st).evacuating, due := (u.station st).due } := by
    rw [hends.station, hloses.sheds.station]
    rfl
  refine ⟨_, rfl, ?_, ?_, fun hdr hnil => ?_, fun hw => ?_, fun hno => ?_, fun st => ⟨?_, ?_, ?_, ?_, ?_, fun hso => ?_⟩, fun hm j hj hjn => ?_,
    ⟨removed, detached, freed, State.answer_slot _ _ _ _ _, hcount, hfreed⟩, fun q hq => State.told_answer (hends.still.told (hvoided hq)) _ _ _ _,
    fun hm mine hmine => ?_⟩
  · have hf := hends.frame
    rw [hstand] at hf
    generalize u = y at hf ⊢
    rw [hf]
    rfl
  · exact (congrArg _ hends.tickets).trans hnumbers
  · have hz := hof (hdone.mp ⟨hdr, hnil⟩)
    rw [← hz] at hdrained
    refine ⟨hdrained.service, hdrained.timer, hdrained.slips, fun hm x hx hxt q hq => ?_, fun hw v => ?_, fun q => ?_⟩
    · obtain ⟨y, hy, hxy⟩ := hstays hm hx (.inl hxt)
      have hyx : y.number = x.number ∧ y.station = x.station ∧ y.item = x.item := by
        rw [hxy.kept, Slip.voided, if_pos hxt]
        exact ⟨rfl, rfl, rfl⟩
      have := hdrained.discarded y hy q (by rw [hyx.2.1, hloses.sheds.still.isBound, hh, State.handed_isBound]; exact hq)
      rw [hyx.1, hyx.2.1, hyx.2.2, hclock] at this
      exact State.told_answer this _ _ _ _
    · have hwh := State.wavesSound_iff.mpr ((State.wavesSound_iff.mp hw).congr (t := h) (fun _ => rfl) rfl rfl rfl)
      obtain ⟨hcl, hwb⟩ := hclears hw
      obtain ⟨h1, h2, h3⟩ := (hcl.trans (hends.clears hrb _ hwb)).all_free hwh (hw.not_opened hdr) hnil hdrained.slips v
      rw [State.wave_answer]
      exact ⟨h1, h2, fun hf => ⟨(h3 hf).1, fun q hq => State.told_answer ((h3 hf).2 q (by rw [hh, State.handed_watchers]; exact hq)) _ _ _ _⟩⟩
    · have := hdrained.last q
      rw [hclock] at this
      exact State.toldLast_answer this _ _ _ _
  · obtain ⟨hcl, hwb⟩ := hclears hw
    exact State.WavesAfter.answered ht.free (hcl.trans (hends.clears hrb _ hwb)) _ _
  · have hz := hofnot fun hd => hno (hdone.mpr hd)
    refine ⟨?_, ?_, fun st => ?_⟩
    · rw [hz]; exact hservice
    · rw [hz]; exact htimer
    · rw [State.station_answer, hz, hloses.sheds.station]
      rfl
  · rw [State.station_answer, hstation]
  · rw [State.station_answer, hstation]
  · rw [State.station_answer, hstation]
  · rw [State.station_answer, hstation]
  · rw [State.station_answer]
    have hwatch (q : PortId) (hq : s.watchersOf st q = true) : h.watchersOf st q = true := by rw [hh, State.handed_watchersOf]; exact hq
    cases he : (u.station st).evacuating with
    | true => exact .inl (hloses.sheds.started st (hends.started st he)).symm
    | false =>
      cases hb : (b.station st).evacuating with
      | true =>
        refine .inr ⟨rfl, fun q hq => State.told_answer ?_ _ _ _ _⟩
        have := (hends.ended st hb he).2 q ((hloses.sheds.still.watchersOf st q).trans (hwatch q hq))
        rw [hclock, hloses.sheds.still.configs] at this
        exact this
      | false =>
        cases hs : (s.station st).evacuating with
        | false => exact .inl rfl
        | true => exact .inr ⟨rfl, fun q hq => State.told_answer (hends.still.told ((hloses.sheds.ended st hs hb).2 q (hwatch q hq))) _ _ _ _⟩
  · rw [State.station_answer]
    show _ ↔ (s.station st).evacuating = true ∧ u.queue st ≠ []
    rw [State.queue_ne_nil]
    constructor
    · intro he
      exact ⟨hloses.sheds.started st (hends.started st he), ((hfloor hso).queued st he).resolve_left id⟩
    · rintro ⟨hs, hq⟩
      by_contra he
      rw [Bool.not_eq_true] at he
      cases hb : (b.station st).evacuating with
      | true => exact (hends.ended st hb he).1 hq
      | false => exact (hloses.sheds.ended st hs hb).1 (hends.queues st hq)
  · obtain ⟨i, hi, hji⟩ := hothers hm hj hjn
    exact ⟨i, by rw [State.tickets_answer, hends.tickets]; exact hi, hji⟩
  · obtain rfl : mine = Member.isOf k.number := funext hmine
    obtain ⟨e1, e2, e3, -⟩ := hexact hm
    have hb : ¬(s.service = .draining ∧ u.tickets = []) → u = b := fun hno => hofnot fun hd => hno (hdone.mpr hd)
    refine ⟨?_, fun x hx hc ha => ?_, fun hno st hst x hx hxs hxt ha => ?_, fun x hx => ⟨fun hno => ⟨fun hxt => ?_, fun hxt ha => ?_, fun hxt ha => ?_⟩,
      fun hxt hto q hq => ⟨fun ha => ?_, fun ha hany => ?_⟩⟩⟩
    · rw [State.answer_slot, e1, e2, e3, State.removed_eq, State.detached_eq, ← State.removed_count]
      rfl
    · by_cases hd : s.service = .draining ∧ u.tickets = []
      · have hz := hof (hdone.mp hd)
        rw [← hz] at hdrained
        exact (State.Settled.of_no_slips hdrained.slips _).answer _ _ _ _
      · rw [hb hd]
        exact (hsettled hm hx hc ha).answer _ _ _ _
    · have := hcalm hm hx (.inr ha) fun y hy hys hc => hst y hy (hys.trans hxs) hc
      rw [Slip.voided, if_neg (Bool.eq_false_iff.mp hxt), ← hb hno] at this
      exact this
    · obtain ⟨y, hy, hxy⟩ := hstays hm hx (.inl hxt)
      have hnp : (x.voided k.number).state ≠ .pending := by
        obtain ⟨time, hs⟩ := Slip.isTaken_iff.mp hxt
        rw [Slip.voided, if_pos hxt, hs]
        nofun
      rw [hxy.eq_of_not_pending hnp, Slip.voided, if_pos hxt, ← hb hno] at hy
      exact hy
    · rw [hb hno]
      exact hgone hm hx hxt ha
    · obtain ⟨y, hy, hxy⟩ := hstays hm hx (.inr ha)
      rw [Slip.voided, if_neg (Bool.eq_false_iff.mp hxt)] at hxy
      exact ⟨y, by rw [State.slips_answer, hb hno]; exact hy, hxy⟩
    · obtain ⟨m, hm'⟩ := List.exists_mem_of_ne_nil _ ((hlh hm).portions x hx hxt).1
      have := hpulled hm hx hxt hto (List.any_eq_true.mpr ⟨m, hm', List.all_eq_true.mp ha m hm'⟩) hq
      rw [if_pos ha] at this
      exact State.told_answer (hends.still.told this) _ _ _ _
    · have := hpulled hm hx hxt hto hany hq
      rw [if_neg (Bool.eq_false_iff.mp ha)] at this
      exact State.told_answer (hends.still.told this) _ _ _ _

end Sys2Proof.Machine
end

section
/-! SUPPORT. The tickets of a MARK OUT, one after another: their slips, the table, what is told (R40, R41, R57, R70). -/

namespace Sys2Proof.Machine

variable {s t u : State} {x : Slip} {k : Ticket} {c : ItemCode} {g : Nat → Nat → Bool}

/-! ## A ticket after a mark -/

theorem Ticket.voided_hits_lines (c : ItemCode) (k : Ticket) : (k.voided (k.hits c)).lines = k.lines.map fun l => if l.hit c then { l with state := .void } else l := by
  refine List.ext_getElem? fun i => ?_
  rw [Ticket.voided_getElem?, List.getElem?_map]
  cases hi : k.lines[i]? with
  | none => rfl
  | some l =>
    have hhit : k.hits c k.number i = l.hit c := by
      rw [Ticket.hits, beq_self_eq_true, Bool.true_and, Bool.eq_iff_iff, List.contains_iff_mem, Ticket.mem_linesHit, hi]
      simp
    rw [Option.map_some, Option.map_some, hhit]

theorem Ticket.voided_hits (c : ItemCode) (k : Ticket) : (k.voided (k.hits c)).worked = k.markedOut c := by
  have h := k.voided_hits_lines c
  unfold Ticket.worked Ticket.markedOut
  rw [← h]
  rfl

theorem Ticket.allVoid_voided (c : ItemCode) (k : Ticket) : (k.voided (k.hits c)).allVoid = (k.markedOut c).allVoid := by
  rw [← Ticket.voided_hits]
  rfl

/-! ## Events after the slips -/

/-- An event after lines have left their slips that leaves the slips and the stations. -/
theorem State.Slims.after (h : s.Slims g t) (hk : Kept t u) (hst : Stands t u) (hx : u.slips = t.slips) (hstation : ∀ d, u.station d = t.station d)
    (hc : t.Clears u) (hw : ∀ ex, t.WavesBut ex → u.WavesBut ex) : s.Slims g u where
  still := h.still.trans hk
  stand := h.stand.trans hst
  slips := hx.trans h.slips
  waves ex hh := hw ex (h.waves ex hh)
  clears hh := (h.clears hh).trans hc
  sheds := h.sheds.trans (.of_slips hk hstation hx)
  holds st he hq := (h.holds st (by rwa [hstation] at he) hq).congr hx
  queued st he hn := h.queued st he (by rwa [hstation] at hn)
  told x hxs ht hto hany q hq := hk.told (h.told x hxs ht hto hany q hq)

/-! ## One ticket -/

/-- The table after ticket `n` has met a mark: its lines hit VOID, its state worked out, and it is gone where no line is left. -/
def Ticket.marksOf (c : ItemCode) (ns : List Nat) (k : Ticket) : Ticket := if k.number ∈ ns then k.markedOut c else k

/-- Whether a ticket that a mark has met stays on the table (R70). -/
def Ticket.staysOf (ns : List Nat) (k : Ticket) : Bool := !(decide (k.number ∈ ns) && k.allVoid)

/-- What the ports that follow a ticket are told of its meeting a mark (R41, R57, R70). -/
structure State.ToldShort (c : ItemCode) (k : Ticket) (s t : State) : Prop where
  short : ∀ q, s.watchersAnd k.origin q = true → (t.port q).Told ⟨s.clock, .short k.number c (lineSet (k.linesHit c))⟩
  voided : (k.markedOut c).allVoid = true → ∀ q, s.watchersAnd k.origin q = true → (t.port q).Told ⟨s.clock, .voided k.number .allVoid⟩
  up : k.state ≠ .up → (k.markedOut c).state = .up → ∀ q, s.watchersAnd k.origin q = true →
    (t.port q).Told ⟨s.clock, .up k.number k.wave k.table (s.target k) k.late⟩

/-- A ticket UP after a mark has a line left. -/
theorem Ticket.allVoid_of_up {j : Ticket} (h : j.workedState = .up) : j.allVoid = false := by
  obtain ⟨-, l, hl, time, hs⟩ := (Ticket.workedState_up j).mp h
  refine Bool.eq_false_iff.mpr fun ha => ?_
  have := List.all_eq_true.mp ha l hl
  rw [hs] at this
  cases this

section One

variable (hr : s.RecordsSound) (hl : s.Linked) (hk : k ∈ s.tickets)
include hr hl hk

theorem State.shortOff_slims : s.Slims (k.hits c) (s.shortOff c k) := by
  have hp := (State.shorted_pulls hr hl hk c).1
  have hra := hp.recordsSound hr
  have hmem := State.shorted_mem hr hl hk c
  have hs := hp.toSlims
  unfold State.shortOff
  generalize s.shorted c k = a at hs hra hmem
  split
  · have hpost := hs.after (.post (a.watchersAnd (k.voided (k.hits c)).origin) (.voided (k.voided (k.hits c)).number .allVoid) a) (.post a _ _) rfl
      (fun _ => rfl) (.post _ _ a) fun _ hw => hw.post _ _
    have hrp : (a.post (a.watchersAnd (k.voided (k.hits c)).origin) (.voided (k.voided (k.hits c)).number .allVoid)).RecordsSound :=
      hra.kept (.post _ _ a) (.post a _ _)
    have ho := State.Loses.untabled (k := k.voided (k.hits c)) hrp hmem rfl rfl
    exact hpost.after (.untabled _ _) (.untabled _ _) (State.slips_untabled _ _) (State.station_untabled _ _) (hrp.clears_untabled hmem) ho.waves
  · exact hs.after (.workOut _ a) (Quiet.workOut _ a).stands (State.slips_workOut _ a) (Quiet.workOut _ a).station (.workOut _ a) fun _ hw => hw.workOut _

theorem State.shortOff_tickets : (s.shortOff c k).tickets = (s.tickets.map (Ticket.marksOf c [k.number])).filter (Ticket.staysOf [k.number]) := by
  have ht := (State.shorted_pulls hr hl hk c).1.tickets
  have hone (j : Ticket) (hj : j ∈ s.tickets) : (j.number = k.number ∧ j = k) ∨ (j.number ≠ k.number ∧ j.voided (k.hits c) = j) := by
    by_cases hn : j.number = k.number
    · exact .inl ⟨hn, hr.ticket_unique hk hj hn⟩
    · exact .inr ⟨hn, Ticket.voided_of_none fun i => Bool.eq_false_iff.mpr fun hh => hn (Ticket.hits_number hh)⟩
  have hself : (k.marksOf c [k.number]).staysOf [k.number] = !(k.voided (k.hits c)).allVoid := by
    rw [k.allVoid_voided c, Ticket.marksOf, if_pos (List.mem_singleton_self _), Ticket.staysOf,
      decide_eq_true (show (k.markedOut c).number ∈ [k.number] from List.mem_singleton_self _), Bool.true_and]
  have hother (j : Ticket) (hn : j.number ≠ k.number) : j.marksOf c [k.number] = j ∧ j.staysOf [k.number] = true := by
    simp [Ticket.marksOf, Ticket.staysOf, hn]
  have hmark := k.voided_hits c
  unfold State.shortOff
  generalize s.shorted c k = a at ht
  split
  · next hall =>
    rw [hall, Bool.not_true] at hself
    rw [State.tickets_untabled]
    show (a.tickets.filter _) = _
    rw [ht, List.filter_map, List.filter_map]
    have hf : s.tickets.filter ((fun j => j.number != (k.voided (k.hits c)).number) ∘ Ticket.voided (k.hits c)) =
        s.tickets.filter (Ticket.staysOf [k.number] ∘ Ticket.marksOf c [k.number]) := by
      refine List.filter_congr fun j hj => ?_
      simp only [Function.comp]
      rcases hone j hj with ⟨hn, rfl⟩ | ⟨hn, -⟩
      · rw [hself]
        simp
      · rw [(hother j hn).1, (hother j hn).2]
        simpa using hn
    rw [hf]
    refine List.map_congr_left fun j hj => ?_
    obtain ⟨hj, hs⟩ := List.mem_filter.mp hj
    rcases hone j hj with ⟨-, rfl⟩ | ⟨hn, he⟩
    · exact absurd (hself.symm.trans hs) Bool.false_ne_true
    · rw [he, (hother j hn).1]
  · next hall =>
    rw [Bool.eq_false_iff.mpr hall, Bool.not_false] at hself
    rw [State.tickets_workOut, ht, List.map_map, List.filter_eq_self.mpr]
    · refine List.map_congr_left fun j hj => ?_
      rcases hone j hj with ⟨-, rfl⟩ | ⟨hn, he⟩
      · rw [Ticket.marksOf, if_pos (List.mem_singleton_self _), ← hmark]
        exact if_pos rfl
      · rw [Function.comp, he, if_neg hn, (hother j hn).1]
    · intro i hi
      obtain ⟨j, hj, rfl⟩ := List.mem_map.mp hi
      rcases hone j hj with ⟨-, rfl⟩ | ⟨hn, -⟩
      · exact hself
      · rw [(hother j hn).1, (hother j hn).2]

theorem State.shortOff_told : s.ToldShort c k (s.shortOff c k) := by
  obtain ⟨hp, hpend⟩ := State.shorted_pulls hr hl hk c
  have hra := hp.recordsSound hr
  have hmem := State.shorted_mem hr hl hk c
  have hkept := hp.still
  have hcl := hp.clears (.inr hpend)
  have hshort (q : PortId) (hq : s.watchersAnd k.origin q = true) :
      ((s.shorted c k).port q).Told ⟨s.clock, .short k.number c (lineSet (k.linesHit c))⟩ := by
    obtain ⟨hw, -⟩ := State.voidWaitings_pulls k.number (k.linesHit c) hr hl (k.linesHit_nodup c) fun i hi => by
      obtain ⟨l, hli, hhit⟩ := Ticket.mem_linesHit.mp hi
      exact ⟨l, by rw [hr.lineAt hk, hli], ((Bool.and_eq_true _ _).mp hhit).2⟩
    exact hw.still.told_post ((hw.still.watchersAnd _ _).trans hq) _
  have hall := k.allVoid_voided c
  have hmark := k.voided_hits c
  have hsweep : ((s.shorted c k).wave k.wave).sweep = (s.wave k.wave).sweep := by
    have := State.not_idle_of_ticket hmem
    rw [hcl.kept k.wave fun hh => this hh.2.2.1]
    rfl
  unfold State.shortOff
  generalize s.shorted c k = a at *
  have htarget : a.target (k.voided (k.hits c)) = s.target k := State.target_congr rfl rfl hsweep
  have hka : Kept a (a.post (a.watchersAnd (k.voided (k.hits c)).origin) (.voided (k.voided (k.hits c)).number .allVoid)) := .post _ _ a
  refine ⟨fun q hq => ?_, fun hv q hq => ?_, fun h1 h2 q hq => ?_⟩
  · split
    · exact (Kept.untabled _ _).told (hka.told (hshort q hq))
    · exact (Kept.workOut _ a).told (hshort q hq)
  · rw [if_pos (hall.trans hv)]
    exact (Kept.untabled _ _).told (hkept.told_post (q := q) ((hkept.watchersAnd _ _).trans hq) _)
  · have hup : (k.voided (k.hits c)).workedState = .up := (congrArg Ticket.state hmark).trans h2
    rw [if_neg (Bool.eq_false_iff.mp (Ticket.allVoid_of_up hup))]
    have hups := State.Ups.workOut hra k.number
    have hj : (k.voided (k.hits c)).worked ∈ (a.workOut k.number).tickets := by
      rw [State.tickets_workOut]
      exact List.mem_map.mpr ⟨_, hmem, if_pos rfl⟩
    have := hups.told (hra.kept (.workOut _ a) (Quiet.workOut _ a).stands) hmem hj rfl h1 hup (q := q) ((hkept.watchersAnd _ _).trans hq)
    rw [htarget, hkept.clock] at this
    exact this

end One

/-! ## The tickets of a mark -/

/-- The lines of the tickets `l` that a mark of item `c` voids. -/
def hitsOf (c : ItemCode) (l : List Ticket) : Nat → Nat → Bool := fun a b => l.any fun k => k.hits c a b

theorem State.ToldShort.later (h : s.ToldShort c k t) (hk : Kept t u) : s.ToldShort c k u :=
  ⟨fun q hq => hk.told (h.short q hq), fun hv q hq => hk.told (h.voided hv q hq), fun h1 h2 q hq => hk.told (h.up h1 h2 q hq)⟩

theorem State.ToldShort.earlier (h : t.ToldShort c k u) (hk : Kept s t) (htarget : t.target k = s.target k) : s.ToldShort c k u where
  short q hq := by
    have := h.short q ((hk.watchersAnd _ _).trans hq)
    rwa [hk.clock] at this
  voided hv q hq := by
    have := h.voided hv q ((hk.watchersAnd _ _).trans hq)
    rwa [hk.clock] at this
  up h1 h2 q hq := by
    have := h.up h1 h2 q ((hk.watchersAnd _ _).trans hq)
    rwa [hk.clock, htarget] at this

/-- Tickets met and taken off the table in two goes, or in one. -/
theorem map_filter_map_filter {α : Type} {f f' h : α → α} {p p' r : α → Bool} {l : List α}
    (hp : ∀ a ∈ l, p (f a) = true → f' (f a) = h a ∧ p' (h a) = r (h a)) (hn : ∀ a ∈ l, p (f a) = false → r (h a) = false) :
    (((l.map f).filter p).map f').filter p' = (l.map h).filter r := by
  induction l with
  | nil => rfl
  | cons a l ih =>
    have hrest := ih (fun b hb => hp b (List.mem_cons_of_mem _ hb)) fun b hb => hn b (List.mem_cons_of_mem _ hb)
    rw [List.map_cons, List.map_cons, List.filter_cons, List.filter_cons, ← hrest]
    cases hpa : p (f a) with
    | true =>
      obtain ⟨h1, h2⟩ := hp a List.mem_cons_self hpa
      rw [if_pos rfl, List.map_cons, List.filter_cons, h1, h2]
    | false =>
      rw [if_neg Bool.false_ne_true, hn a List.mem_cons_self hpa, if_neg Bool.false_ne_true]

theorem Ticket.marks_cons {n : Nat} {ns : List Nat} (hn : n ∉ ns) (l : List Ticket) :
    (((l.map (Ticket.marksOf c [n])).filter (Ticket.staysOf [n])).map (Ticket.marksOf c ns)).filter (Ticket.staysOf ns) =
      (l.map (Ticket.marksOf c (n :: ns))).filter (Ticket.staysOf (n :: ns)) := by
  have hnum (ns : List Nat) (j : Ticket) : (j.marksOf c ns).number = j.number := by unfold Ticket.marksOf; split <;> rfl
  have hone (j : Ticket) (hj : j.number = n) : j.marksOf c [n] = j.markedOut c ∧ j.marksOf c (n :: ns) = j.markedOut c ∧
      (j.markedOut c).marksOf c ns = j.markedOut c ∧ (j.markedOut c).staysOf ns = true ∧
      (j.markedOut c).staysOf (n :: ns) = (j.markedOut c).staysOf [n] := by
    subst hj
    have h0 : (j.markedOut c).number = j.number := rfl
    simp [Ticket.marksOf, Ticket.staysOf, h0, hn]
  have hother (j : Ticket) (hj : j.number ≠ n) : j.marksOf c [n] = j ∧ j.staysOf [n] = true ∧ j.marksOf c (n :: ns) = j.marksOf c ns ∧
      (j.marksOf c ns).staysOf (n :: ns) = (j.marksOf c ns).staysOf ns := by
    simp [Ticket.marksOf, Ticket.staysOf, hj, apply_ite Ticket.number, show (j.markedOut c).number = j.number from rfl]
  refine map_filter_map_filter (fun j _ hs => ?_) fun j _ hs => ?_ <;> by_cases hj : j.number = n
  · obtain ⟨h1, h2, h3, h4, h5⟩ := hone j hj
    rw [h1] at hs ⊢
    rw [h2, h3, h4, h5, hs]
    exact ⟨rfl, rfl⟩
  · obtain ⟨h1, -, h3, h4⟩ := hother j hj
    rw [h1, h3, h4]
    exact ⟨rfl, rfl⟩
  · obtain ⟨h1, h2, -, -, h5⟩ := hone j hj
    rw [h1] at hs
    rw [h2, h5, hs]
  · obtain ⟨h1, h2, -⟩ := hother j hj
    rw [h1, h2] at hs
    cases hs

theorem State.Linked.shortOff (hl : s.Linked) (hr : s.RecordsSound) (hk : k ∈ s.tickets) : (s.shortOff c k).Linked :=
  ((State.Agreed.mk (ex := fun _ => True) hl fun _ _ hn => absurd trivial hn).shortOff hr hk c).linked

/-- The tickets of a mark met one after another, the end of draining left out (R40, R41, R70). -/
theorem State.shortOffs_spec (l : List Ticket) (hr : s.RecordsSound) (hl : s.Linked) (hn : (l.map Ticket.number).Nodup) (hm : ∀ k ∈ l, k ∈ s.tickets) :
    s.Slims (hitsOf c l) (l.foldl (State.shortOff c) s) ∧ (l.foldl (State.shortOff c) s).Linked ∧
      (l.foldl (State.shortOff c) s).tickets = (s.tickets.map (Ticket.marksOf c (l.map Ticket.number))).filter (Ticket.staysOf (l.map Ticket.number)) ∧
      ∀ k ∈ l, s.ToldShort c k (l.foldl (State.shortOff c) s) := by
  induction l generalizing s with
  | nil =>
    refine ⟨(State.Pulls.refl hl).toSlims, hl, ?_, nofun⟩
    have h1 : s.tickets.map (Ticket.marksOf c []) = s.tickets := (List.map_congr_left fun j _ => by simp [Ticket.marksOf]).trans (List.map_id _)
    rw [List.map_nil, h1]
    exact (List.filter_eq_self.mpr fun j _ => by simp [Ticket.staysOf]).symm
  | cons k l ih =>
    obtain ⟨hkl, hnl⟩ := List.nodup_cons.mp hn
    have hks := hm k List.mem_cons_self
    have h1 := State.shortOff_slims hr hl hks (c := c)
    have hne (j : Ticket) (hj : j ∈ l) : j.number ≠ k.number := fun he => hkl (he ▸ List.mem_map_of_mem hj)
    have hstay (j : Ticket) (hj : j ∈ l) := State.shortOff_others hr hl hks c (hm j (List.mem_cons_of_mem _ hj)) (hne j hj)
    obtain ⟨i1, i2, i3, i4⟩ := ih (h1.recordsSound hr) (hl.shortOff hr hks) hnl hstay
    refine ⟨h1.trans i1, i2, ?_, fun j hj => ?_⟩
    · rw [List.foldl_cons, i3, State.shortOff_tickets hr hl hks, List.map_cons]
      exact Ticket.marks_cons hkl _
    · rcases List.mem_cons.mp hj with rfl | hj
      · exact (State.shortOff_told hr hl hks).later i1.still
      · have hcl := h1.clears (.inr (State.shorted_pulls hr hl hks c).2)
        refine (i4 j hj).earlier h1.still (State.target_congr rfl rfl ?_)
        rw [hcl.kept j.wave fun hh => State.not_idle_of_ticket (hstay j hj) hh.2.2.1]
        rfl

/-- The end of draining comes last, if it comes (R8, R41). -/
theorem State.shortTickets_eq (l : List Ticket) (hne : l ≠ []) (hr : s.RecordsSound) (hl : s.Linked) (hn : (l.map Ticket.number).Nodup)
    (hm : ∀ k ∈ l, k ∈ s.tickets) : l.foldl (State.shortTicket c) s = (l.foldl (State.shortOff c) s).endIfDrained := by
  induction l generalizing s with
  | nil => exact absurd rfl hne
  | cons k l ih =>
    have hks := hm k List.mem_cons_self
    cases l with
    | nil => exact State.shortTicket_eq hr hl hks c
    | cons j l =>
      obtain ⟨hkl, hnl⟩ := List.nodup_cons.mp hn
      have hne (i : Ticket) (hi : i ∈ j :: l) : i.number ≠ k.number := fun he => hkl (he ▸ List.mem_map_of_mem hi)
      rw [List.foldl_cons, List.foldl_cons,
        State.shortTicket_of_others hr hl hks c (hm j (List.mem_cons_of_mem _ List.mem_cons_self)) (hne j List.mem_cons_self)]
      refine ih (List.cons_ne_nil _ _) ((State.shortOff_slims hr hl hks).recordsSound hr) (hl.shortOff hr hks) hnl fun i hi => ?_
      exact State.shortOff_others hr hl hks c (hm i (List.mem_cons_of_mem _ hi)) (hne i hi)

end Sys2Proof.Machine
end

section
/-! SUPPORT. The event of a MARK OUT in the terms of the board before it (R22, R40, R41, R70, R128). -/

namespace Sys2Proof.Machine

variable {s t : State} {x : Slip} {k : Ticket} {c : ItemCode}

/-! ## The set of lines told (10.4) -/

theorem getLsbD_foldl_twoPow (is : List Nat) (set : LineSet) {i : Nat} (hi : i < 16) :
    (is.foldl (fun set j => set ||| BitVec.twoPow 16 j) set).getLsbD i = (set.getLsbD i || is.contains i) := by
  induction is generalizing set with
  | nil => simp
  | cons j is ih =>
    have hbit : (BitVec.twoPow 16 j).getLsbD i = (i == j) := by
      rw [BitVec.getLsbD_twoPow, Bool.eq_iff_iff, Bool.and_eq_true, decide_eq_true_eq, decide_eq_true_eq, beq_iff_eq]
      omega
    rw [List.foldl_cons, ih, BitVec.getLsbD_or, hbit, List.contains_cons, Bool.or_assoc]

theorem lineSet_getLsbD (is : List Nat) {i : Nat} (hi : i < 16) : (lineSet is).getLsbD i = is.contains i := by
  rw [lineSet, getLsbD_foldl_twoPow is 0 hi]
  simp

/-! ## Tickets and members hit -/

theorem Slip.isTaken_of_pending (h : x.isPending = true) : x.isTaken = false := by
  rw [Slip.isTaken, Slip.isPending_iff.mp h]

theorem Ticket.linesHit_length (c : ItemCode) (k : Ticket) : (k.linesHit c).length = (k.lines.filter (Line.hit c)).length := by
  have h : ∀ (l : List Line) (n : Nat), ((l.zipIdx n).filter fun e => Line.waitsFor c e.1).length = (l.filter (Line.hit c)).length := by
    intro l
    induction l with
    | nil => exact fun _ => rfl
    | cons a l ih =>
      intro n
      rw [List.zipIdx_cons, List.filter_cons, List.filter_cons, show Line.waitsFor c (a, n).1 = a.hit c from rfl]
      split
      · rw [List.length_cons, List.length_cons, ih]
      · exact ih _
  rw [Ticket.linesHit, List.length_map, h]

theorem Ticket.linesHit_isEmpty (c : ItemCode) (k : Ticket) : (!(k.linesHit c).isEmpty) = k.lines.any (Line.hit c) := by
  rw [Bool.eq_iff_iff, List.any_eq_true, Bool.not_eq_true', List.isEmpty_eq_false_iff, ← List.length_pos_iff, Ticket.linesHit_length,
    List.length_pos_iff_exists_mem]
  exact exists_congr fun l => List.mem_filter

theorem State.ticketsHit_eq (s : State) (c : ItemCode) : s.ticketsHit c = s.tickets.filter fun k => k.lines.any (Line.hit c) :=
  List.filter_congr fun k _ => k.linesHit_isEmpty c

theorem State.mem_ticketsHit : k ∈ s.ticketsHit c ↔ k ∈ s.tickets ∧ k.lines.any (Line.hit c) = true := by
  rw [State.ticketsHit_eq, List.mem_filter]

/-- A ticket with no line hit counts nothing. -/
theorem State.linesHit_sum (s : State) (c : ItemCode) : ((s.ticketsHit c).map fun k => (k.linesHit c).length).sum =
    (s.tickets.map fun k => (k.lines.filter (Line.hit c)).length).sum := by
  rw [State.ticketsHit_eq]
  generalize s.tickets = l
  induction l with
  | nil => rfl
  | cons k l ih =>
    rw [List.filter_cons, List.map_cons, List.sum_cons, ← ih]
    split
    · rw [List.map_cons, List.sum_cons, Ticket.linesHit_length]
    · next hn =>
      have h0 : k.lines.filter (Line.hit c) = [] := List.filter_eq_nil_iff.mpr fun l hl hh => hn (List.any_eq_true.mpr ⟨l, hl, hh⟩)
      rw [h0, List.length_nil, Nat.zero_add]

theorem State.hitMember_iff {m : Member} : s.hitMember c m = true ↔
    ∃ k ∈ s.tickets, k.number = m.ticket ∧ ∃ l, k.lines[m.line]? = some l ∧ l.hit c = true := by
  simp only [State.hitMember, List.any_eq_true, Bool.and_eq_true, beq_iff_eq, Option.any_eq_true]

/-- The lines that the tickets hit lose are those of the members hit. -/
theorem State.hitsOf_ticketsHit (s : State) (c : ItemCode) (m : Member) : hitsOf c (s.ticketsHit c) m.ticket m.line = s.hitMember c m := by
  rw [Bool.eq_iff_iff, State.hitMember_iff, hitsOf, List.any_eq_true]
  refine exists_congr fun k => ?_
  rw [State.mem_ticketsHit, Ticket.hits, Bool.and_eq_true, beq_iff_eq, List.contains_iff_mem, Ticket.mem_linesHit, List.any_eq_true]
  constructor
  · rintro ⟨⟨hk, -⟩, hn, hl⟩
    exact ⟨hk, hn.symm, hl⟩
  · rintro ⟨hk, hn, l, hl, hh⟩
    exact ⟨⟨hk, l, List.mem_of_getElem? hl, hh⟩, hn.symm, l, hl, hh⟩

/-! ## The event before the end of draining -/

/-- The tickets that a mark of item `c` hits, each with its lines VOID, the end of draining left out. -/
def State.markedOff (c : ItemCode) (s : State) : State := (s.ticketsHit c).foldl (State.shortOff c) s

section Sound

variable (hr : s.RecordsSound) (hm : s.MembersSound)
include hr hm

theorem State.markedOff_spec (c : ItemCode) : s.Slims (hitsOf c (s.ticketsHit c)) (s.markedOff c) ∧ (s.markedOff c).Linked ∧
    (s.markedOff c).tickets = (s.tickets.map (Ticket.marksOf c ((s.ticketsHit c).map Ticket.number))).filter
      (Ticket.staysOf ((s.ticketsHit c).map Ticket.number)) ∧
    ∀ k ∈ s.ticketsHit c, s.ToldShort c k (s.markedOff c) := by
  obtain ⟨hn, hl⟩ := hr.ticketsHit c
  exact State.shortOffs_spec _ hr (hm.linked hr) hn hl

/-- The lines of a slip that is not PENDING are not WAITING. -/
theorem State.hitMember_of_not_pending (hx : x ∈ s.slips) (hp : x.isPending = false) {m : Member} (hmx : m ∈ x.members) : s.hitMember c m = false := by
  refine Bool.eq_false_iff.mpr fun hh => ?_
  obtain ⟨k, hk, hkn, l, hl, hhit⟩ := State.hitMember_iff.mp hh
  obtain ⟨j, hj, hjn, l', hl', hs, -⟩ := hm.entries x hx m hmx
  obtain rfl := hr.ticket_unique hj hk (hkn.trans hjn.symm)
  obtain rfl := Option.some.inj (hl'.symm.trans hl)
  have hwait := ((Bool.and_eq_true _ _).mp hhit).2
  rw [hs] at hwait
  rw [Slip.isPending] at hp
  cases hst : x.state <;> rw [hst] at hwait hp <;> cases hwait
  cases hp

theorem State.pulled_ticketsHit (c : ItemCode) (hx : x ∈ s.slips) : x.pulled (hitsOf c (s.ticketsHit c)) = s.slipMarkedOut c x := by
  rw [State.slipMarkedOut]
  split
  · next hp =>
    have ht : x.isTaken = false := Slip.isTaken_of_pending hp
    rw [Slip.pulled_of_not_taken ht]
    exact Slip.removed_congr fun m _ => s.hitsOf_ticketsHit c m
  · next hp =>
    exact Slip.pulled_of_none fun m hmx =>
      (s.hitsOf_ticketsHit c m).trans (State.hitMember_of_not_pending hr hm hx (Bool.eq_false_iff.mpr hp) hmx)

theorem State.slips_markedOff (c : ItemCode) : (s.markedOff c).slips =
    (s.slips.map (s.slipMarkedOut c)).filter fun x => decide (x.members ≠ []) || x.isTaken := by
  have hstands : Slip.stands = fun x => decide (x.members ≠ []) || x.isTaken := funext fun x => by
    rw [Slip.stands, Bool.or_comm]
    cases x.members <;> rfl
  rw [(State.markedOff_spec hr hm c).1.slips, hstands, List.map_congr_left fun x hx => State.pulled_ticketsHit hr hm c hx]

theorem State.clears_markedOff (c : ItemCode) : s.Clears (s.markedOff c) := by
  refine (State.markedOff_spec hr hm c).1.clears (.inr fun x hx hp m hmx => ?_)
  rw [State.hitsOf_ticketsHit]
  exact State.hitMember_of_not_pending hr hm hx hp hmx

/-- A ticket without a line hit stays as it was, and on the table. -/
theorem State.tickets_markedOff (c : ItemCode) : (s.markedOff c).tickets =
    (s.tickets.map (Ticket.markedOut c)).filter fun k => k.lines.any fun l => decide (l.state ≠ .void) := by
  have hvoid (k : Ticket) : (k.lines.any fun l => decide (l.state ≠ .void)) = !k.allVoid := by
    rw [Ticket.allVoid, List.not_all_eq_any_not]
    exact congrArg k.lines.any (funext fun l => by cases l.state <;> rfl)
  have hnum (k : Ticket) (hk : k ∈ s.tickets) : k.number ∈ (s.ticketsHit c).map Ticket.number ↔ k ∈ s.ticketsHit c := by
    refine ⟨fun h => ?_, List.mem_map_of_mem⟩
    obtain ⟨j, hj, hjn⟩ := List.mem_map.mp h
    exact hr.ticket_unique hk ((hr.ticketsHit c).2 j hj) hjn ▸ hj
  rw [(State.markedOff_spec hr hm c).2.2.1, List.filter_map, List.filter_map]
  have hmarks (k : Ticket) (hk : k ∈ s.tickets) : k.marksOf c ((s.ticketsHit c).map Ticket.number) = k.markedOut c ∧
      (k.marksOf c ((s.ticketsHit c).map Ticket.number)).staysOf ((s.ticketsHit c).map Ticket.number) = !(k.markedOut c).allVoid := by
    by_cases hh : k ∈ s.ticketsHit c
    · have h1 := (hnum k hk).mpr hh
      rw [Ticket.marksOf, if_pos h1, Ticket.staysOf, decide_eq_true (show (k.markedOut c).number ∈ _ from h1), Bool.true_and]
      exact ⟨rfl, rfl⟩
    · have h1 := fun h => hh ((hnum k hk).mp h)
      obtain ⟨hstate, hall⟩ := hm.worked k hk
      have hsame : k.markedOut c = k := by
        have hlines : (k.lines.map fun l => if l.hit c then { l with state := .void } else l) = k.lines :=
          (List.map_congr_left fun l hl => if_neg fun hc => hh (State.mem_ticketsHit.mpr ⟨hk, List.any_eq_true.mpr ⟨l, hl, hc⟩⟩)).trans (List.map_id' _)
        rw [Ticket.markedOut, hlines]
        exact congrArg (fun z => { k with state := z }) hstate.symm
      rw [Ticket.marksOf, if_neg h1, Ticket.staysOf, decide_eq_false h1, hsame, hall]
      exact ⟨rfl, rfl⟩
  have hfilter : s.tickets.filter (Ticket.staysOf ((s.ticketsHit c).map Ticket.number) ∘ Ticket.marksOf c ((s.ticketsHit c).map Ticket.number)) =
      s.tickets.filter ((fun k => k.lines.any fun l => decide (l.state ≠ .void)) ∘ Ticket.markedOut c) :=
    List.filter_congr fun k hk => (hmarks k hk).2.trans (hvoid _).symm
  rw [hfilter]
  exact List.map_congr_left fun k hk => (hmarks k (List.mem_of_mem_filter hk)).1

/-- The slips that leave a delay list are those that the mark empties (R27). -/
theorem State.waveMarked_markedOff (c : ItemCode) (v : WaveId) : s.waveMarked (s.markedOff c) v = (s.wave v).marked fun n =>
    s.slips.any fun x => decide (x.number = n ∧ x.wave = v ∧ x.isPending = true ∧ (s.slipMarkedOut c x).members = []) := by
  rw [State.waveMarked_eq]
  refine congrArg (fun f => (s.wave v).marked f) (funext fun n => ?_)
  rw [Bool.eq_iff_iff, State.leaves_iff, List.any_eq_true]
  have hpend (x : Slip) (hx : x ∈ s.slips) (hp : x.isPending = true) : (s.markedOff c).Pends x.number ↔ (s.slipMarkedOut c x).members ≠ [] := by
    have h := (State.markedOff_spec hr hm c).1
    rw [← State.pulled_ticketsHit hr hm c hx]
    constructor
    · rintro ⟨y, hy, hyn, hyp⟩
      obtain ⟨x', hx', rfl, hst⟩ := h.mem hy
      obtain rfl := hr.slip_unique hx hx' ((Slip.pulled_number _ _).symm.trans hyn)
      have ht : (x'.pulled (hitsOf c (s.ticketsHit c))).isTaken = false := Slip.isTaken_of_pending hyp
      rw [Slip.stands, ht, Bool.false_or, Bool.not_eq_true', List.isEmpty_eq_false_iff] at hst
      exact hst
    · intro hne
      refine ⟨x.pulled (hitsOf c (s.ticketsHit c)), ?_, Slip.pulled_number _ x, (Slip.pulled_isPending _ x).trans hp⟩
      rw [h.slips]
      refine List.mem_filter.mpr ⟨List.mem_map_of_mem hx, ?_⟩
      rw [Slip.stands, List.isEmpty_eq_false_iff.mpr hne, Bool.not_false, Bool.or_true]
  constructor
  · rintro ⟨⟨x, hx, rfl, hw, hp⟩, hno⟩
    exact ⟨x, hx, decide_eq_true ⟨rfl, hw, hp, Decidable.byContradiction fun hne => hno ((hpend x hx hp).mpr hne)⟩⟩
  · rintro ⟨x, hx, hd⟩
    obtain ⟨rfl, hw, hp, he⟩ := of_decide_eq_true hd
    exact ⟨⟨x, hx, rfl, hw, hp⟩, fun hh => (hpend x hx hp).mp hh he⟩

/-! ## The end of draining -/

/-- Whether a mark takes the last ticket off the table of a service in DRAINING (R8). -/
def State.MarkEnds (c : ItemCode) (s : State) : Prop := s.service = .draining ∧ s.tickets ≠ [] ∧ (s.markedOff c).tickets = []

theorem State.service_markedOff (c : ItemCode) : (s.markedOff c).service = s.service := (State.markedOff_spec hr hm c).1.stand.service

theorem State.shortTickets_of_ends (h : s.MarkEnds c) : (s.ticketsHit c).foldl (State.shortTicket c) s = (s.markedOff c).endDraining := by
  obtain ⟨hn, hl⟩ := hr.ticketsHit c
  have hne : s.ticketsHit c ≠ [] := fun h0 => h.2.1 (by
    have := h.2.2
    rwa [State.markedOff, h0] at this)
  rw [State.shortTickets_eq _ hne hr (hm.linked hr) hn hl]
  exact State.endIfDrained_of ⟨(State.service_markedOff hr hm c).trans h.1, h.2.2⟩

theorem State.shortTickets_of_not_ends (h : ¬s.MarkEnds c) : (s.ticketsHit c).foldl (State.shortTicket c) s = s.markedOff c := by
  by_cases h0 : s.ticketsHit c = []
  · rw [State.markedOff, h0]
    rfl
  · obtain ⟨hn, hl⟩ := hr.ticketsHit c
    rw [State.shortTickets_eq _ h0 hr (hm.linked hr) hn hl]
    obtain ⟨k, hk⟩ := List.exists_mem_of_ne_nil _ h0
    exact State.endIfDrained_of_not fun hd =>
      h ⟨(State.service_markedOff hr hm c).symm.trans hd.1, List.ne_nil_of_mem (hl k hk), hd.2⟩

theorem State.ends_shortTickets (c : ItemCode) : (s.markedOff c).Ends ((s.ticketsHit c).foldl (State.shortTicket c) s) := by
  by_cases h : s.MarkEnds c
  · rw [State.shortTickets_of_ends hr hm h, ← State.endIfDrained_of ⟨(State.service_markedOff hr hm c).trans h.1, h.2.2⟩]
    exact State.ends_endIfDrained _
  · rw [State.shortTickets_of_not_ends hr hm h]
    exact .refl _

end Sound

/-- Without a ticket no slip is PENDING: its lines would stand on the table. -/
theorem State.Linked.not_pending (hl : s.Linked) (h : s.tickets = []) (hx : x ∈ s.slips) : x.isPending = false := by
  refine Bool.eq_false_iff.mpr fun hp => ?_
  have ht : x.isTaken = false := Slip.isTaken_of_pending hp
  obtain ⟨m, hmx⟩ := List.exists_mem_of_ne_nil _ (hl.portions x hx ht).1
  obtain ⟨l, hline, -⟩ := hl.entries x hx m hmx
  obtain ⟨k, hk, -⟩ := State.lineAt_eq_some hline
  rw [h] at hk
  cases hk

theorem State.evacuating_discards (l : List Slip) (s : State) (h : ∀ x ∈ l, x.isPending = false) (st : StationId) :
    ((l.foldl State.discard s).station st).evacuating = (s.station st).evacuating := by
  induction l generalizing s with
  | nil => rfl
  | cons x l ih =>
    rw [List.foldl_cons, ih _ fun y hy => h y (List.mem_cons_of_mem _ hy), State.discard]
    by_cases hst : st = x.station
    · subst hst
      rw [State.station_dropSlip_self, h x List.mem_cons_self, Bool.false_and, Bool.not_false, Bool.and_true]
      rfl
    · rw [State.station_dropSlip_ne hst]
      rfl

/-- The end of draining with no slip PENDING ends no evacuation (R128). -/
theorem State.evacuating_endDraining (h : ∀ x ∈ s.slips, x.isPending = false) (st : StationId) :
    (s.endDraining.station st).evacuating = (s.station st).evacuating := by
  rw [State.endDraining_eq, State.station_post, State.toClosed, State.station_mapStations]
  exact s.evacuating_discards s.slips h st

/-- An evacuation ends exactly where the mark empties its queue (R128). -/
theorem State.evacuating_shortTickets (hr : s.RecordsSound) (hm : s.MembersSound) (c : ItemCode) (st : StationId) :
    (((s.ticketsHit c).foldl (State.shortTicket c) s).station st).evacuating = true ↔
      (s.station st).evacuating = true ∧ (((s.ticketsHit c).foldl (State.shortTicket c) s).Queues st ∨ ¬s.Queues st) := by
  obtain ⟨h, hl, -, -⟩ := State.markedOff_spec hr hm c
  have hstays (hs : (s.station st).evacuating = true) (hq : (s.markedOff c).Queues st ∨ ¬s.Queues st) : ((s.markedOff c).station st).evacuating = true := by
    by_contra he
    rw [Bool.not_eq_true] at he
    exact hq.elim (h.sheds.ended st hs he).1 (fun hn => hn (h.queued st hs he))
  by_cases hd : s.MarkEnds c
  · have hnone (x : Slip) (hx : x ∈ (s.markedOff c).slips) := hl.not_pending hd.2.2 hx
    have hq (a : State) (ha : ∀ x ∈ a.slips, x.isPending = false) : ¬a.Queues st := fun ⟨x, hx, _, hp⟩ => by
      rw [ha x hx] at hp
      cases hp
    rw [State.shortTickets_of_ends hr hm hd, State.evacuating_endDraining hnone]
    have hu := (s.markedOff c).drained_endDraining.queues st
    constructor
    · intro he
      exact ⟨h.sheds.started st he, .inr fun hs => hq _ hnone (h.holds st he hs)⟩
    · rintro ⟨hs, hh⟩
      exact hstays hs (.inr (hh.resolve_left hu))
  · rw [State.shortTickets_of_not_ends hr hm hd]
    constructor
    · intro he
      exact ⟨h.sheds.started st he, Classical.or_iff_not_imp_right.mpr fun hs => h.holds st he (Classical.not_not.mp hs)⟩
    · rintro ⟨hs, hh⟩
      exact hstays hs hh

end Sys2Proof.Machine
end

section
/-! Settling O34: MARK OUT (R8, R9, R22, R27, R39 to R42, R57, R70, R89, R90, R128). -/

namespace Sys2Proof.Machine

variable {s : State}

/-- The board handed to a MARK OUT, its mark made. -/
def State.outMarked (c : ItemCode) (p : PortId) (s : State) : State := (s.handed .markOut p).setOutBoard (insertCode c s.outBoard)

theorem State.exec_markOut {w : Written} {c : ItemCode} {i1 i0 : Byte} (ht : Takes .markOut w s) (hi : i1.toNat * 256 + i0.toNat = c.toNat)
    (hp : paramsOf w.body = some [i1, i0]) : exec (.markOut w) s = .next (ownMarkOut w.port c (s.handed .markOut w.port)) :=
  congrArg Host.Outcome.next (State.frame_of_item (owner := ownMarkOut) ht hi hp)

/-- In service a MARK OUT of an item not out meets the tickets it hits, one after another (R40, R41). -/
theorem State.ownMarkOut_inService {p : PortId} {c : ItemCode} (hc : c ∉ s.outBoard) (hs : s.service ≠ .closed) :
    ownMarkOut p c (s.handed .markOut p) = (((s.outMarked c p).ticketsHit c).foldl (State.shortTicket c) (s.outMarked c p)).answer p .markOut .ok
      (.markedOut c true (s.tickets.map fun k => (k.lines.filter (Line.hit c)).length).sum (s.tickets.filter fun k => k.lines.any (Line.hit c)).length) := by
  have hout : (s.handed .markOut p).isOut c = false := by
    show s.isOut c = false
    simpa [State.isOut] using hc
  have hin : (s.handed .markOut p).inService = true := by
    show s.inService = true
    simpa [State.inService] using hs
  rw [ownMarkOut, if_neg (Bool.eq_false_iff.mp hout)]
  dsimp only
  rw [if_pos hin, State.linesHit_sum, State.outMarked, State.ticketsHit_eq, State.ticketsHit_eq]
  rfl

/-- Settles O34: no change, the mark alone in CLOSED, and in service the tickets hit, with the end of draining that may be. -/
theorem markOutVoidsWaiting : Obligations.MarkOutVoidsWaiting := by
  intro w s c i1 i0 ht hi hp
  rw [State.exec_markOut ht hi hp]
  refine ⟨fun hc => ?_, fun hc hs => ⟨insertCode c s.outBoard, ?_, insertCode_mem c s.outBoard⟩, fun hc hs hr hm => ?_⟩
  · have hout : (s.handed .markOut w.port).isOut c = true := by
      show s.isOut c = true
      simpa [State.isOut] using hc
    rw [ownMarkOut, if_pos hout]
    exact congrArg _ (State.answer_handed ht.still _ _)
  · have hout : (s.handed .markOut w.port).isOut c = false := by
      show s.isOut c = false
      simpa [State.isOut] using hc
    have hin : (s.handed .markOut w.port).inService = false := by
      show s.inService = false
      simpa [State.inService] using hs
    rw [ownMarkOut, if_neg (Bool.eq_false_iff.mp hout)]
    dsimp only
    rw [if_neg (Bool.eq_false_iff.mp hin)]
    exact congrArg _ (State.answer_eq_answered ht.still (by rfl) (by rfl) _ _)
  rw [State.ownMarkOut_inService hc hs]
  set a := s.outMarked c w.port with ha
  have hra : a.RecordsSound := (hr.handed .markOut w.port).beside rfl
  have hma : a.MembersSound := ⟨hm.entries, hm.lines, hm.once, hm.portions, hm.worked⟩
  have hwatch (q : PortId) : a.watchers q = s.watchers q := State.handed_watchers _ _ s q
  have hbound (st : StationId) (q : PortId) : a.isBound st q = s.isBound st q := State.handed_isBound _ _ s st q
  have hof (st : StationId) (q : PortId) : a.watchersOf st q = s.watchersOf st q := State.handed_watchersOf _ _ s st q
  have hand (o q : PortId) : a.watchersAnd o q = s.watchersAnd o q := State.handed_watchersAnd _ _ s o q
  obtain ⟨hslims, -, -, htold⟩ := State.markedOff_spec hra hma c
  have hends := State.ends_shortTickets hra hma c
  have hevac := State.evacuating_shortTickets hra hma c
  have htickets : (a.markedOff c).tickets = (s.tickets.map (Ticket.markedOut c)).filter fun k => k.lines.any fun l => decide (l.state ≠ .void) :=
    State.tickets_markedOff hra hma c
  have hslips : (a.markedOff c).slips = (s.slips.map (s.slipMarkedOut c)).filter fun x => decide (x.members ≠ []) || x.isTaken :=
    State.slips_markedOff hra hma c
  have hclears := State.clears_markedOff hra hma c
  have hmarked := State.waveMarked_markedOff hra hma c
  have hpull (x : Slip) (hx : x ∈ s.slips) : x.pulled (hitsOf c (a.ticketsHit c)) = s.slipMarkedOut c x := State.pulled_ticketsHit hra hma c hx
  have hmem (m : Member) : hitsOf c (a.ticketsHit c) m.ticket m.line = s.hitMember c m := a.hitsOf_ticketsHit c m
  have hended (h : a.MarkEnds c) := State.shortTickets_of_ends hra hma h
  have hnot (h : ¬a.MarkEnds c) := State.shortTickets_of_not_ends hra hma h
  have hdrained := (a.markedOff c).drained_endDraining
  have hrb := hslims.recordsSound hra
  have hdone : a.MarkEnds c ↔ s.service = .draining ∧ s.tickets ≠ [] ∧ (a.markedOff c).tickets = [] := Iff.rfl
  generalize a.markedOff c = b at *
  have hstand : b = { a with waves := b.waves, tickets := b.tickets, slips := b.slips, stations := b.stations, ports := b.ports } := hslims.stand
  have hboard : b.outBoard = insertCode c s.outBoard := by rw [hstand]; rfl
  have hclock : b.clock = s.clock := hslims.still.clock
  generalize (a.ticketsHit c).foldl (State.shortTicket c) a = u at *
  rw [← hends.tickets] at htickets hdone
  have hstation (st : StationId) : u.station st = { s.station st with evacuating := (u.station st).evacuating, due := (u.station st).due } := by
    rw [hends.station, hslims.sheds.station]
    rfl
  refine ⟨_, rfl, ?_, fun d => ?_, htickets, fun hdr hne hnil => ?_, fun hno => ?_, fun st => ⟨?_, ?_, ?_, ?_, ?_, fun hs he q hq => ?_⟩,
    fun k hk hhit q hq => ⟨⟨lineSet (k.linesHit c), ?_, fun i hi => ?_⟩, fun hv => ?_, fun h1 h2 => ?_⟩,
    fun x hx hpend hprev hany q hq => ?_, State.answer_slot _ _ _ _ _⟩
  · have hf := hends.frame
    rw [hstand] at hf
    generalize u = y at hf ⊢
    rw [hf]
    rfl
  · have hf : u.outBoard = insertCode c s.outBoard := by rw [hends.frame]; exact hboard
    show d ∈ u.outBoard ↔ _
    rw [hf]
    exact insertCode_mem c s.outBoard d
  · rw [← hended (hdone.mpr ⟨hdr, hne, hnil⟩)] at hdrained
    refine ⟨hdrained.service, hdrained.timer, hdrained.slips, fun x hx hxt q hq => ?_, fun hw v => ?_, fun q => ?_⟩
    · have hxb : x ∈ b.slips := by
        have hsame : s.slipMarkedOut c x = x := if_neg fun hp => by
          rw [Slip.isTaken_of_pending hp] at hxt
          cases hxt
        rw [hslips]
        exact List.mem_filter.mpr ⟨List.mem_map.mpr ⟨x, hx, hsame⟩, (Bool.or_eq_true _ _).mpr (.inr hxt)⟩
      have := hdrained.discarded x hxb q ((hslims.still.isBound _ _).trans ((hbound _ _).trans hq))
      rw [hclock] at this
      exact State.told_answer this _ _ _ _
    · have hwa : a.WavesBut fun _ => False := (State.wavesSound_iff.mp hw).congr (fun _ => rfl) rfl rfl rfl
      obtain ⟨h1, h2, h3⟩ := (hclears.trans (hends.clears hrb _ (hslims.waves _ hwa))).all_free (State.wavesSound_iff.mpr hwa) (hw.not_opened hdr) hnil
        hdrained.slips v
      rw [State.wave_answer]
      exact ⟨h1, h2, fun hf => ⟨(h3 hf).1, fun q hq => State.told_answer ((h3 hf).2 q ((hwatch q).trans hq)) _ _ _ _⟩⟩
    · have := hdrained.last q
      rw [hclock] at this
      exact State.toldLast_answer this _ _ _ _
  · have hub := hnot fun hh => hno (hdone.mp hh)
    subst hub
    refine ⟨?_, ?_, fun st => ?_, hslips, fun v => ⟨fun h1 h2 h3 h4 => ?_, fun hstays => ?_⟩⟩
    · show u.service = _
      rw [hstand]
      rfl
    · show u.secondTimer = _
      rw [hstand]
      rfl
    · rw [State.station_answer, hslims.sheds.station]
      rfl
    · have hv : a.EmptiesWave u v := ⟨h1, h4, h2, h3⟩
      rw [State.wave_answer, hclears.freed v hv]
      exact ⟨rfl, rfl, rfl, fun q hq => State.told_answer (hclears.told v hv q ((hwatch q).trans hq)) _ _ _ _⟩
    · rw [State.wave_answer, hclears.kept v fun hh => hstays ⟨hh.1, hh.2.2⟩, hmarked]
      rfl
  · rw [State.station_answer, hstation]
  · rw [State.station_answer, hstation]
  · rw [State.station_answer, hstation]
  · rw [State.station_answer, hstation]
  · have hqu : u.queue st ≠ [] ↔ u.Queues st := State.queue_ne_nil
    have hqs : s.queue st = [] ↔ ¬a.Queues st := not_not.symm.trans (not_congr (State.queue_ne_nil (s := a)))
    rw [State.station_answer]
    refine (hevac st).trans (and_congr_right fun _ => or_congr ?_ hqs.symm)
    exact hqu.symm
  · rw [State.station_answer] at he
    have hwq : a.watchersOf st q = true := (hof st q).trans hq
    cases hb : (b.station st).evacuating with
    | true =>
      have := (hends.ended st hb he).2 q ((hslims.still.watchersOf st q).trans hwq)
      rw [hclock, hslims.still.configs] at this
      exact State.told_answer this _ _ _ _
    | false => exact State.told_answer (hends.still.told ((hslims.sheds.ended st hs hb).2 q hwq)) _ _ _ _
  · have h := htold k (State.mem_ticketsHit.mpr ⟨hk, hhit⟩)
    exact State.told_answer (hends.still.told (h.short q ((hand _ _).trans hq))) _ _ _ _
  · rw [lineSet_getLsbD _ hi, List.contains_iff_mem, Ticket.mem_linesHit]
  · have h := htold k (State.mem_ticketsHit.mpr ⟨hk, hhit⟩)
    have hall : (k.markedOut c).allVoid = true := List.all_eq_true.mpr fun l hl => by rw [hv l hl]; rfl
    exact State.told_answer (hends.still.told (h.voided hall q ((hand _ _).trans hq))) _ _ _ _
  · have h := htold k (State.mem_ticketsHit.mpr ⟨hk, hhit⟩)
    exact State.told_answer (hends.still.told (h.up h1 h2 q ((hand _ _).trans hq))) _ _ _ _
  · obtain ⟨m, hmx, hmh⟩ := List.any_eq_true.mp hany
    have h := hslims.told x hx (Slip.isTaken_of_pending hpend) (by rw [Slip.told, hprev]; rfl) (List.any_eq_true.mpr ⟨m, hmx, (hmem m).trans hmh⟩) q
      ((hbound _ _).trans hq)
    rw [Slip.pullNotice, hpull x hx] at h
    refine ⟨fun he => ?_, fun hne => ?_⟩
    · rw [if_pos he] at h
      exact State.told_answer (hends.still.told h) _ _ _ _
    · rw [if_neg hne, Slip.isPending_iff.mp hpend] at h
      exact State.told_answer (hends.still.told h) _ _ _ _

end Sys2Proof.Machine
end
